-- ==== Sys2Proof/Word.lean ====
section
/-! DEFINITION. The bit vectors the manual itself treats as bits (bytes on a link, 32-bit stamps, sets of
flags) and the plain table operations every block uses: replacing one entry of a table, mapping a whole table,
and visiting the units of a table in index order (00_scope.md 6.3: scans "in index order" run from the lowest
index upward). -/

namespace Sys2Proof

/-- One byte of the panel link, of a frame's data or of a service message. -/
abbrev Byte := BitVec 8

/-- A reading of the free-running 1 µs count, 32 bits wide (00_scope.md 6.1); differences are taken modulo 2^32. -/
abbrev Stamp := BitVec 32

variable {α β σ : Type} {n : Nat}

/-- The table with entry `i` replaced. -/
def vput (v : Vector α n) (i : Fin n) (a : α) : Vector α n := v.set i.val a i.isLt

/-- The table with every entry replaced by `f` of it. -/
def vmap (f : α → β) (v : Vector α n) : Vector β n := .mk (.mk (v.toArray.toList.map f)) (by simp)

/-- The entry a number names, none where the number lies outside the table. -/
def vget? (v : Vector α n) (i : Nat) : Option α := if h : i < n then some v[i] else none

/-- The unit a number names, none where it lies outside the numbering. -/
def unit? (n i : Nat) : Option (Fin n) := if h : i < n then some (Fin.mk i h) else none

/-- Visit the units 0 to n − 1 in index order. -/
def each (n : Nat) (f : Fin n → σ → σ) (s : σ) : σ := (List.finRange n).foldl (fun s i => f i s) s

/-- The unit of lowest index that satisfies `p`. -/
def firstUnit (n : Nat) (p : Fin n → Bool) : Option (Fin n) := (List.finRange n).find? p

/-- Some unit satisfies `p`. -/
def anyUnit (n : Nat) (p : Fin n → Bool) : Bool := (List.finRange n).any p

/-- Every unit satisfies `p`. -/
def allUnits (n : Nat) (p : Fin n → Bool) : Bool := (List.finRange n).all p

/-- Apply `f` k times. -/
def times : Nat → (σ → σ) → σ → σ
  | 0, _, s => s
  | k + 1, f, s => times k f (f s)

end Sys2Proof
end

