-- ==== Sys2Proof/Syntax.lean ====
section
/-! DEFINITION. The commands of the BC-460: one constructor of `Instr` for each row of spec/opcode_table.json, and the
data they carry: table entries, network frames, management requests. A command also carries `dt`, the time in µs
from the command before it (assumption 1). Numbers that a request carries are plain numbers, so that a value out of
range can be written and is refused by the rule that refuses it; a closed list of names is an inductive type. An
entry of a TABLE_WRITE is an `Option`: `none` is an entry of the right size in which a field that carries a closed
list of names (an enumeration, a mark, a set, a port) holds a number that names none of them, which its table's
field check refuses BAD_FIELD. -/

namespace Sys2Proof

/-! ### Network frames (chapter 1) -/

/-- BASE has an 11-bit identifier, EXTENDED a 29-bit one (R8). -/
inductive Format | base | extended
deriving DecidableEq, Repr, Inhabited

/-- The largest identifier of a format (Table 1.4). -/
def Format.maxId : Format → Nat
  | .base => 2047
  | .extended => 536870911

/-- A data frame as the part holds it; its length is the length of `data`, 0 to 8 bytes (R8). -/
structure Frame where
  format : Format
  id : Nat
  data : List Byte
deriving DecidableEq, Repr, Inhabited

/-- A frame as its controller delivers it: a remote or data frame, its length code 0 to 15 and its data. -/
structure RxFrame where
  remote : Bool
  format : Format
  id : Nat
  lengthCode : Fin 16
  data : List Byte
deriving DecidableEq, Repr, Inhabited

/-- A subset of the network ports N0, N1, N2. -/
structure PortSet where
  n0 : Bool
  n1 : Bool
  n2 : Bool
deriving DecidableEq, Repr, Inhabited

def PortSet.has (p : PortSet) (i : Fin 3) : Bool :=
  match i with
  | 0 => p.n0
  | 1 => p.n1
  | 2 => p.n2

def PortSet.none : PortSet := { n0 := false, n1 := false, n2 := false }

/-- A subset of N0, N1, N2 and PANEL (Table 1.4). -/
structure ForwardSet where
  ports : PortSet
  panel : Bool
deriving DecidableEq, Repr, Inhabited

/-! ### Table entries -/

inductive BitRate | k125 | k250 | k500
deriving DecidableEq, Repr, Inhabited

inductive DefaultAction | drop | panel
deriving DecidableEq, Repr, Inhabited

/-- Table 1.1 (times in ms). -/
structure PortEntry where
  enabled : Bool
  bitRate : BitRate
  defaultAction : DefaultAction
  wakeEnabled : Bool
  maxAge : Nat
  quietTime : Nat
deriving DecidableEq, Repr, Inhabited

/-- Table 1.4, without its two counters, which are the entry's dynamic state. -/
structure MatchEntry where
  enabled : Bool
  ports : PortSet
  format : Format
  id : Nat
  mask : Nat
  minLength : Nat
  decode : Bool
  forward : ForwardSet
  timeout : Nat
  capture : Bool
deriving DecidableEq, Repr, Inhabited

inductive SourceKind | none | frame | pulse | input | panel
deriving DecidableEq, Repr, Inhabited

inductive ByteOrder | little | big
deriving DecidableEq, Repr, Inhabited

inductive Quantity | frequency | duty
deriving DecidableEq, Repr, Inhabited

inductive Substitution | hold | default
deriving DecidableEq, Repr, Inhabited

/-- Table 2.1. -/
structure SlotDesc where
  kind : SourceKind
  sourceEntry : Nat
  startBit : Nat
  length : Nat
  order : ByteOrder
  signed : Bool
  pulse : Nat
  quantity : Quantity
  line : Nat
  panelTimeout : Nat
  num : Int
  den : Nat
  offset : Int
  min : Int
  max : Int
  reserved : Bool
  policy : Substitution
  default : Int
  rangeFault : Bool
  senderFault : Bool
deriving DecidableEq, Repr, Inhabited

inductive DistanceSource | pulseP0 | speedSlot
deriving DecidableEq, Repr, Inhabited

/-- Table 3.2; a slot that is NONE is `none`. -/
structure SpeedEntry where
  primary : Option Nat
  fallback : Option Nat
  mismatchLimit : Nat
  mismatchPercent : Nat
  mismatchTime : Nat
  standstill : Nat
  source : DistanceSource
  pulsesPerKm : Nat
deriving DecidableEq, Repr, Inhabited

inductive PulseMode | off | frequency | duty
deriving DecidableEq, Repr, Inhabited

inductive EdgePolarity | rising | falling
deriving DecidableEq, Repr, Inhabited

/-- Table 3.1 (noise and periods in µs, gate in ms, standstill in mHz). -/
structure PulseEntry where
  mode : PulseMode
  polarity : EdgePolarity
  noise : Nat
  gate : Nat
  standstill : Nat
  minPeriod : Nat
  maxPeriod : Nat
deriving DecidableEq, Repr, Inhabited

/-- The eight door functions of an input line (Table 6.3). -/
inductive DoorFunction
  | closed | locked | openEnd | obstruction | emergency | releaseRequest | openRequest | closeRequest
deriving DecidableEq, Repr, Inhabited

inductive InputFunction
  | unused | ackButton | stopRequest | generic
  | door (f : DoorFunction) (d : Nat)
deriving DecidableEq, Repr, Inhabited

inductive InputPolarity | activeHigh | activeLow
deriving DecidableEq, Repr, Inhabited

/-- Table 6.3 (debounce in ms). -/
structure InputEntry where
  function : InputFunction
  polarity : InputPolarity
  debounce : Nat
deriving DecidableEq, Repr, Inhabited

/-- The sources of an output line (Table 6.5, Table 6.6). -/
inductive LineSource
  | off | on | telltale (t : Nat) | condition (c : Nat) | anyStopLit | doorRelease (d : Nat) | doorOpen (d : Nat)
  | drivePermit | stopBrakeRequest | chimeActive | panel
deriving DecidableEq, Repr, Inhabited

inductive OutputPolarity | normal | inverted
deriving DecidableEq, Repr, Inhabited

/-- Table 6.5. -/
structure OutputEntry where
  source : LineSource
  polarity : OutputPolarity
  direct : LineSource
deriving DecidableEq, Repr, Inhabited

inductive InvalidAction | hold | zero | parkAt
deriving DecidableEq, Repr, Inhabited

/-- Table 4.1; a point is its x and its y. -/
structure GaugeEntry where
  enabled : Bool
  source : Nat
  fullScale : Nat
  pointCount : Nat
  points : Vector (Int × Nat) 16
  slew : Nat
  deadband : Nat
  action : InvalidAction
  parkPosition : Nat
deriving DecidableEq, Repr

inductive Comparator | above | below | equal | notEqual | anyBits | notUsable | faultActive
deriving DecidableEq, Repr, Inhabited

inductive InvalidPolicy | isFalse | isTrue | hold
deriving DecidableEq, Repr, Inhabited

/-- The 21 fault codes of Table 8.1, in the order of their numbers. -/
inductive FaultCode
  | frameMissing | frameShort | portOff | signalRange | signalSender | panelSignalStale | pulseRange | pulseStuck
  | speedPrimaryLost | speedLost | speedMismatch | gaugeHome | lampOpen | lampShort | doorOpenTimeout
  | doorCloseTimeout | doorSwitchConflict | doorForced | doorObstructed | doorEmergency | panelLinkLost
deriving DecidableEq, Repr, Inhabited

/-- A condition's fault source: ANY, NONE or a source number (Table 5.1). -/
inductive FaultSource | any | none | num (n : Nat)
deriving DecidableEq, Repr, Inhabited

/-- Table 5.1 (delays in ms). -/
structure CondEntry where
  enabled : Bool
  slot : Nat
  comparator : Comparator
  threshold : Int
  hysteresis : Nat
  mask : Nat
  code : FaultCode
  source : FaultSource
  onDelay : Nat
  offDelay : Nat
  gate : Option Nat
  policy : InvalidPolicy
deriving DecidableEq, Repr, Inhabited

/-- The classes rank STOP highest, then CAUTION, then NOTICE (R98). -/
inductive TelltaleClass | stop | caution | notice
deriving DecidableEq, Repr, Inhabited

inductive ShowMode | steady | slowFlash | fastFlash
deriving DecidableEq, Repr, Inhabited

/-- Table 5.6. -/
structure TelltaleEntry where
  enabled : Bool
  condition : Nat
  cls : TelltaleClass
  show_ : ShowMode
  latch : Bool
  chime : Option Nat
  bulbCheck : Bool
deriving DecidableEq, Repr, Inhabited

/-- Table 6.1 (tone in Hz, times in ms; 0 repeats is continuous). -/
structure ChimePattern where
  tone : Nat
  onTime : Nat
  offTime : Nat
  repeats : Nat
  priority : Nat
deriving DecidableEq, Repr, Inhabited

/-- Table 7.1 (speed in 0.01 km/h, times in ms). -/
structure DoorEntry where
  enabled : Bool
  releaseSpeed : Nat
  openMax : Nat
  closeMax : Nat
  reversalLimit : Nat
  closingChime : Option Nat
  emergencyChime : Option Nat
  parkingBrake : Option Nat
  autoClose : Bool
deriving DecidableEq, Repr, Inhabited

/-- Table 8.2: a code entry (0 to 20) or the general entry (21). -/
inductive FaultCfgEntry
  | code (confirm : Nat)
  | general (healLimit : Nat) (freeze : Vector (Option Nat) 6)
deriving DecidableEq, Repr

/-- Table 9.1 (spacing in ms). -/
structure ServiceEntry where
  port : Fin 3
  format : Format
  requestId : Nat
  responseId : Nat
  spacing : Nat
deriving DecidableEq, Repr, Inhabited

/-- Table 10.6 (times in ms, the run-on time in s); `levels` in the order of Table 10.8. -/
structure SystemEntry where
  reportPeriod : Nat
  panelTimeout : Nat
  bulbTime : Nat
  runOnTime : Nat
  parkingBrake : Option Nat
  stopChime : Option Nat
  levels : Vector Nat 12
  threshold : Nat
deriving DecidableEq, Repr

/-- The fifteen tables, in the order of their identifiers (Table 10.5). -/
inductive TableId
  | port | matchTable | slot | speed | pulse | input | output | gauge | condition | telltale | chime | door
  | faultCfg | service | system
deriving DecidableEq, Repr, Inhabited

/-! ### Management requests (chapter 10) -/

inductive DoorAction | release | open_ | close
deriving DecidableEq, Repr, Inhabited

/-- The selectors of FAULT_READ (R165). -/
inductive FaultSelector | list | record | latch | live
deriving DecidableEq, Repr, Inhabited

/-- A management request, as its payload spells it (Table 10.4). The first three constructors are the payloads that
R190 and R191 answer before any rule of a request: each carries the request code of its response. -/
inductive Request
  | badRequest (code : Nat)
  | badLength (code : Nat)
  | badTable (code : Nat)
  | tableWritePort (index : Nat) (entry : Option PortEntry)
  | tableWriteMatch (index : Nat) (entry : Option MatchEntry)
  | tableWriteSlot (index : Nat) (entry : Option SlotDesc)
  | tableWriteSpeed (index : Nat) (entry : Option SpeedEntry)
  | tableWritePulse (index : Nat) (entry : Option PulseEntry)
  | tableWriteInput (index : Nat) (entry : Option InputEntry)
  | tableWriteOutput (index : Nat) (entry : Option OutputEntry)
  | tableWriteGauge (index : Nat) (entry : Option GaugeEntry)
  | tableWriteCondition (index : Nat) (entry : Option CondEntry)
  | tableWriteTelltale (index : Nat) (entry : Option TelltaleEntry)
  | tableWriteChime (index : Nat) (entry : Option ChimePattern)
  | tableWriteDoor (index : Nat) (entry : Option DoorEntry)
  | tableWriteFaultCfg (index : Nat) (entry : Option FaultCfgEntry)
  | tableWriteService (index : Nat) (entry : Option ServiceEntry)
  | tableWriteSystem (index : Nat) (entry : Option SystemEntry)
  | tableRead (table : TableId) (index : Nat)
  | start (label : BitVec 32)
  | stop
  | statusRead
  | flagsClear (flags : BitVec 16)
  | counterRead (group first count : Nat)
  | heartbeat
  | restart
  | wake
  | signalWrite (slot : Nat) (value : Int)
  | signalRead (slot : Nat)
  | distanceRead
  | odometerSet (metres : Nat)
  | txFrame (port format id : Nat) (data : List Byte)
  | doorRequest (door : Nat) (action : Option DoorAction)
  | warningAck
  | chime (pattern : Nat)
  | chimeStop
  | outputSet (line value : Nat)
  | faultRead (selector : Option FaultSelector) (position : Nat)
  | faultClear
deriving DecidableEq, Repr

/-! ### The commands -/

/-- The commands of the BC-460, one for each row of spec/opcode_table.json. `dt` is the time in µs since the command
before it. A row that is a management request is the arrival of a valid REQUEST frame that carries it, with `tag`
(R186, R187; assumption 4); a row that is a service of Table 9.4 is the reception, on the diagnostic port, of the
request frame that carries it (R9, R169; assumption 5). -/
inductive Instr
  | tableWritePort (dt : Nat) (tag : Byte) (index : Nat) (entry : Option PortEntry)
  | tableWriteMatch (dt : Nat) (tag : Byte) (index : Nat) (entry : Option MatchEntry)
  | tableWriteSlot (dt : Nat) (tag : Byte) (index : Nat) (entry : Option SlotDesc)
  | tableWriteSpeed (dt : Nat) (tag : Byte) (index : Nat) (entry : Option SpeedEntry)
  | tableWritePulse (dt : Nat) (tag : Byte) (index : Nat) (entry : Option PulseEntry)
  | tableWriteInput (dt : Nat) (tag : Byte) (index : Nat) (entry : Option InputEntry)
  | tableWriteOutput (dt : Nat) (tag : Byte) (index : Nat) (entry : Option OutputEntry)
  | tableWriteGauge (dt : Nat) (tag : Byte) (index : Nat) (entry : Option GaugeEntry)
  | tableWriteCondition (dt : Nat) (tag : Byte) (index : Nat) (entry : Option CondEntry)
  | tableWriteTelltale (dt : Nat) (tag : Byte) (index : Nat) (entry : Option TelltaleEntry)
  | tableWriteChime (dt : Nat) (tag : Byte) (index : Nat) (entry : Option ChimePattern)
  | tableWriteDoor (dt : Nat) (tag : Byte) (index : Nat) (entry : Option DoorEntry)
  | tableWriteFaultCfg (dt : Nat) (tag : Byte) (index : Nat) (entry : Option FaultCfgEntry)
  | tableWriteService (dt : Nat) (tag : Byte) (index : Nat) (entry : Option ServiceEntry)
  | tableWriteSystem (dt : Nat) (tag : Byte) (index : Nat) (entry : Option SystemEntry)
  | tableRead (dt : Nat) (tag : Byte) (table : TableId) (index : Nat)
  | start (dt : Nat) (tag : Byte) (label : BitVec 32)
  | stop (dt : Nat) (tag : Byte)
  | statusRead (dt : Nat) (tag : Byte)
  | flagsClear (dt : Nat) (tag : Byte) (flags : BitVec 16)
  | counterRead (dt : Nat) (tag : Byte) (group first count : Nat)
  | heartbeat (dt : Nat) (tag : Byte)
  | restart (dt : Nat) (tag : Byte)
  | wake (dt : Nat) (tag : Byte)
  | signalWrite (dt : Nat) (tag : Byte) (slot : Nat) (value : Int)
  | signalRead (dt : Nat) (tag : Byte) (slot : Nat)
  | distanceRead (dt : Nat) (tag : Byte)
  | odometerSet (dt : Nat) (tag : Byte) (metres : Nat)
  | txFrame (dt : Nat) (tag : Byte) (port format id : Nat) (data : List Byte)
  | doorRequest (dt : Nat) (tag : Byte) (door : Nat) (action : Option DoorAction)
  | warningAck (dt : Nat) (tag : Byte)
  | chime (dt : Nat) (tag : Byte) (pattern : Nat)
  | chimeStop (dt : Nat) (tag : Byte)
  | outputSet (dt : Nat) (tag : Byte) (line value : Nat)
  | faultRead (dt : Nat) (tag : Byte) (selector : Option FaultSelector) (position : Nat)
  | faultClear (dt : Nat) (tag : Byte)
  | panelFrameReceived (dt : Nat) (type tag : Byte) (payload : List Byte) (crc : BitVec 16)
  | byteGapAbort (dt : Nat)
  | egressFrameSent (dt : Nat)
  | panelTimerExpiry (dt : Nat)
  | reportTimerExpiry (dt : Nat)
  | controllerErrorPassive (dt : Nat) (port : Fin 3)
  | controllerErrorActive (dt : Nat) (port : Fin 3)
  | busOff (dt : Nat) (port : Fin 3)
  | recoveryComplete (dt : Nat) (port : Fin 3)
  | quietTimeExpiry (dt : Nat) (port : Fin 3)
  | frameReceived (dt : Nat) (port : Fin 3) (frame : RxFrame)
  | frameReceivedParked (dt : Nat) (port : Fin 3) (frame : RxFrame)
  | supervisionDeadlineExpiry (dt : Nat) (entry : Fin 128)
  | transmissionBegins (dt : Nat) (port : Fin 3)
  | transmissionSuccess (dt : Nat) (port : Fin 3)
  | transmissionFailed (dt : Nat) (port : Fin 3)
  | queueAgeExpiry (dt : Nat) (port : Fin 3) (place : Nat)
  | panelDeadlineExpiry (dt : Nat) (slot : Fin 240)
  | pulseLineChange (dt : Nat) (input : Fin 4) (level : Bool)
  | noiseRejectionEnd (dt : Nat) (input : Fin 4)
  | gateEnd (dt : Nat) (input : Fin 4)
  | stuckDeadlineExpiry (dt : Nat) (input : Fin 4)
  | mismatchTimerExpiry (dt : Nat)
  | distanceTick (dt : Nat)
  | motionStep (dt : Nat) (gauge : Fin 6)
  | stallSense (dt : Nat) (gauge : Fin 6)
  | travelDeadlineExpiry (dt : Nat) (gauge : Fin 6)
  | delayDeadlineExpiry (dt : Nat) (condition : Fin 96)
  | bulbCheckExpiry (dt : Nat)
  | flashPhaseChange (dt : Nat)
  | chimeOnTimeEnd (dt : Nat)
  | chimeOffTimeEnd (dt : Nat)
  | inputLineChange (dt : Nat) (line : Fin 24) (level : Bool)
  | debounceEnd (dt : Nat) (line : Fin 24)
  | doorDeadlineExpiry (dt : Nat) (door : Fin 4)
  | openLoadReport (dt : Nat) (line : Fin 8) (isOpen : Bool)
  | shortReport (dt : Nat) (line : Fin 8)
  | retryDeadlineExpiry (dt : Nat) (line : Fin 8)
  | provingDeadlineExpiry (dt : Nat) (line : Fin 8)
  | confirmationDeadlineExpiry (dt : Nat) (code : FaultCode) (source : Option Nat)
  | identify (dt : Nat)
  | readFaultList (dt : Nat)
  | readFaultRecord (dt : Nat) (position : Byte)
  | readFirstFault (dt : Nat)
  | readLiveFaults (dt : Nat)
  | clearFaults (dt : Nat)
  | readSignal (dt : Nat) (slot : Byte)
  | readCounters (dt : Nat) (group first count : Byte)
  | captureArm (dt : Nat) (ports filter postCount code : Byte)
  | captureTrigger (dt : Nat)
  | captureStatus (dt : Nat)
  | captureRead (dt : Nat) (rewind : Byte)
  | outputTestStart (dt : Nat) (kind index : Byte)
  | outputTestStop (dt : Nat)
  | outputTestDeadlineExpiry (dt : Nat)
  | spacingDeadlineExpiry (dt : Nat)
  | ignPinChange (dt : Nat) (level : Bool)
  | ignitionDebounceEnd (dt : Nat)
  | runOnTimerExpiry (dt : Nat)
  | resetPinLow (dt : Nat)
  | resetPinHigh (dt : Nat)
  | powerOnReset (dt : Nat)
  | panelLengthAbove120 (dt : Nat) (length : Byte)
deriving DecidableEq, Repr

/-- The time in µs from the command before. -/
def Instr.dt : Instr → Nat
  | .tableWritePort dt _ _ _ => dt
  | .tableWriteMatch dt _ _ _ => dt
  | .tableWriteSlot dt _ _ _ => dt
  | .tableWriteSpeed dt _ _ _ => dt
  | .tableWritePulse dt _ _ _ => dt
  | .tableWriteInput dt _ _ _ => dt
  | .tableWriteOutput dt _ _ _ => dt
  | .tableWriteGauge dt _ _ _ => dt
  | .tableWriteCondition dt _ _ _ => dt
  | .tableWriteTelltale dt _ _ _ => dt
  | .tableWriteChime dt _ _ _ => dt
  | .tableWriteDoor dt _ _ _ => dt
  | .tableWriteFaultCfg dt _ _ _ => dt
  | .tableWriteService dt _ _ _ => dt
  | .tableWriteSystem dt _ _ _ => dt
  | .tableRead dt _ _ _ => dt
  | .start dt _ _ => dt
  | .stop dt _ => dt
  | .statusRead dt _ => dt
  | .flagsClear dt _ _ => dt
  | .counterRead dt _ _ _ _ => dt
  | .heartbeat dt _ => dt
  | .restart dt _ => dt
  | .wake dt _ => dt
  | .signalWrite dt _ _ _ => dt
  | .signalRead dt _ _ => dt
  | .distanceRead dt _ => dt
  | .odometerSet dt _ _ => dt
  | .txFrame dt _ _ _ _ _ => dt
  | .doorRequest dt _ _ _ => dt
  | .warningAck dt _ => dt
  | .chime dt _ _ => dt
  | .chimeStop dt _ => dt
  | .outputSet dt _ _ _ => dt
  | .faultRead dt _ _ _ => dt
  | .faultClear dt _ => dt
  | .panelFrameReceived dt _ _ _ _ => dt
  | .byteGapAbort dt => dt
  | .egressFrameSent dt => dt
  | .panelTimerExpiry dt => dt
  | .reportTimerExpiry dt => dt
  | .controllerErrorPassive dt _ => dt
  | .controllerErrorActive dt _ => dt
  | .busOff dt _ => dt
  | .recoveryComplete dt _ => dt
  | .quietTimeExpiry dt _ => dt
  | .frameReceived dt _ _ => dt
  | .frameReceivedParked dt _ _ => dt
  | .supervisionDeadlineExpiry dt _ => dt
  | .transmissionBegins dt _ => dt
  | .transmissionSuccess dt _ => dt
  | .transmissionFailed dt _ => dt
  | .queueAgeExpiry dt _ _ => dt
  | .panelDeadlineExpiry dt _ => dt
  | .pulseLineChange dt _ _ => dt
  | .noiseRejectionEnd dt _ => dt
  | .gateEnd dt _ => dt
  | .stuckDeadlineExpiry dt _ => dt
  | .mismatchTimerExpiry dt => dt
  | .distanceTick dt => dt
  | .motionStep dt _ => dt
  | .stallSense dt _ => dt
  | .travelDeadlineExpiry dt _ => dt
  | .delayDeadlineExpiry dt _ => dt
  | .bulbCheckExpiry dt => dt
  | .flashPhaseChange dt => dt
  | .chimeOnTimeEnd dt => dt
  | .chimeOffTimeEnd dt => dt
  | .inputLineChange dt _ _ => dt
  | .debounceEnd dt _ => dt
  | .doorDeadlineExpiry dt _ => dt
  | .openLoadReport dt _ _ => dt
  | .shortReport dt _ => dt
  | .retryDeadlineExpiry dt _ => dt
  | .provingDeadlineExpiry dt _ => dt
  | .confirmationDeadlineExpiry dt _ _ => dt
  | .identify dt => dt
  | .readFaultList dt => dt
  | .readFaultRecord dt _ => dt
  | .readFirstFault dt => dt
  | .readLiveFaults dt => dt
  | .clearFaults dt => dt
  | .readSignal dt _ => dt
  | .readCounters dt _ _ _ => dt
  | .captureArm dt _ _ _ _ => dt
  | .captureTrigger dt => dt
  | .captureStatus dt => dt
  | .captureRead dt _ => dt
  | .outputTestStart dt _ _ => dt
  | .outputTestStop dt => dt
  | .outputTestDeadlineExpiry dt => dt
  | .spacingDeadlineExpiry dt => dt
  | .ignPinChange dt _ => dt
  | .ignitionDebounceEnd dt => dt
  | .runOnTimerExpiry dt => dt
  | .resetPinLow dt => dt
  | .resetPinHigh dt => dt
  | .powerOnReset dt => dt
  | .panelLengthAbove120 dt _ => dt

/-- The request a management-request row carries, with its tag. -/
def Instr.request? : Instr → Option (Byte × Request)
  | .tableWritePort _ tag i e => some (tag, .tableWritePort i e)
  | .tableWriteMatch _ tag i e => some (tag, .tableWriteMatch i e)
  | .tableWriteSlot _ tag i e => some (tag, .tableWriteSlot i e)
  | .tableWriteSpeed _ tag i e => some (tag, .tableWriteSpeed i e)
  | .tableWritePulse _ tag i e => some (tag, .tableWritePulse i e)
  | .tableWriteInput _ tag i e => some (tag, .tableWriteInput i e)
  | .tableWriteOutput _ tag i e => some (tag, .tableWriteOutput i e)
  | .tableWriteGauge _ tag i e => some (tag, .tableWriteGauge i e)
  | .tableWriteCondition _ tag i e => some (tag, .tableWriteCondition i e)
  | .tableWriteTelltale _ tag i e => some (tag, .tableWriteTelltale i e)
  | .tableWriteChime _ tag i e => some (tag, .tableWriteChime i e)
  | .tableWriteDoor _ tag i e => some (tag, .tableWriteDoor i e)
  | .tableWriteFaultCfg _ tag i e => some (tag, .tableWriteFaultCfg i e)
  | .tableWriteService _ tag i e => some (tag, .tableWriteService i e)
  | .tableWriteSystem _ tag i e => some (tag, .tableWriteSystem i e)
  | .tableRead _ tag t i => some (tag, .tableRead t i)
  | .start _ tag l => some (tag, .start l)
  | .stop _ tag => some (tag, .stop)
  | .statusRead _ tag => some (tag, .statusRead)
  | .flagsClear _ tag f => some (tag, .flagsClear f)
  | .counterRead _ tag g f c => some (tag, .counterRead g f c)
  | .heartbeat _ tag => some (tag, .heartbeat)
  | .restart _ tag => some (tag, .restart)
  | .wake _ tag => some (tag, .wake)
  | .signalWrite _ tag k v => some (tag, .signalWrite k v)
  | .signalRead _ tag k => some (tag, .signalRead k)
  | .distanceRead _ tag => some (tag, .distanceRead)
  | .odometerSet _ tag m => some (tag, .odometerSet m)
  | .txFrame _ tag p f i d => some (tag, .txFrame p f i d)
  | .doorRequest _ tag d a => some (tag, .doorRequest d a)
  | .warningAck _ tag => some (tag, .warningAck)
  | .chime _ tag p => some (tag, .chime p)
  | .chimeStop _ tag => some (tag, .chimeStop)
  | .outputSet _ tag l v => some (tag, .outputSet l v)
  | .faultRead _ tag s p => some (tag, .faultRead s p)
  | .faultClear _ tag => some (tag, .faultClear)
  | _ => none

end Sys2Proof
end

