-- ==== Sys2Proof/Decode.lean ====
section
/-! DEFINITION. The command that a word spells by the bits of spec/opcode_table.json. The BC-460 has no instruction
words: no row of the table gives bits, so no word spells a command. The bytes of a management request and of a
service request are read by `Machine.parseRequest` and `Machine.judgeService`. -/

namespace Sys2Proof

/-- The command that `nbits` bits of `w` spell: none, whatever the word. -/
def decodeTableWord (_nbits _w : Nat) : Option Instr := none

end Sys2Proof
end

