-- ==== Sys2Proof/Config.lean ====
section
/-! DEFINITION. What an implementation fixes and the manual leaves open. The constants are opaque: they have no
body, so no proof can use a value of theirs. -/

namespace Sys2Proof.Config

/-- The revision of the part that IDENTIFY reports: "a constant of the part that this manual does not fix" (R173;
assumption 2). -/
opaque revision : Byte

/-- What a millisecond stamp reads once more than 4,294,967,295 ms have passed since the last wake, restart or
power-on reset: the manual gives the stamp 32 bits (00_scope.md 6.1) and does not say what follows
(assumption 3). The argument is the exact number of milliseconds elapsed. -/
opaque msBeyond : Nat → BitVec 32

/-- The bytes sent for a RESPONSE whose payload would exceed the 120 bytes of Table 10.1, as a LIST of 24 records or a
LIVE of 17 entries does (R165, R185): the manual does not say what the part sends then (assumption 50). The argument is
the payload that does not fit. -/
opaque overlong : List Byte → List Byte

end Sys2Proof.Config
end

