-- ==== Sys2Proof/Machine/State.lean ====
section
/-! DEFINITION. The state of the BC-460: every piece of state the manual gives each block (Table 2.1 of
00_scope.md), the levels of the pins the part reads, the model's clock and the queue of waiting commands, all plain
data; the outcomes a step can stop with; and the state after a power-on reset. Moments and deadlines are readings of
the model's clock `now`, in µs (assumption 1). -/

namespace Sys2Proof.Machine

/-! ### Stops -/

/-- Why the machine could stop with a fault: there is no reason. The manual describes no command of the BC-460 that
stops the part, so no meaning faults. -/
inductive Fault
deriving DecidableEq, Repr

/-- Why a command could be refused. -/
inductive Refusal
  /-- Raised by an arm of `exec` whose command has no meaning yet. No arm is left without one. Safe: the model stops. -/
  | notModelled (mnemonic : String)
deriving DecidableEq, Repr

/-! ### Ports and classifier (chapter 1) -/

inductive PortState | disabled | online | passive | off
deriving DecidableEq, Repr, Inhabited

/-- The origin of a queued frame (R21). A SERVICE frame carries the serial number of the response it is a segment
of, the model's own mark, by which the segment of an abandoned response is told from one in flight (R172). -/
inductive Origin | forward | panel | service (serial : Nat)
deriving DecidableEq, Repr, Inhabited

/-- A queued frame (R20); `joined` is its join time. -/
structure QueuedFrame where
  frame : Frame
  key : Nat
  joined : Nat
  origin : Origin
  onBus : Bool
deriving DecidableEq, Repr, Inhabited

/-- The seven counters of Table 1.3, 32 bits each, saturating. -/
structure PortCounters where
  received : Nat
  unmatched : Nat
  remoteIgnored : Nat
  transmitted : Nat
  overflow : Nat
  expired : Nat
  flushed : Nat
deriving DecidableEq, Repr, Inhabited

/-- One port: its record, its state, its controller's bus-off recovery and quiet time, its activity indication, its
counters and its transmit queue, head first (R1 to R7, R20). -/
structure PortUnit where
  entry : PortEntry
  state : PortState
  recovering : Bool
  quiet : Option Nat
  activity : Bool
  counters : PortCounters
  queue : List QueuedFrame
deriving DecidableEq, Repr, Inhabited

/-- The supervision of a match entry (Table 1.5); AWAITING and PRESENT hold a deadline. -/
inductive Supervision
  | none | awaiting (deadline : Nat) | present (deadline : Nat) | missing
deriving DecidableEq, Repr, Inhabited

/-- One match entry with its counters and its supervision (R10, R18). -/
structure MatchUnit where
  entry : MatchEntry
  hits : Nat
  shorts : Nat
  supervision : Supervision
deriving DecidableEq, Repr, Inhabited

/-! ### Signal store (chapter 2) -/

/-- Table 2.4, in the order of the table (R168 numbers the states by it). -/
inductive SlotState | empty | valid | stale | notAvailable | senderError | substituted
deriving DecidableEq, Repr, Inhabited

/-- A slot record (Table 2.3); `lastChange` in ms of the present time base. -/
structure SlotRec where
  value : Int
  state : SlotState
  raw : Int
  clamped : Bool
  clampCount : Nat
  lastChange : Nat
deriving DecidableEq, Repr, Inhabited

/-! ### Pulse inputs, speed and distance (chapter 3) -/

/-- The measurement state of a pulse input (R47); levels are high = true. `pending` is the moment the pending change
began; `gateDeadline` is used in FREQUENCY and `stuckDeadline` in DUTY. -/
structure PulseMeas where
  accepted : Bool
  pending : Option Nat
  reference : Option Stamp
  count : Nat
  lastEdge : Stamp
  result : Option Nat
  gateDeadline : Option Nat
  opposite : Option Stamp
  stuckDeadline : Option Nat
deriving DecidableEq, Repr, Inhabited

/-- One pulse input: its entry, the present level of its line and its measurement state, none while it is not
measured. -/
structure PulseUnit where
  entry : PulseEntry
  line : Bool
  meas : Option PulseMeas
deriving DecidableEq, Repr, Inhabited

/-- The speed and distance unit: configuration, mismatch timer, residues, tick, total distance and delta accumulator
(retained). The selected speed itself is published in slots 240 to 242. -/
structure SpeedUnit where
  entry : SpeedEntry
  mismatch : Option Nat
  pulseResidue : Nat
  speedResidue : Nat
  total : Nat
  delta : Nat
  tick : Option Nat
deriving DecidableEq, Repr, Inhabited

/-! ### Gauges (chapter 4) -/

inductive GaugeState | off | unhomed | homing | tracking | fault
deriving DecidableEq, Repr, Inhabited

/-- One gauge (R67, R70): entry, state, target, position, attempt number, sweep target, the travel deadline of a
homing attempt and the deadline of the next motion step. -/
structure GaugeUnit where
  entry : GaugeEntry
  state : GaugeState
  target : Nat
  position : Nat
  attempt : Nat
  sweep : Option Nat
  travel : Option Nat
  motion : Option Nat
deriving DecidableEq, Repr

/-! ### Conditions and telltales (chapter 5) -/

inductive CondState | off | arming | on | releasing
deriving DecidableEq, Repr, Inhabited

/-- One condition (R88): state, comparison truth, raw truth and delay deadline. -/
structure CondUnit where
  entry : CondEntry
  state : CondState
  comparison : Bool
  raw : Bool
  deadline : Option Nat
deriving DecidableEq, Repr, Inhabited

/-- A condition is true while its state is ON or RELEASING (R88). -/
def CondUnit.isTrue (c : CondUnit) : Bool := c.state = .on || c.state = .releasing

inductive TelltaleState | dark | litNew | litAcked | latched
deriving DecidableEq, Repr, Inhabited

structure TelltaleUnit where
  entry : TelltaleEntry
  state : TelltaleState
deriving DecidableEq, Repr, Inhabited

/-- Table 5.8, in the order in which Table 10.7 numbers the presentations. -/
inductive Presentation | off | steady | slowFlash | fastFlash
deriving DecidableEq, Repr, Inhabited

/-! ### Chimes and lines (chapter 6) -/

/-- The granted request and its playing (R109, R110): the requester, whether the present part of its cycle is the
on-time, the cycles left of a finite pattern (the present one included), and the deadline of the present part. -/
structure Grant where
  requester : Fin 70
  sounding : Bool
  left : Nat
  deadline : Nat
deriving DecidableEq, Repr

/-- The chime arbiter: the CHIME table, the pattern each requester has pending, the grant. -/
structure ChimeArbiter where
  patterns : Vector ChimePattern 8
  pending : Vector (Option Nat) 70
  grant : Option Grant
deriving DecidableEq, Repr

/-- One input line (R113, R114): its entry, its present level, its accepted level and its pending change. -/
structure InputUnit where
  entry : InputEntry
  line : Bool
  accepted : Bool
  pending : Option Nat
deriving DecidableEq, Repr, Inhabited

/-- One output line: its entry, its panel value, and whether its driver is on. -/
structure OutputUnit where
  entry : OutputEntry
  panelValue : Bool
  on : Bool
deriving DecidableEq, Repr, Inhabited

/-- Table 6.7's states; RETRY_WAIT holds the retry deadline. -/
inductive Protection | normal | retryWait (deadline : Nat) | lockedOut
deriving DecidableEq, Repr, Inhabited

/-- The protection of a lamp line Q0 to Q7 (R121, R122): state, short count, proving deadline, and what its
open-load sense last reported. -/
structure LampUnit where
  protection : Protection
  shorts : Nat
  proving : Option Nat
  openLoad : Bool
deriving DecidableEq, Repr, Inhabited

/-! ### Doors (chapter 7) -/

/-- Table 7.3, in the order of the codes. -/
inductive DoorState | closedLocked | unlocked | opening | opened | closing | emergency | fault | disabled
deriving DecidableEq, Repr, Inhabited

def DoorState.code : DoorState → Nat
  | .closedLocked => 0
  | .unlocked => 1
  | .opening => 2
  | .opened => 3
  | .closing => 4
  | .emergency => 5
  | .fault => 6
  | .disabled => 7

/-- The accepted level of each door input function, active = true; a function with no line is inactive (R126). -/
structure DoorLevels where
  closed : Bool
  locked : Bool
  openEnd : Bool
  obstruction : Bool
  emergency : Bool
  releaseRequest : Bool
  openRequest : Bool
  closeRequest : Bool
deriving DecidableEq, Repr, Inhabited

/-- One door: its entry, its record (Table 7.2) and its input levels. -/
structure DoorUnit where
  entry : DoorEntry
  state : DoorState
  released : Bool
  openCommand : Bool
  deadline : Option Nat
  reversals : Nat
  cycles : Nat
  obstructions : Nat
  refused : Nat
  levels : DoorLevels
deriving DecidableEq, Repr, Inhabited

/-! ### Faults (chapter 8) -/

/-- An entry of the live fault set (R151); a source NONE is `none`; `since` and `deadline` are moments. -/
structure LiveEntry where
  code : FaultCode
  source : Option Nat
  since : Nat
  confirmed : Bool
  deadline : Option Nat
deriving DecidableEq, Repr, Inhabited

/-- One reading of a freeze frame: slot index, value, state. -/
structure Reading where
  slot : Nat
  value : Int
  state : SlotState
deriving DecidableEq, Repr, Inhabited

/-- A fault record (Table 8.3). -/
structure FaultRecord where
  code : FaultCode
  source : Option Nat
  severity : Nat
  active : Bool
  occurrences : Nat
  firstDistance : Nat
  lastDistance : Nat
  firstCycle : Nat
  heal : Nat
  freeze : List Reading
deriving DecidableEq, Repr, Inhabited

/-- A first fault (R160). -/
structure FirstFault where
  code : FaultCode
  source : Option Nat
  distance : Nat
  cycle : Nat
deriving DecidableEq, Repr, Inhabited

/-- The fault monitor and fault memory: the FAULT_CFG table, the live fault set in the order of joining, the 40
positions of fault memory, the two overflow counters and the first-fault latch. -/
structure FaultUnit where
  confirm : Vector Nat 21
  healLimit : Nat
  freezeList : Vector (Option Nat) 6
  live : List LiveEntry
  liveOverflow : Nat
  memory : Vector (Option FaultRecord) 40
  memoryOverflow : Nat
  latch : Option FirstFault
deriving DecidableEq, Repr

/-! ### Service channel and capture (chapter 9) -/

/-- The phase of a response in flight (R171). -/
inductive ServicePhase | queued | spacing (deadline : Nat)
deriving DecidableEq, Repr, Inhabited

/-- A response in flight: its serial number (the model's own), the service code it answers, its whole message, the
index of its current segment and its phase. -/
structure Response where
  serial : Nat
  code : Byte
  message : List Byte
  index : Nat
  phase : ServicePhase
deriving DecidableEq, Repr, Inhabited

/-- The unit under an output test (R175). -/
inductive TestUnit | gauge (g : Fin 6) | telltale (t : Fin 64) | line (l : Fin 8)
deriving DecidableEq, Repr

structure OutputTest where
  unit : TestUnit
  deadline : Nat
deriving DecidableEq, Repr

/-- The service channel: SERVICE entry, its three counters, the response in flight, the output test, and the serial
number the next response takes. -/
structure ServiceUnit where
  entry : ServiceEntry
  served : Nat
  completed : Nat
  abandoned : Nat
  response : Option Response
  test : Option OutputTest
  serial : Nat
deriving DecidableEq, Repr

inductive CaptureState | idle | armed | triggered | frozen
deriving DecidableEq, Repr, Inhabited

/-- A capture record (R177); `time` in ms of the time base it was recorded under. -/
structure CaptureRecord where
  port : Fin 3
  frame : Frame
  time : Nat
  entry : Option Nat
  trigger : Bool
deriving DecidableEq, Repr, Inhabited

/-- The capture buffer (R177, R178): state, arming parameters, pending trigger point, ring oldest first, read
cursor. -/
structure CaptureUnit where
  state : CaptureState
  ports : PortSet
  flagged : Bool
  postCount : Nat
  code : Option FaultCode
  remaining : Nat
  triggerPending : Bool
  ring : List CaptureRecord
  cursor : Nat
deriving DecidableEq, Repr, Inhabited

/-! ### Panel link (chapter 10) -/

/-- The receiver of the panel link (R185): it waits for a start byte, or holds the bytes of the frame under reception
that have followed it. -/
inductive Receiver | waiting | inFrame (bytes : List Byte)
deriving DecidableEq, Repr, Inhabited

/-- The results of a RESPONSE, in the order of their numbers (Table 10.3). -/
inductive Result
  | ok | badRequest | badLength | badTable | badIndex | badField | reference | locked | wrongMode | checkFailed
  | queueFull | notNow
deriving DecidableEq, Repr, Inhabited

/-- What a STATUS_READ response carries (R195). -/
structure StatusData where
  mode : Bool
  direct : Bool
  label : BitVec 32
  ports : List (PortState × Bool)
  flags : BitVec 12
  attn : Bool
  live : Nat
  ingress : Nat
  egress : Nat
deriving DecidableEq, Repr, Inhabited

/-- A live entry as FAULT_READ LIVE reports it (R165); `since` in ms. -/
structure LiveItem where
  code : FaultCode
  source : Option Nat
  since : Nat
  confirmed : Bool
deriving DecidableEq, Repr, Inhabited

/-- An item of the fault list (R165). -/
structure ListItem where
  position : Nat
  code : FaultCode
  source : Option Nat
  active : Bool
  occurrences : Nat
deriving DecidableEq, Repr, Inhabited

/-- The name of a protection state, as TABLE_READ returns it (R116, R122). -/
inductive ProtectionName | normal | retryWait | lockedOut
deriving DecidableEq, Repr, Inhabited

/-- The record of a door as TABLE_READ returns it (Table 7.2); `deadline` in ms of the present time base
(assumption 52). -/
structure DoorRecord where
  state : DoorState
  released : Bool
  openCommand : Bool
  deadline : Option Nat
  reversals : Nat
  cycles : Nat
  obstructions : Nat
  refused : Nat
deriving DecidableEq, Repr, Inhabited

/-- The data of a response, as the named fields the manual gives it; `ResponseData.bytes` sends them (assumption 6). -/
inductive ResponseData
  | none
  | checkFailed (table : TableId) (index : Nat)
  | portEntry (e : PortEntry)
  | matchEntry (e : MatchEntry) (hits shorts : Nat)
  | slotEntry (e : SlotDesc)
  | speedEntry (e : SpeedEntry)
  | pulseEntry (e : PulseEntry)
  | inputEntry (e : InputEntry) (active pending : Bool)
  | outputEntry (e : OutputEntry) (on : Bool) (protection : Option ProtectionName)
  | gaugeEntry (e : GaugeEntry)
  | conditionEntry (e : CondEntry) (state : CondState) (comparison : Bool)
  | telltaleEntry (e : TelltaleEntry) (state : TelltaleState) (presentation : Presentation)
  | chimeEntry (e : ChimePattern)
  | doorEntry (e : DoorEntry) (record : DoorRecord)
  | faultCfgEntry (e : FaultCfgEntry)
  | serviceEntry (e : ServiceEntry)
  | systemEntry (e : SystemEntry)
  | status (d : StatusData)
  | flags (f : BitVec 12)
  | counters (values : List Nat)
  | matchCounters (first count : Nat) (values : List Nat)
  | stored (value : Int)
  | slotRecord (index : Nat) (record : SlotRec)
  | distance (delta total : Nat)
  | total (total : Nat)
  | door (state : DoorState) (released openCommand : Bool)
  | acknowledged (cls : Option TelltaleClass) (count : Nat)
  | granted (requester : Option (Fin 70))
  | drive (on : Bool)
  | faultList (items : List ListItem) (overflow : Nat)
  | faultRecord (record : Option FaultRecord)
  | firstFault (latch : Option FirstFault)
  | liveFaults (items : List LiveItem) (overflow : Nat)
  | removed (count : Nat)
deriving DecidableEq, Repr

/-- One gauge in a cycle report (R84). -/
structure GaugeReport where
  value : Int
  slotState : SlotState
  position : Nat
  state : GaugeState
deriving DecidableEq, Repr, Inhabited

/-- A cycle report (Table 10.7), as named fields; `Report.payload` gives its 106 bytes. -/
structure Report where
  mode : Bool
  power : Bool
  direct : Bool
  speed : Int
  speedState : SlotState
  speedSource : Int
  standstill : Int
  total : Nat
  gauges : Vector GaugeReport 6
  telltales : Vector (Presentation × Bool) 64
  doors : Vector (DoorState × Bool) 4
  drivePermit : Bool
  stopBrake : Bool
  granted : Option (Fin 70)
  flags : BitVec 12
  live : Nat
deriving DecidableEq, Repr

/-- A frame of the egress queue (R188). -/
inductive EgressFrame
  | forward (tag : Byte) (port : Fin 3) (frame : Frame)
  | response (tag : Byte) (code : Nat) (result : Result) (data : ResponseData)
  | report (tag : Byte) (report : Report)
deriving DecidableEq, Repr

/-- A valid REQUEST frame in the ingress buffer (R187). -/
structure IngressFrame where
  tag : Byte
  request : Request
deriving DecidableEq, Repr

/-- The panel link controller (chapter 10): the receiver; the ingress buffer and the egress queue, head first; the
panel timer and whether the link is declared lost; the five counters; the two sequence tags; the report timer; and
whether a RESTART has been taken and awaits the departure of its response (R196). -/
structure PanelLink where
  receiver : Receiver
  ingress : List IngressFrame
  egress : List EgressFrame
  timer : Option Nat
  lost : Bool
  receiveErrors : Nat
  ingressOverflow : Nat
  forwardDrops : Nat
  reportOverrun : Nat
  linkLosses : Nat
  reportSeq : Byte
  forwardSeq : Byte
  reportTimer : Option Nat
  restarting : Bool
deriving DecidableEq, Repr

/-- The twelve attention flags, numbered as Table 10.8 numbers them. -/
inductive Attention
  | telltale | door | faultConfirmed | faultMemoryFull | portState | speedSource | captureFrozen | serviceClear
  | retainedLost | outputTest | gaugeFault | txDrop
deriving DecidableEq, Repr, Inhabited

/-! ### Power controller (chapter 11) -/

inductive Mode | setup | run
deriving DecidableEq, Repr, Inhabited

inductive Power | active | parked
deriving DecidableEq, Repr, Inhabited

/-- The ignition input (R200): the pin's level, the accepted level, the pending change, whether a level has been
accepted since the reset, and, until then, the moment since which the pin has held off. -/
structure Ignition where
  pin : Bool
  accepted : Bool
  pending : Option Nat
  first : Bool
  offHold : Option Nat
deriving DecidableEq, Repr, Inhabited

/-! ### The machine -/

/-- The whole state. The model's own fields are `now` (its clock, in µs), `base` (the moment of the last wake,
restart or power-on reset, from which the ms stamps count), `stage` (how many of the ordered groups of R193 and R205
have taken up RUN: 6 in RUN and ACTIVE between commands, 0 otherwise; assumption 7) and `pending` (the commands that
wait, first in, first out). -/
structure State where
  now : Nat
  base : Nat
  pending : List Instr
  stage : Nat
  resetLow : Bool
  mode : Mode
  power : Power
  label : BitVec 32
  ignition : Ignition
  cycles : Nat
  runOn : Option Nat
  ports : Vector PortUnit 3
  matchTable : Vector MatchUnit 128
  descs : Vector SlotDesc 240
  slots : Vector SlotRec 256
  panelDeadlines : Vector (Option Nat) 240
  pulses : Vector PulseUnit 4
  speed : SpeedUnit
  gauges : Vector GaugeUnit 6
  conds : Vector CondUnit 96
  telltales : Vector TelltaleUnit 64
  flashOrigin : Nat
  bulb : Option Nat
  chime : ChimeArbiter
  inputs : Vector InputUnit 24
  outputs : Vector OutputUnit 16
  lamps : Vector LampUnit 8
  direct : Bool
  doors : Vector DoorUnit 4
  stopLatch : Bool
  drivePermit : Bool
  stopBrake : Bool
  faults : FaultUnit
  service : ServiceUnit
  capture : CaptureUnit
  link : PanelLink
  system : SystemEntry
  flags : BitVec 12
  attn : Bool
deriving DecidableEq, Repr

/-! ### The state after a power-on reset -/

/-- Table 1.1, last column. -/
def PortEntry.initial : PortEntry :=
  { enabled := false, bitRate := .k250, defaultAction := .drop, wakeEnabled := false, maxAge := 100, quietTime := 100 }

def PortCounters.zero : PortCounters :=
  { received := 0, unmatched := 0, remoteIgnored := 0, transmitted := 0, overflow := 0, expired := 0, flushed := 0 }

def PortUnit.initial : PortUnit :=
  { entry := PortEntry.initial, state := .disabled, recovering := false, quiet := none, activity := false,
    counters := PortCounters.zero, queue := [] }

/-- Table 1.4, last column. -/
def MatchEntry.initial : MatchEntry :=
  { enabled := false, ports := PortSet.none, format := .base, id := 0, mask := 0, minLength := 0, decode := false,
    forward := { ports := PortSet.none, panel := false }, timeout := 0, capture := false }

def MatchUnit.initial : MatchUnit := { entry := MatchEntry.initial, hits := 0, shorts := 0, supervision := .none }

/-- Table 2.1, last column. -/
def SlotDesc.initial : SlotDesc :=
  { kind := .none, sourceEntry := 0, startBit := 0, length := 1, order := .little, signed := false, pulse := 0,
    quantity := .frequency, line := 0, panelTimeout := 0, num := 1, den := 1, offset := 0, min := -2147483648,
    max := 2147483647, reserved := false, policy := .hold, default := 0, rangeFault := false, senderFault := false }

/-- A slot record that is EMPTY (R45). -/
def SlotRec.empty : SlotRec :=
  { value := 0, state := .empty, raw := 0, clamped := false, clampCount := 0, lastChange := 0 }

/-- The record of an internal slot holding `v` since the time base began (R40, R41). -/
def SlotRec.internal (v : Int) (st : SlotState) : SlotRec :=
  { value := v, state := st, raw := v, clamped := false, clampCount := 0, lastChange := 0 }

/-- Table 2.7 over EMPTY configurable slots, with IGNITION_CYCLES and TOTAL_DISTANCE as given. -/
def initialSlots (cycles total : Nat) : Vector SlotRec 256 :=
  let v := Vector.replicate 256 SlotRec.empty
  let v := vput v 240 (.internal 0 .stale)
  let v := vput v 241 (.internal 2 .valid)
  let v := vput v 242 (.internal 0 .valid)
  let v := vput v 243 (.internal 0 .valid)
  let v := vput v 244 (.internal cycles .valid)
  let v := vput v 245 (.internal 7 .valid)
  let v := vput v 246 (.internal 7 .valid)
  let v := vput v 247 (.internal 7 .valid)
  let v := vput v 248 (.internal 7 .valid)
  let v := vput v 249 (.internal 0 .valid)
  let v := vput v 250 (.internal 0 .valid)
  let v := vput v 251 (.internal 0 .valid)
  let v := vput v 252 (.internal 0 .valid)
  let v := vput v 253 (.internal (total / 100 : Nat) .valid)
  let v := vput v 254 (.internal 0 .valid)
  vput v 255 (.internal 0 .valid)

/-- Table 3.1, last column. -/
def PulseEntry.initial : PulseEntry :=
  { mode := .off, polarity := .rising, noise := 0, gate := 100, standstill := 500, minPeriod := 100,
    maxPeriod := 100000 }

/-- Table 3.2, last column. -/
def SpeedEntry.initial : SpeedEntry :=
  { primary := none, fallback := none, mismatchLimit := 500, mismatchPercent := 10, mismatchTime := 2000,
    standstill := 100, source := .speedSlot, pulsesPerKm := 8000 }

/-- Table 4.1, last column. -/
def GaugeEntry.initial : GaugeEntry :=
  { enabled := false, source := 0, fullScale := 100, pointCount := 2,
    points := vput (Vector.replicate 16 ((0 : Int), (0 : Nat))) 1 (100, 100),
    slew := 1, deadband := 0, action := .hold, parkPosition := 0 }

/-- R70: OFF, with target 0, position 0, attempt number 0 and no sweep target. -/
def GaugeUnit.initial : GaugeUnit :=
  { entry := GaugeEntry.initial, state := .off, target := 0, position := 0, attempt := 0, sweep := none,
    travel := none, motion := none }

/-- Table 5.1, last column. -/
def CondEntry.initial : CondEntry :=
  { enabled := false, slot := 0, comparator := .above, threshold := 0, hysteresis := 0, mask := 0,
    code := .frameMissing, source := .any, onDelay := 0, offDelay := 0, gate := none, policy := .isFalse }

def CondUnit.initial : CondUnit :=
  { entry := CondEntry.initial, state := .off, comparison := false, raw := false, deadline := none }

/-- Table 5.6, last column. -/
def TelltaleEntry.initial : TelltaleEntry :=
  { enabled := false, condition := 0, cls := .notice, show_ := .steady, latch := false, chime := none,
    bulbCheck := false }

/-- Table 6.1, last column. -/
def ChimePattern.initial : ChimePattern := { tone := 1000, onTime := 200, offTime := 200, repeats := 1, priority := 0 }

/-- Table 6.3, last column. -/
def InputEntry.initial : InputEntry := { function := .unused, polarity := .activeHigh, debounce := 20 }

/-- Table 6.5, last column. -/
def OutputEntry.initial : OutputEntry := { source := .off, polarity := .normal, direct := .off }

/-- Table 7.1, last column. -/
def DoorEntry.initial : DoorEntry :=
  { enabled := false, releaseSpeed := 300, openMax := 4000, closeMax := 6000, reversalLimit := 3,
    closingChime := none, emergencyChime := none, parkingBrake := none, autoClose := false }

def DoorLevels.inactive : DoorLevels :=
  { closed := false, locked := false, openEnd := false, obstruction := false, emergency := false,
    releaseRequest := false, openRequest := false, closeRequest := false }

def DoorUnit.initial : DoorUnit :=
  { entry := DoorEntry.initial, state := .disabled, released := false, openCommand := false, deadline := none,
    reversals := 0, cycles := 0, obstructions := 0, refused := 0, levels := DoorLevels.inactive }

/-- Table 8.2, last column: 0 ms for the codes fixed at 0 ms (11, 14, 15, 17, 18, 19), 500 ms for the others. -/
def initialConfirm : Vector Nat 21 :=
  let v := Vector.replicate 21 500
  let v := vput v 11 0
  let v := vput v 14 0
  let v := vput v 15 0
  let v := vput v 17 0
  let v := vput v 18 0
  vput v 19 0

def FaultUnit.initial : FaultUnit :=
  { confirm := initialConfirm, healLimit := 40, freezeList := Vector.replicate 6 none, live := [], liveOverflow := 0,
    memory := Vector.replicate 40 none, memoryOverflow := 0, latch := none }

/-- Table 9.1, last column. -/
def ServiceEntry.initial : ServiceEntry :=
  { port := 2, format := .base, requestId := 1696, responseId := 1704, spacing := 5 }

def ServiceUnit.initial : ServiceUnit :=
  { entry := ServiceEntry.initial, served := 0, completed := 0, abandoned := 0, response := none, test := none,
    serial := 0 }

/-- R178: IDLE with an empty ring, an empty port set, filter ALL, post count 0, trigger code none, read cursor 0. -/
def CaptureUnit.initial : CaptureUnit :=
  { state := .idle, ports := PortSet.none, flagged := false, postCount := 0, code := none, remaining := 0,
    triggerPending := false, ring := [], cursor := 0 }

/-- Table 10.6, last column. -/
def SystemEntry.initial : SystemEntry :=
  { reportPeriod := 100, panelTimeout := 500, bulbTime := 3000, runOnTime := 60, parkingBrake := none,
    stopChime := none, levels := Vector.replicate 12 1, threshold := 0 }

/-- R186, R185, R187, R188: empty buffers, counters and sequence tags 0; the panel timer runs with the default
timeout of 500 ms (R189) and the report timer with the default period of 100 ms (R197). -/
def PanelLink.initial (now : Nat) : PanelLink :=
  { receiver := .waiting, ingress := [], egress := [], timer := some (now + 500000), lost := false, receiveErrors := 0,
    ingressOverflow := 0, forwardDrops := 0, reportOverrun := 0, linkLosses := 0, reportSeq := 0, forwardSeq := 0,
    reportTimer := some (now + 100000), restarting := false }

/-- The machine right after a power-on reset (R207): SETUP and ACTIVE, every table and record at its value after
power-on reset, the retained area cleared, RETAINED_LOST set and ATTN asserted by it. The levels of the pins, which
the manual does not give, are low or off (assumption 8). -/
def State.reset : State :=
  { now := 0, base := 0, pending := [], stage := 0, resetLow := false, mode := .setup, power := .active, label := 0,
    ignition := { pin := false, accepted := false, pending := none, first := false, offHold := some 0 },
    cycles := 0, runOn := none,
    ports := Vector.replicate 3 PortUnit.initial,
    matchTable := Vector.replicate 128 MatchUnit.initial,
    descs := Vector.replicate 240 SlotDesc.initial,
    slots := initialSlots 0 0,
    panelDeadlines := Vector.replicate 240 none,
    pulses := Vector.replicate 4 { entry := PulseEntry.initial, line := false, meas := none },
    speed := { entry := SpeedEntry.initial, mismatch := none, pulseResidue := 0, speedResidue := 0, total := 0,
               delta := 0, tick := none },
    gauges := Vector.replicate 6 GaugeUnit.initial,
    conds := Vector.replicate 96 CondUnit.initial,
    telltales := Vector.replicate 64 { entry := TelltaleEntry.initial, state := .dark },
    flashOrigin := 0, bulb := none,
    chime := { patterns := Vector.replicate 8 ChimePattern.initial, pending := Vector.replicate 70 none,
               grant := none },
    inputs := Vector.replicate 24
      { entry := InputEntry.initial, line := false, accepted := false, pending := none },
    outputs := Vector.replicate 16 { entry := OutputEntry.initial, panelValue := false, on := false },
    lamps := Vector.replicate 8 { protection := .normal, shorts := 0, proving := none, openLoad := false },
    direct := false,
    doors := Vector.replicate 4 DoorUnit.initial,
    stopLatch := false, drivePermit := false, stopBrake := false,
    faults := FaultUnit.initial, service := ServiceUnit.initial, capture := CaptureUnit.initial,
    link := PanelLink.initial 0, system := SystemEntry.initial,
    flags := 256, attn := true }

end Sys2Proof.Machine
end

