-- ==== Sys2Proof/Machine/Ops.lean ====
section
/-! DEFINITION. The operations every block shares: the passage of time, saturating counters (00_scope.md 6.6), exact
arithmetic rounded once (6.5), deadlines (6.1), reading and writing one slot record, and the frame of a command. -/

namespace Sys2Proof.Machine

/-! ### Numbers -/

/-- A 32-bit counter increased by 1, saturating (6.6). -/
def bump32 (n : Nat) : Nat := if n < 4294967295 then n + 1 else n

/-- A 16-bit counter increased by 1, saturating. -/
def bump16 (n : Nat) : Nat := if n < 65535 then n + 1 else n

/-- An 8-bit counter increased by 1, saturating. -/
def bump8 (n : Nat) : Nat := if n < 255 then n + 1 else n

/-- A 32-bit counter increased by `k`, saturating. -/
def add32 (n k : Nat) : Nat := if n + k < 4294967295 then n + k else Nat.max n 4294967295

/-- `a ÷ d`, formed exactly and rounded to the nearest integer, halves away from zero (6.5). -/
def roundDivNat (a d : Nat) : Nat := (2 * a + d) / (2 * d)

/-- `a ÷ d` for a signed `a`, rounded as in 6.5: 1.5 gives 2 and −1.5 gives −2. -/
def roundDiv (a : Int) (d : Nat) : Int :=
  if 0 ≤ a then (roundDivNat a.toNat d : Nat) else -((roundDivNat (-a).toNat d : Nat) : Int)

def int32Min : Int := -2147483648
def int32Max : Int := 2147483647

/-- Saturation to the signed 32-bit range (R32). -/
def saturate32 (v : Int) : Int := if v < int32Min then int32Min else if int32Max < v then int32Max else v

/-- The absolute difference of two positions or speeds. -/
def distance (a b : Nat) : Nat := if a ≤ b then b - a else a - b

/-! ### Time -/

/-- Milliseconds as a 32-bit stamp; what it reads past its range is not stated (assumption 3). -/
def stampMs (ms : Nat) : Nat := if ms < 4294967296 then ms else (Config.msBeyond ms).toNat

/-- The ms stamp of a moment of the present time base: the whole ms that have passed, a part of one dropped, which is
the model's choice (assumption 55). -/
def State.msOf (s : State) (moment : Nat) : Nat := stampMs ((moment - s.base) / 1000)

/-- Now, in ms since the last wake, restart or power-on reset (6.1). -/
def State.msNow (s : State) : Nat := s.msOf s.now

/-- The reading of the free-running 1 µs count at a moment (6.1). -/
def stampOf (moment : Nat) : Stamp := BitVec.ofNat 32 moment

/-- The difference of two stamps modulo 2^32, a difference of 0 µs taken as 1 µs (R48). -/
def stampDiff (later earlier : Stamp) : Nat :=
  let d := (later - earlier).toNat
  if d = 0 then 1 else d

/-- The moment "now + ms" (6.1). -/
def State.after (s : State) (ms : Nat) : Nat := s.now + 1000 * ms

/-- A deadline that runs and has been reached. -/
def State.due (s : State) (deadline : Option Nat) : Bool :=
  match deadline with
  | some t => decide (t ≤ s.now)
  | none => false

/-- `dt` µs pass. -/
def State.elapse (s : State) (dt : Nat) : State := { s with now := s.now + dt }

/-- The power state is ACTIVE. -/
def State.isActive (s : State) : Bool := s.power = .active

/-- The mode is RUN. -/
def State.isRun (s : State) : Bool := s.mode = .run

/-- A command: its time passes, and, unless the RESET pin holds the part in reset (R206), its effect follows. -/
def event (dt : Nat) (s : State) (effect : State → State) : Host.Outcome State Fault Refusal :=
  let s := s.elapse dt
  .next (if s.resetLow then s else effect s)

/-- A command that acts even while the part is held in reset: a change of a pin's level, or a reset. -/
def pinEvent (dt : Nat) (s : State) (effect : State → State) : Host.Outcome State Fault Refusal :=
  .next (effect (s.elapse dt))

/-! ### Slots -/

/-- A slot is usable when its state is VALID or SUBSTITUTED (R29). -/
def SlotState.usable (st : SlotState) : Bool := st = .valid || st = .substituted

/-- The record of the slot with index `k`; an index past 255 names no slot and reads as EMPTY. -/
def State.slot (s : State) (k : Nat) : SlotRec := (vget? s.slots k).getD SlotRec.empty

/-- The numbers of the internal slots (Table 2.6). -/
def slotVehicleSpeed : Fin 256 := 240
def slotSpeedSource : Fin 256 := 241
def slotStandstill : Fin 256 := 242
def slotIgnition : Fin 256 := 243
def slotIgnitionCycles : Fin 256 := 244
def slotDoorState (d : Fin 4) : Fin 256 := Fin.mk (245 + d.val) (by omega)
def slotAnyDoorOpen : Fin 256 := 249
def slotDrivePermit : Fin 256 := 250
def slotPanelLinkLost : Fin 256 := 251
def slotActiveFaults : Fin 256 := 252
def slotTotalDistance : Fin 256 := 253
def slotStopRequested : Fin 256 := 254
def slotBulbCheck : Fin 256 := 255

/-- The slot of a configurable descriptor. -/
def configSlot (k : Fin 240) : Fin 256 := Fin.mk k.val (by omega)

/-- A slot is configurable and its descriptor has source kind NONE: no consumer may reference it (R67, R86, R55). -/
def State.noSource (s : State) (k : Nat) : Bool :=
  match vget? s.descs k with
  | some d => d.kind = .none
  | none => false

/-- The descriptor of a slot index, none for an internal slot. -/
def State.desc? (s : State) (k : Nat) : Option SlotDesc := vget? s.descs k

/-! ### Fault codes (Table 8.1) -/

def codeNumber (c : FaultCode) : Fin 21 :=
  match c with
  | .frameMissing => 0
  | .frameShort => 1
  | .portOff => 2
  | .signalRange => 3
  | .signalSender => 4
  | .panelSignalStale => 5
  | .pulseRange => 6
  | .pulseStuck => 7
  | .speedPrimaryLost => 8
  | .speedLost => 9
  | .speedMismatch => 10
  | .gaugeHome => 11
  | .lampOpen => 12
  | .lampShort => 13
  | .doorOpenTimeout => 14
  | .doorCloseTimeout => 15
  | .doorSwitchConflict => 16
  | .doorForced => 17
  | .doorObstructed => 18
  | .doorEmergency => 19
  | .panelLinkLost => 20

def allCodes : List FaultCode :=
  [.frameMissing, .frameShort, .portOff, .signalRange, .signalSender, .panelSignalStale, .pulseRange, .pulseStuck,
   .speedPrimaryLost, .speedLost, .speedMismatch, .gaugeHome, .lampOpen, .lampShort, .doorOpenTimeout,
   .doorCloseTimeout, .doorSwitchConflict, .doorForced, .doorObstructed, .doorEmergency, .panelLinkLost]

/-- The code with a number, none above 20. -/
def faultCode? (n : Nat) : Option FaultCode := allCodes[n]?

/-- 3 is the most severe. -/
def codeSeverity : FaultCode → Nat
  | .frameShort | .signalRange | .panelSignalStale | .lampOpen => 1
  | .speedLost | .doorSwitchConflict | .doorForced | .doorEmergency | .panelLinkLost => 3
  | _ => 2

/-- The confirm time is fixed at 0 ms. -/
def codeFixedZero : FaultCode → Bool
  | .gaugeHome | .doorOpenTimeout | .doorCloseTimeout | .doorForced | .doorObstructed | .doorEmergency => true
  | _ => false

/-- How many sources the code's source kind numbers; none for a code whose source kind is none (Table 5.2). -/
def codeSources : FaultCode → Option Nat
  | .frameMissing | .frameShort => some 128
  | .portOff => some 3
  | .signalRange | .signalSender | .panelSignalStale => some 240
  | .pulseRange | .pulseStuck => some 4
  | .speedPrimaryLost | .speedLost | .speedMismatch | .panelLinkLost => none
  | .gaugeHome => some 6
  | .lampOpen | .lampShort => some 16
  | .doorOpenTimeout | .doorCloseTimeout | .doorSwitchConflict | .doorForced | .doorObstructed | .doorEmergency =>
    some 4

/-- An entry of the live fault set is the pair of this code and source. -/
def LiveEntry.isPair (e : LiveEntry) (code : FaultCode) (source : Option Nat) : Bool :=
  e.code = code && e.source = source

/-- The pair is in the live fault set. -/
def State.isLive (s : State) (code : FaultCode) (source : Option Nat) : Bool :=
  s.faults.live.any fun e => e.isPair code source

end Sys2Proof.Machine
end

