-- ==== Sys2Proof/Machine/Bytes.lean ====
section
/-! DEFINITION. Numbers as bytes, most significant byte first (R168, R185), and the numbers by which states, sources
and sets are sent. -/

namespace Sys2Proof.Machine

/-- The low byte of a number. -/
def byteOf (n : Nat) : Byte := BitVec.ofNat 8 n

/-- A number in `k` bytes, most significant byte first. -/
def be : Nat → Nat → List Byte
  | 0, _ => []
  | k + 1, n => be k (n / 256) ++ [byteOf n]

/-- A signed number in `k` bytes, in two's complement: R191 says so of table entries, and of the other messages it is
the model's choice (assumption 56). -/
def beInt (k : Nat) (v : Int) : List Byte := be k (v % (256 ^ k : Nat)).toNat

/-- The number that bytes spell, most significant byte first. -/
def unbe (bytes : List Byte) : Nat := bytes.foldl (fun n b => 256 * n + b.toNat) 0

/-- yes as 1 and no as 0. -/
def boolByte (b : Bool) : Byte := if b then 1 else 0

/-- A source, NONE as 255 (R168). -/
def sourceByte (s : Option Nat) : Byte := byteOf (s.getD 255)

/-- Table 2.4's order, EMPTY 0 to SUBSTITUTED 5. -/
def SlotState.number (st : SlotState) : Nat :=
  match st with
  | .empty => 0
  | .valid => 1
  | .stale => 2
  | .notAvailable => 3
  | .senderError => 4
  | .substituted => 5

def Mode.number (m : Mode) : Nat :=
  match m with
  | .setup => 0
  | .run => 1

/-- BASE 0, EXTENDED 1. -/
def formatNumber (f : Format) : Nat :=
  match f with
  | .base => 0
  | .extended => 1

/-- A set of ports, N0 at bit 0. -/
def portSetNumber (p : PortSet) : Nat :=
  (if p.n0 then 1 else 0) + (if p.n1 then 2 else 0) + (if p.n2 then 4 else 0)

/-- The set of ports a byte names. -/
def portSetOf (b : Byte) : PortSet := { n0 := b.getLsbD 0, n1 := b.getLsbD 1, n2 := b.getLsbD 2 }

/-- A data field padded with zeros to 8 bytes (R182). -/
def padded (data : List Byte) : List Byte := data ++ List.replicate (8 - data.length) 0

end Sys2Proof.Machine
end

