-- ==== Sys2Proof/Machine/Flags.lean ====
section
/-! DEFINITION. The twelve attention flags and the ATTN line (R198, Table 10.8). -/

namespace Sys2Proof.Machine

/-- The number of a flag in Table 10.8. -/
def Attention.number (f : Attention) : Fin 12 :=
  match f with
  | .telltale => 0
  | .door => 1
  | .faultConfirmed => 2
  | .faultMemoryFull => 3
  | .portState => 4
  | .speedSource => 5
  | .captureFrozen => 6
  | .serviceClear => 7
  | .retainedLost => 8
  | .outputTest => 9
  | .gaugeFault => 10
  | .txDrop => 11

/-- A flag is set. -/
def State.flag (s : State) (f : Attention) : Bool := s.flags.getLsbD f.number.val

/-- ATTN is asserted while the part is ACTIVE and a set flag has a level above the threshold (R198); it is released
while the part is held in reset (R206). -/
def State.attnDemand (s : State) : Bool :=
  s.isActive && !s.resetLow &&
    anyUnit 12 fun n => s.flags.getLsbD n.val && decide (s.system.threshold < s.system.levels[n])

/-- The line is decided afresh. -/
def decideAttn (s : State) : State := { s with attn := s.attnDemand }

/-- A flag is set, and the line decided afresh. -/
def setFlag (f : Attention) (s : State) : State :=
  decideAttn { s with flags := s.flags ||| BitVec.twoPow 12 f.number.val }

/-- Set a flag where a condition holds. -/
def setFlagIf (b : Bool) (f : Attention) (s : State) : State := if b then setFlag f s else s

end Sys2Proof.Machine
end

