-- ==== Sys2Proof/Machine/Capture.lean ====
section
/-! DEFINITION. The capture buffer (R177 to R183). -/

namespace Sys2Proof.Machine

/-- A record joins the ring; in a full ring it takes the place of the oldest (R177). -/
def ringAdd (ring : List CaptureRecord) (r : CaptureRecord) : List CaptureRecord :=
  if ring.length < 256 then ring ++ [r] else ring.drop 1 ++ [r]

/-- The offer qualifies (R179). -/
def CaptureUnit.takes (c : CaptureUnit) (port : Fin 3) (flag : Bool) : Bool :=
  (c.state = .armed || c.state = .triggered) && c.ports.has port && (!c.flagged || flag)

/-- The handling of a record written in TRIGGERED (R181), before the freeze is decided. -/
def CaptureUnit.counted (c : CaptureUnit) : CaptureUnit :=
  if c.triggerPending then { c with triggerPending := false } else { c with remaining := c.remaining - 1 }

/-- A frame offer (R16, R179, R181): `entry` is the matched entry, `flag` its capture flag. -/
def offerCapture (port : Fin 3) (frame : Frame) (entry : Option Nat) (flag : Bool) (s : State) : State :=
  let c := s.capture
  if c.takes port flag then
    let marked := decide (c.state = .triggered) && c.triggerPending
    let r : CaptureRecord := { port := port, frame := frame, time := s.msNow, entry := entry, trigger := marked }
    let c1 := { c with ring := ringAdd c.ring r }
    if c.state = .triggered then
      let c2 := c1.counted
      if !c2.triggerPending && c2.remaining = 0 then
        setFlag .captureFrozen { s with capture := { c2 with state := .frozen } }
      else { s with capture := c2 }
    else { s with capture := c1 }
  else s

/-- A trigger reaches an ARMED buffer (R180). -/
def triggerCapture (s : State) : State :=
  if s.capture.state = .armed then
    { s with capture := { s.capture with state := .triggered, triggerPending := true } }
  else s

/-- A confirmation of a code is told to the capture buffer (R155, R180). -/
def confirmationTold (code : FaultCode) (s : State) : State :=
  if s.capture.code = some code then triggerCapture s else s

/-- CAPTURE_ARM taken (R178). -/
def armCapture (ports : PortSet) (flagged : Bool) (post : Nat) (code : Option FaultCode) (s : State) : State :=
  { s with capture :=
      { state := .armed, ports := ports, flagged := flagged, postCount := post, code := code, remaining := post,
        triggerPending := false, ring := [], cursor := 0 } }

end Sys2Proof.Machine
end

