-- ==== Sys2Proof/Machine/Lines.lean ====
section
/-! DEFINITION. What telltales show (R102, R103) and how the output lines follow their sources (R117, R122): the
operation `redrive`, by which every line is driven again at a change of a source. -/

namespace Sys2Proof.Machine

/-! ### The shown state of a telltale -/

/-- Milliseconds since the flash generator's phase origin (R103). -/
def State.flashMs (s : State) : Nat := (s.now - s.flashOrigin) / 1000

/-- The slow phase is lit when e mod 1,000 is below 500. -/
def State.slowPhase (s : State) : Bool := decide (s.flashMs % 1000 < 500)

/-- The fast phase is lit when e mod 400 is below 200. -/
def State.fastPhase (s : State) : Bool := decide (s.flashMs % 400 < 200)

/-- The unit under the running output test, if any. -/
def State.testUnit (s : State) : Option TestUnit := s.service.test.map (·.unit)

def showPresentation : ShowMode → Presentation
  | .steady => .steady
  | .slowFlash => .slowFlash
  | .fastFlash => .fastFlash

/-- Table 5.8: the first line that applies. -/
def State.presentation (s : State) (t : Fin 64) : Presentation :=
  let u := s.telltales[t]
  if s.testUnit = some (.telltale t) then .fastFlash
  else if s.bulb.isSome && u.entry.bulbCheck then .steady
  else if u.state = .dark || !u.entry.enabled then .off
  else if u.state = .litAcked then .steady
  else showPresentation u.entry.show_

/-- The lit level of a telltale (R102). -/
def State.lit (s : State) (t : Fin 64) : Bool :=
  match s.presentation t with
  | .off => false
  | .steady => true
  | .slowFlash => s.slowPhase
  | .fastFlash => s.fastPhase

/-! ### Sources of the output lines -/

/-- Table 6.6. -/
def State.sourceValue (s : State) (l : Fin 16) : LineSource → Bool
  | .off => false
  | .on => true
  | .telltale t => match unit? 64 t with
    | some t => s.lit t
    | none => false
  | .condition c => match unit? 96 c with
    | some c => s.conds[c].isTrue
    | none => false
  | .anyStopLit => anyUnit 64 fun t => s.telltales[t].entry.cls = .stop && s.lit t
  | .doorRelease d => match unit? 4 d with
    | some d => s.doors[d].released
    | none => false
  | .doorOpen d => match unit? 4 d with
    | some d => s.doors[d].openCommand
    | none => false
  | .drivePermit => s.drivePermit
  | .stopBrakeRequest => s.stopBrake
  | .chimeActive => s.chime.grant.isSome
  | .panel => s.outputs[l].panelValue

/-- The source a line follows: its direct source while DIRECT holds, its source otherwise (R117). -/
def State.lineSource (s : State) (l : Fin 16) : LineSource :=
  if s.direct then s.outputs[l].entry.direct else s.outputs[l].entry.source

/-- The lamp line of an output line: Q0 to Q7. -/
def lampOf (l : Fin 16) : Option (Fin 8) := unit? 8 l.val

/-- The output line of a lamp. -/
def lineOfLamp (k : Fin 8) : Fin 16 := Fin.mk k.val (by omega)

/-- A lamp line held on by the output test (R117). -/
def State.heldOn (s : State) (l : Fin 16) : Bool :=
  match lampOf l with
  | some k => s.testUnit = some (.line k)
  | none => false

/-- The line's demand (R117): in RUN and ACTIVE, once the lines have taken them up, held on by the output test, or
else the value of the source it follows under its polarity; otherwise inactive. -/
def State.lineActive (s : State) (l : Fin 16) : Bool :=
  decide (6 ≤ s.stage) &&
    (s.heldOn l ||
      match s.outputs[l].entry.polarity with
      | .normal => s.sourceValue l (s.lineSource l)
      | .inverted => !s.sourceValue l (s.lineSource l))

/-- LAMP_SHORT of a lamp line is raised. -/
def State.shortLive (s : State) (k : Fin 8) : Bool := s.isLive .lampShort (some k.val)

/-- Drive one line. A lamp driver is on only in protection state NORMAL; switching it on sets the proving deadline if
LAMP_SHORT is raised, and switching it off cancels it (Table 6.7). -/
def driveLine (l : Fin 16) (s : State) : State :=
  let o := s.outputs[l]
  let active := s.lineActive l
  match lampOf l with
  | none => { s with outputs := vput s.outputs l { o with on := active } }
  | some k =>
    let lamp := s.lamps[k]
    let on := active && lamp.protection = .normal
    let proving :=
      if on then (if o.on then lamp.proving else if s.shortLive k then some (s.after 100) else none) else none
    { s with outputs := vput s.outputs l { o with on := on }, lamps := vput s.lamps k { lamp with proving := proving } }

/-- Every line is driven again. -/
def redrive (s : State) : State := each 16 driveLine s

end Sys2Proof.Machine
end

