-- ==== Sys2Proof/Machine/Chimes.lean ====
section
/-! DEFINITION. The chime arbiter: the pending request set, arbitration and playing (R108 to R112). -/

namespace Sys2Proof.Machine

/-- The pattern with a number; a number above 7 names none and reads as the pattern after reset. -/
def State.pattern (s : State) (p : Nat) : ChimePattern := (vget? s.chime.patterns p).getD ChimePattern.initial

/-- The request that has the grant by R109: the highest priority, the lowest requester among equals. -/
def State.bestRequest (s : State) : Option (Fin 70 × Nat) :=
  (List.finRange 70).foldl
    (fun best r =>
      match s.chime.pending[r] with
      | none => best
      | some p =>
        match best with
        | none => some (r, p)
        | some (_, q) => if (s.pattern q).priority < (s.pattern p).priority then some (r, p) else best)
    none

/-- A granted request starts its pattern from the beginning, with its full repeat count (R109). -/
def startGrant (r : Fin 70) (p : Nat) (s : State) : State :=
  let pat := s.pattern p
  { s with chime := { s.chime with
      grant := some { requester := r, sounding := true, left := pat.repeats, deadline := s.after pat.onTime } } }

/-- The grant is dropped if the requester holds it, so that a request placed anew is a different request (R108). -/
def ChimeArbiter.dropGrant (c : ChimeArbiter) (r : Fin 70) : ChimeArbiter :=
  match c.grant with
  | some g => if g.requester = r then { c with grant := none } else c
  | none => c

/-- Arbitration (R109); the lines that follow CHIME_ACTIVE are driven again. -/
def arbitrate (s : State) : State :=
  redrive <|
    match s.bestRequest with
    | none => { s with chime := { s.chime with grant := none } }
    | some (r, p) =>
      match s.chime.grant with
      | some g => if g.requester = r then s else startGrant r p s
      | none => startGrant r p s

/-- A requester places a request for a pattern: it joins the set, or replaces the one it has pending (R108). -/
def placeRequest (r : Fin 70) (p : Nat) (s : State) : State :=
  let c := s.chime.dropGrant r
  arbitrate { s with chime := { c with pending := vput c.pending r (some p) } }

/-- A requester's request leaves the set; a withdrawal with nothing pending changes nothing (R108). -/
def withdrawRequest (r : Fin 70) (s : State) : State :=
  if s.chime.pending[r].isSome then
    let c := s.chime.dropGrant r
    arbitrate { s with chime := { c with pending := vput c.pending r none } }
  else s

/-- A group withdrawal is one change of the set (R108). -/
def withdrawGroup (rs : List (Fin 70)) (s : State) : State :=
  if rs.any fun r => s.chime.pending[r].isSome then
    let drop (c : ChimeArbiter) (r : Fin 70) : ChimeArbiter :=
      let c := c.dropGrant r
      { c with pending := vput c.pending r none }
    arbitrate { s with chime := rs.foldl drop s.chime }
  else s

/-- The set is emptied as one change, the grant becomes none and CHM silent (R112). -/
def emptyChimes (s : State) : State :=
  redrive { s with chime := { s.chime with pending := Vector.replicate 70 none, grant := none } }

/-- Place a request for a pattern that may be NONE. -/
def placeIf (r : Fin 70) (p : Option Nat) (s : State) : State :=
  match p with
  | some p => placeRequest r p s
  | none => s

/-- The requester numbers of Table 6.2. -/
def telltaleRequester (t : Fin 64) : Fin 70 := Fin.mk t.val (by omega)
def doorRequester (d : Fin 4) : Fin 70 := Fin.mk (64 + d.val) (by omega)
def stopRequester : Fin 70 := 68
def panelRequester : Fin 70 := 69

/-- The tone on CHM in Hz, none while it is silent (R110, R206). -/
def State.chm (s : State) : Option Nat :=
  if s.resetLow then none
  else match s.chime.grant with
    | some g =>
      if g.sounding then (s.chime.pending[g.requester]).map fun p => (s.pattern p).tone else none
    | none => none

/-- The end of the on-time: CHM falls silent for the off-time (R110). -/
def endOnTime (s : State) : State :=
  match s.chime.grant with
  | some g =>
    if g.sounding && s.due (some g.deadline) then
      let off := match s.chime.pending[g.requester] with
        | some p => (s.pattern p).offTime
        | none => 0
      { s with chime := { s.chime with grant := some { g with sounding := false, deadline := s.after off } } }
    else s
  | none => s

/-- The end of the off-time: the next cycle begins, or a finite pattern that has played its cycles completes and its
request leaves the set (R110). -/
def endOffTime (s : State) : State :=
  match s.chime.grant with
  | some g =>
    if !g.sounding && s.due (some g.deadline) then
      match s.chime.pending[g.requester] with
      | none => s
      | some p =>
        let pat := s.pattern p
        if pat.repeats ≠ 0 ∧ g.left ≤ 1 then withdrawRequest g.requester s
        else { s with chime := { s.chime with
          grant := some { g with sounding := true, left := g.left - 1, deadline := s.after pat.onTime } } }
    else s
  | none => s

end Sys2Proof.Machine
end

