-- ==== Sys2Proof/Machine/Telltales.lean ====
section
/-! DEFINITION. Telltale states and acknowledgement (R99 to R101). -/

namespace Sys2Proof.Machine

/-- A telltale's state becomes `st`: a change sets TELLTALE; an entry into LIT_NEW places its chime request, a
departure from it withdraws the request; the lines that follow it are driven again (R99). -/
def setTelltale (t : Fin 64) (st : TelltaleState) (s : State) : State :=
  let u := s.telltales[t]
  if u.state = st then s
  else
    let s := setFlag .telltale { s with telltales := vput s.telltales t { u with state := st } }
    let s := if st = .litNew then placeIf (telltaleRequester t) u.entry.chime s
      else if u.state = .litNew then withdrawRequest (telltaleRequester t) s
      else s
    redrive s

/-- Table 5.7: the state a telltale moves to when its condition becomes `truth`. -/
def TelltaleUnit.onCondition (u : TelltaleUnit) (truth : Bool) : TelltaleState :=
  match truth, u.state with
  | true, .dark => .litNew
  | true, .latched => .litNew
  | true, st => st
  | false, .litNew => if u.entry.latch then .latched else .dark
  | false, .litAcked => .dark
  | false, st => st

/-- The enabled telltales that name a condition act on the change of its truth (R95, R99), once the telltales have
taken up RUN and ACTIVE (R193, `stage` 5, assumption 7). -/
def tellTelltales (c : Fin 96) (truth : Bool) (s : State) : State :=
  if 5 ≤ s.stage then
    each 64 (fun t s =>
      let u := s.telltales[t]
      if u.entry.enabled && u.entry.condition = c.val then setTelltale t (u.onCondition truth) s else s) s
  else s

/-- The enabled telltales whose condition is true light, at START and at wake in RUN (R105). -/
def lightTelltales (s : State) : State :=
  each 64 (fun t s =>
    let u := s.telltales[t]
    let truth := match unit? 96 u.entry.condition with
      | some c => s.conds[c].isTrue
      | none => false
    if u.entry.enabled && truth then setTelltale t (u.onCondition true) s else s) s

/-- An enabled telltale in LIT_NEW or LATCHED. -/
def TelltaleUnit.awaits (u : TelltaleUnit) : Bool := u.entry.enabled && (u.state = .litNew || u.state = .latched)

/-- The highest class present among the enabled telltales in LIT_NEW or LATCHED (R100). -/
def State.ackClass (s : State) : Option TelltaleClass :=
  if anyUnit 64 fun t => s.telltales[t].awaits && s.telltales[t].entry.cls = .stop then some .stop
  else if anyUnit 64 fun t => s.telltales[t].awaits && s.telltales[t].entry.cls = .caution then some .caution
  else if anyUnit 64 fun t => s.telltales[t].awaits then some .notice
  else none

/-- What an acknowledge of a class makes of a telltale: LIT_NEW becomes LIT_ACKED, LATCHED becomes DARK (R100). -/
def TelltaleUnit.acknowledge (u : TelltaleUnit) (c : TelltaleClass) : TelltaleUnit :=
  if u.awaits && u.entry.cls = c then
    { u with state := if u.state = .litNew then .litAcked else .dark }
  else u

/-- The telltales an acknowledge of a class acts on. -/
def State.ackMembers (s : State) (c : TelltaleClass) : List (Fin 64) :=
  (List.finRange 64).filter fun t => s.telltales[t].awaits && s.telltales[t].entry.cls = c

/-- An acknowledge (R100): the class acted on, the number of telltales changed, and the state after it. The chime
requests of the LIT_NEW telltales acted on are withdrawn together. -/
def acknowledge (s : State) : Option TelltaleClass × Nat × State :=
  match s.ackClass with
  | none => (none, 0, s)
  | some c =>
    let members := s.ackMembers c
    let silenced := (members.filter fun t => s.telltales[t].state = .litNew).map telltaleRequester
    let s1 := setFlag .telltale { s with telltales := vmap (·.acknowledge c) s.telltales }
    (some c, members.length, redrive (withdrawGroup silenced s1))

end Sys2Proof.Machine
end

