-- ==== Sys2Proof/Machine/Conditions.lean ====
section
/-! DEFINITION. The condition evaluator (R88 to R97). -/

namespace Sys2Proof.Machine

/-- The live fault set holds an entry with the code and a source that matches (R91). -/
def State.faultActive (s : State) (code : FaultCode) (source : FaultSource) : Bool :=
  s.faults.live.any fun e =>
    e.code = code && match source with
      | .any => true
      | .none => e.source = none
      | .num n => e.source = some n

/-- Table 5.3: the comparison truth on a usable slot of value `v`, from the truth held before. -/
def compareUsable (e : CondEntry) (before : Bool) (v : Int) : Bool :=
  match e.comparator with
  | .above => if before then !decide (v ≤ e.threshold - e.hysteresis) else decide (e.threshold < v)
  | .below => if before then !decide (e.threshold + e.hysteresis ≤ v) else decide (v < e.threshold)
  | .equal => decide (v = e.threshold)
  | .notEqual => decide (v ≠ e.threshold)
  | .anyBits => (BitVec.ofInt 32 v &&& BitVec.ofNat 32 e.mask) != 0
  | .notUsable => false
  | .faultActive => before

/-- R91: the comparison truth on a slot that is not usable. -/
def compareUnusable (e : CondEntry) (before : Bool) : Bool :=
  match e.comparator with
  | .notUsable => true
  | _ => match e.policy with
    | .isFalse => false
    | .isTrue => true
    | .hold => before

/-- The comparison truth an evaluation forms (R90, R91). -/
def State.comparison (s : State) (u : CondUnit) : Bool :=
  match u.entry.comparator with
  | .faultActive => s.faultActive u.entry.code u.entry.source
  | _ =>
    let r := s.slot u.entry.slot
    if r.state.usable then compareUsable u.entry u.comparison r.value
    else compareUnusable u.entry u.comparison

/-- The gate of a condition is true, or it has none (R92). -/
def State.gateTrue (s : State) (u : CondUnit) : Bool :=
  match u.entry.gate with
  | none => true
  | some g => match unit? 96 g with
    | some g => s.conds[g].isTrue
    | none => false

/-- Table 5.4: the move of a condition whose raw truth becomes `raw`. -/
def CondUnit.move (u : CondUnit) (raw : Bool) (s : State) : CondUnit :=
  if u.raw = raw then u
  else
    let u := { u with raw := raw }
    match raw, u.state with
    | true, .off =>
      if u.entry.onDelay = 0 then { u with state := .on, deadline := none }
      else { u with state := .arming, deadline := some (s.after u.entry.onDelay) }
    | true, .releasing => { u with state := .on, deadline := none }
    | true, _ => u
    | false, .arming => { u with state := .off, deadline := none }
    | false, .on =>
      if u.entry.offDelay = 0 then { u with state := .off, deadline := none }
      else { u with state := .releasing, deadline := some (s.after u.entry.offDelay) }
    | false, _ => u

/-- The condition as an evaluation leaves it (R89). -/
def State.evaluated (s : State) (c : Fin 96) : CondUnit :=
  let u := s.conds[c]
  let cmp := s.comparison u
  ({ u with comparison := cmp } : CondUnit).move (cmp && s.gateTrue u) s

/-- Conditions are evaluated once they have taken up RUN and ACTIVE (R88), and only enabled ones. -/
def State.evaluates (s : State) (c : Fin 96) : Bool := decide (3 ≤ s.stage) && s.conds[c].entry.enabled

/-- A condition becomes `u`; a change of its truth is told to its telltales and lines. Used for a gated condition,
which gates no other (R86, R95). -/
def putGated (c : Fin 96) (u : CondUnit) (s : State) : State :=
  let before := s.conds[c].isTrue
  let s := { s with conds := vput s.conds c u }
  if u.isTrue = before then s else redrive (tellTelltales c u.isTrue s)

/-- Evaluate a condition gated by another. -/
def evaluateGated (c : Fin 96) (s : State) : State :=
  if s.evaluates c then putGated c (s.evaluated c) s else s

/-- A condition becomes `u`; a change of its truth is told, as it is made, to its telltales, to the conditions it
gates and to its lines (R95). -/
def putCond (c : Fin 96) (u : CondUnit) (s : State) : State :=
  let before := s.conds[c].isTrue
  let s := { s with conds := vput s.conds c u }
  if u.isTrue = before then s
  else
    let s := tellTelltales c u.isTrue s
    let s := each 96 (fun g s => if s.conds[g].entry.gate = some c.val then evaluateGated g s else s) s
    redrive s

/-- An evaluation of an enabled condition (R89). -/
def evaluate (c : Fin 96) (s : State) : State :=
  if s.evaluates c then putCond c (s.evaluated c) s else s

/-- The conditions that read a slot are told of its change (R34, R89), in index order, which is the model's choice
(assumption 48). -/
def tellConditions (k : Fin 256) (s : State) : State :=
  each 96 (fun c s =>
    let e := s.conds[c].entry
    if e.slot = k.val && e.comparator ≠ .faultActive then evaluate c s else s) s

/-- The FAULT_ACTIVE conditions are told of a join or a departure in the live fault set (R89, R153), in index order
(assumption 48). -/
def tellFaultConditions (s : State) : State :=
  each 96 (fun c s => if s.conds[c].entry.comparator = .faultActive then evaluate c s else s) s

/-- A condition's on-delay or off-delay expires (Table 5.4). -/
def expireDelay (c : Fin 96) (s : State) : State :=
  let u := s.conds[c]
  if s.due u.deadline then
    match u.state with
    | .arming => putCond c { u with state := .on, deadline := none } s
    | .releasing => putCond c { u with state := .off, deadline := none } s
    | _ => s
  else s

/-- A condition that is OFF, with both truths false and no deadline, under its entry (R88). -/
def CondUnit.clear (u : CondUnit) : CondUnit :=
  { u with state := .off, comparison := false, raw := false, deadline := none }

/-- Every condition becomes OFF (R97). -/
def clearConditions (s : State) : State := { s with conds := vmap CondUnit.clear s.conds }

/-- Each enabled condition is evaluated, from C0 upward (R97). -/
def evaluateAll (s : State) : State := each 96 evaluate s

/-- Every telltale becomes DARK, whatever its condition (R105); its request goes with the emptying of the pending
set. -/
def darkenTelltales (s : State) : State :=
  setFlagIf (anyUnit 64 fun t => s.telltales[t].state ≠ .dark) .telltale
    { s with telltales := vmap (fun u => { u with state := .dark }) s.telltales }

end Sys2Proof.Machine
end

