-- ==== Sys2Proof/Machine/Gauges.lean ====
section
/-! DEFINITION. Gauge targets, motion and homing (R70 to R77, R79, R82, R83), and the writing of an internal slot,
whose change is told to the gauges and conditions that read it (R34, R40). -/

namespace Sys2Proof.Machine

/-- A position limited to 0 to full scale. -/
def limitPosition (fullScale : Nat) (y : Int) : Nat := Nat.min y.toNat fullScale

/-- The PWL conversion from the segment that begins at `p` on (R71). -/
def pwlFrom (x : Int) (fullScale : Nat) (p : Int × Nat) : List (Int × Nat) → Nat
  | [] => p.2
  | q :: rest =>
    if x < q.1 then
      limitPosition fullScale ((p.2 : Int) + roundDiv ((x - p.1) * ((q.2 : Int) - (p.2 : Int))) (q.1 - p.1).toNat)
    else pwlFrom x fullScale q rest

/-- The first point-count points of an entry. -/
def gaugePoints (e : GaugeEntry) : List (Int × Nat) := e.points.toArray.toList.take e.pointCount

/-- The PWL conversion of a slot value (R71). -/
def pwl (e : GaugeEntry) (x : Int) : Nat :=
  match gaugePoints e with
  | [] => 0
  | p :: rest => if x ≤ p.1 then p.2 else pwlFrom x e.fullScale p rest

/-- A candidate position and whether it comes from a usable slot (R72); none is "no candidate". -/
def State.candidate (s : State) (e : GaugeEntry) : Option (Nat × Bool) :=
  if !s.ignition.accepted then some (0, false)
  else
    let r := s.slot e.source
    if r.state.usable then some (pwl e r.value, true)
    else match e.action with
      | .hold => none
      | .zero => some (0, false)
      | .parkAt => some (e.parkPosition, false)

/-- The deadband test of R73 on a candidate from a usable slot. -/
def GaugeUnit.adopts (u : GaugeUnit) (c : Nat) : Bool :=
  decide (u.entry.deadband ≤ distance c u.target) || c = 0 || c = u.entry.fullScale

/-- A gauge forms its candidate at a change of its slot and adopts it by the test of R73; an OFF gauge forms none. -/
def State.hearing (s : State) (u : GaugeUnit) : GaugeUnit :=
  if u.state = .off then u
  else match s.candidate u.entry with
    | none => u
    | some (c, true) => if u.adopts c then { u with target := c } else u
    | some (c, false) => { u with target := c }

/-- A gauge sets its target afresh: any candidate is adopted without the deadband test (R73). -/
def State.retargeted (s : State) (u : GaugeUnit) : GaugeUnit :=
  if u.state = .off then u
  else match s.candidate u.entry with
    | none => u
    | some (c, _) => { u with target := c }

/-- Every enabled gauge that reads a slot is told of its change (R34); in PARKED none is (R80). -/
def tellGauges (k : Fin 256) (s : State) : State :=
  if s.isActive then
    let told (u : GaugeUnit) : GaugeUnit :=
      if u.entry.enabled && u.entry.source = k.val then s.hearing u else u
    { s with gauges := vmap told s.gauges }
  else s

/-- The coils are driven in HOMING and TRACKING (Table 4.2), and not while the part is held in reset (R206). -/
def State.energised (s : State) (g : Fin 6) : Bool :=
  !s.resetLow && (s.gauges[g].state = .homing || s.gauges[g].state = .tracking)

/-- The reported position: the position in TRACKING, 0 otherwise (R70, R84). -/
def GaugeUnit.reported (u : GaugeUnit) : Nat := if u.state = .tracking then u.position else 0

/-- A homing attempt begins (R76): travel deadline now + (full scale + 200) ms. -/
def GaugeUnit.attemptFrom (u : GaugeUnit) (n : Nat) (s : State) : GaugeUnit :=
  { u with attempt := n, travel := some (s.after (u.entry.fullScale + 200)) }

/-- Homing begins at attempt 1 (R76): the gauge becomes HOMING and its target is set afresh. -/
def State.homed (s : State) (u : GaugeUnit) : GaugeUnit :=
  (s.retargeted { u with state := .homing, position := 0, sweep := none, motion := none }).attemptFrom 1 s

def beginHoming (g : Fin 6) (s : State) : State := { s with gauges := vput s.gauges g (s.homed s.gauges[g]) }

/-- A gauge that is OFF: de-energised, with target, position and attempt number 0. -/
def GaugeUnit.asOff (u : GaugeUnit) : GaugeUnit :=
  { u with state := .off, target := 0, position := 0, attempt := 0, sweep := none, travel := none, motion := none }

/-- The point the motion steps aim at: the sweep target during a sweep, the target otherwise (R75). -/
def GaugeUnit.aim (u : GaugeUnit) : Nat := u.sweep.getD u.target

/-- One motion step (R75): the pointer moves toward the aim by at most the slew limit. -/
def GaugeUnit.stepped (u : GaugeUnit) : Nat :=
  let d := Nat.min u.entry.slew (distance u.aim u.position)
  if u.position ≤ u.aim then u.position + d else u.position - d

/-- The sweep target after a step: it turns at its ends (R82). -/
def GaugeUnit.turned (u : GaugeUnit) (position : Nat) : Option Nat :=
  match u.sweep with
  | none => none
  | some a => if position = a then some (if a = 0 then u.entry.fullScale else 0) else some a

/-- The 1 ms motion step of a TRACKING gauge; the next step is due 1 ms after this one was. -/
def motionStep (g : Fin 6) (s : State) : State :=
  let u := s.gauges[g]
  if u.state = .tracking && s.due u.motion then
    let p := u.stepped
    let u' := { u with position := p, sweep := u.turned p, motion := u.motion.map (· + 1000) }
    { s with gauges := vput s.gauges g u' }
  else s

/-- A stall reported in HOMING completes homing; in any other state it is ignored (R77). -/
def stall (g : Fin 6) (s : State) : State :=
  let u := s.gauges[g]
  if s.isActive && u.state = .homing then
    let u' := { u with state := .tracking, position := 0, attempt := 0, travel := none, motion := some (s.after 1) }
    { s with gauges := vput s.gauges g u' }
  else s

/-- The effect of ignition off on an enabled gauge (R74, R79). -/
def GaugeUnit.ignitionOff (u : GaugeUnit) : GaugeUnit :=
  if !u.entry.enabled then u
  else match u.state with
    | .off => u
    | .homing => { u with state := .unhomed, target := 0, attempt := 0, travel := none }
    | _ => { u with target := 0 }

/-- The effect of ignition on on an enabled gauge (R74). -/
def State.ignitionOnGauge (s : State) (u : GaugeUnit) : GaugeUnit :=
  if !u.entry.enabled then u
  else match u.state with
    | .off => u
    | .unhomed => s.homed u
    | _ => s.retargeted u

/-- The effect of START on an enabled gauge: its target is set afresh (R69). -/
def State.startGauge (s : State) (u : GaugeUnit) : GaugeUnit := if u.entry.enabled then s.retargeted u else u

/-- The effect of park on a gauge (R80). -/
def GaugeUnit.parked (u : GaugeUnit) : GaugeUnit :=
  if u.state = .fault then { u with sweep := none, travel := none, motion := none } else u.asOff

/-- The effect of wake on a gauge: an enabled one begins homing, another is OFF (R80). -/
def State.wokenGauge (s : State) (u : GaugeUnit) : GaugeUnit := if u.entry.enabled then s.homed u else u.asOff

/-! ### Internal slots -/

/-- An owner writes its internal slot; only a change of value or state is a change, and it is told to the gauges and
conditions that read the slot (R34, R40). -/
def writeInternal (k : Fin 256) (v : Int) (st : SlotState) (s : State) : State :=
  let r := s.slots[k]
  if r.value = v ∧ r.state = st then s
  else
    let r' := { r with value := v, state := st, raw := v, clamped := false, lastChange := s.msNow }
    tellConditions k (tellGauges k { s with slots := vput s.slots k r' })

/-- An owner publishes a value, VALID. -/
def publish (k : Fin 256) (v : Nat) (s : State) : State := writeInternal k v .valid s

def bit (b : Bool) : Nat := if b then 1 else 0

end Sys2Proof.Machine
end

