-- ==== Sys2Proof/Machine/Faults.lean ====
section
/-! DEFINITION. The fault monitor and fault memory (chapter 8): raising, clearing, confirmation, storing with
replacement, healing, and the clearing of fault memory. -/

namespace Sys2Proof.Machine

/-- The confirm time of a code in ms (R150). -/
def State.confirmTime (s : State) (code : FaultCode) : Nat := s.faults.confirm[codeNumber code]

/-- A join or a removal is handed on (R153): ACTIVE_FAULTS is written, then every FAULT_ACTIVE condition is
evaluated. -/
def handOn (s : State) : State := tellFaultConditions (publish slotActiveFaults s.faults.live.length s)

/-! ### Fault memory -/

def FaultRecord.isPair (r : FaultRecord) (code : FaultCode) (source : Option Nat) : Bool :=
  r.code = code && r.source = source

/-- The position that holds a record for the pair. -/
def State.recordAt (s : State) (code : FaultCode) (source : Option Nat) : Option (Fin 40) :=
  firstUnit 40 fun p => match s.faults.memory[p] with
    | some r => r.isPair code source
    | none => false

/-- The lowest empty position. -/
def State.emptyPosition (s : State) : Option (Fin 40) := firstUnit 40 fun p => s.faults.memory[p].isNone

/-- TOTAL_DISTANCE and IGNITION_CYCLES as published. -/
def State.distanceNow (s : State) : Nat := s.slots[slotTotalDistance].value.toNat
def State.cycleNow (s : State) : Nat := s.slots[slotIgnitionCycles].value.toNat

/-- The freeze frame taken now: the listed slots' index, value and state, in list order (R157). -/
def State.freezeFrame (s : State) : List Reading :=
  s.faults.freezeList.toArray.toList.filterMap fun item =>
    item.map fun k => { slot := k, value := (s.slot k).value, state := (s.slot k).state }

/-- A new record for a pair (R157). -/
def State.newRecord (s : State) (code : FaultCode) (source : Option Nat) : FaultRecord :=
  { code := code, source := source, severity := codeSeverity code, active := true, occurrences := 1,
    firstDistance := s.distanceNow, lastDistance := s.distanceNow, firstCycle := s.cycleNow, heal := 0,
    freeze := s.freezeFrame }

/-- A further confirmation of a stored pair (R157). -/
def State.confirmedAgain (s : State) (r : FaultRecord) : FaultRecord :=
  { r with occurrences := bump8 r.occurrences, lastDistance := s.distanceNow, active := true, heal := 0 }

/-- Among the records that satisfy `ok`, the position of the one that no other beats, the lowest among equals. -/
def State.victim (s : State) (ok : FaultRecord → Bool) (beats : FaultRecord → FaultRecord → Bool) :
    Option (Fin 40) :=
  ((List.finRange 40).foldl
    (fun (best : Option (Fin 40 × FaultRecord)) p =>
      match s.faults.memory[p] with
      | none => best
      | some r =>
        if ok r then
          match best with
          | none => some (p, r)
          | some (_, q) => if beats r q then some (p, r) else best
        else best)
    none).map (·.1)

/-- R158 step 1: lowest severity, then highest heal count, then oldest first ignition cycle. -/
def beatsInactive (a b : FaultRecord) : Bool :=
  decide (a.severity < b.severity) ||
    (a.severity = b.severity &&
      (decide (b.heal < a.heal) || (a.heal = b.heal && decide (a.firstCycle < b.firstCycle))))

/-- R158 step 2: lowest severity, then oldest first ignition cycle. -/
def beatsActive (a b : FaultRecord) : Bool :=
  decide (a.severity < b.severity) || (a.severity = b.severity && decide (a.firstCycle < b.firstCycle))

/-- The victim in a full memory for a new pair of severity `sev` (R158). -/
def State.replacement (s : State) (sev : Nat) : Option (Fin 40) :=
  match s.victim (fun r => !r.active && decide (r.severity ≤ sev)) beatsInactive with
  | some p => some p
  | none => s.victim (fun r => r.active && decide (r.severity < sev)) beatsActive

def putRecord (p : Fin 40) (r : Option FaultRecord) (s : State) : State :=
  { s with faults := { s.faults with memory := vput s.faults.memory p r } }

/-- The pair of a confirmation is stored (R157, R158), or counted as not stored. -/
def storePair (code : FaultCode) (source : Option Nat) (s : State) : State :=
  match s.recordAt code source with
  | some p => putRecord p (s.faults.memory[p].map s.confirmedAgain) s
  | none =>
    match s.emptyPosition with
    | some p => putRecord p (some (s.newRecord code source)) s
    | none =>
      match s.replacement (codeSeverity code) with
      | some p => putRecord p (some (s.newRecord code source)) s
      | none => setFlag .faultMemoryFull
          { s with faults := { s.faults with memoryOverflow := bump16 s.faults.memoryOverflow } }

/-- The first-fault latch is filled if it is empty (R160). -/
def fillLatch (code : FaultCode) (source : Option Nat) (s : State) : State :=
  match s.faults.latch with
  | some _ => s
  | none => { s with faults := { s.faults with
      latch := some { code := code, source := source, distance := s.distanceNow, cycle := s.cycleNow } } }

/-! ### The live fault set -/

/-- The entry of a pair is marked confirmed and holds no deadline. -/
def markConfirmed (code : FaultCode) (source : Option Nat) (s : State) : State :=
  let mark (e : LiveEntry) : LiveEntry :=
    if e.isPair code source then { e with confirmed := true, deadline := none } else e
  { s with faults := { s.faults with live := s.faults.live.map mark } }

/-- A confirmation (R155). -/
def confirmPair (code : FaultCode) (source : Option Nat) (s : State) : State :=
  confirmationTold code <| setFlag .faultConfirmed <| fillLatch code source <| storePair code source <|
    markConfirmed code source s

/-- A raise of a fault pair (R151, R154). -/
def raiseFault (code : FaultCode) (source : Option Nat) (s : State) : State :=
  if !s.isActive || s.isLive code source then s
  else if 48 ≤ s.faults.live.length then
    { s with faults := { s.faults with liveOverflow := bump16 s.faults.liveOverflow } }
  else
    let e : LiveEntry :=
      { code := code, source := source, since := s.now, confirmed := false,
        deadline := some (s.after (s.confirmTime code)) }
    let s := handOn { s with faults := { s.faults with live := s.faults.live ++ [e] } }
    if s.confirmTime code = 0 then confirmPair code source s else s

/-- The record as INACTIVE, with heal count 0; a record that is INACTIVE already is not changed (R159). -/
def FaultRecord.asInactive (r : FaultRecord) : FaultRecord :=
  if r.active then { r with active := false, heal := 0 } else r

/-- The record of a pair becomes INACTIVE (R159). A record that is INACTIVE already is not changed. -/
def deactivate (code : FaultCode) (source : Option Nat) (s : State) : State :=
  match s.recordAt code source with
  | some p => putRecord p (s.faults.memory[p].map FaultRecord.asInactive) s
  | none => s

/-- A clear of a fault pair (R152, R153). -/
def clearFault (code : FaultCode) (source : Option Nat) (s : State) : State :=
  if s.isActive && s.isLive code source then
    let confirmed := s.faults.live.any fun e => e.isPair code source && e.confirmed
    let s := { s with faults := { s.faults with live := s.faults.live.filter fun e => !e.isPair code source } }
    handOn (if confirmed then deactivate code source s else s)
  else s

/-- Every live entry whose code satisfies `p` is cleared, in the order of the set. -/
def clearCodes (p : FaultCode → Bool) (s : State) : State :=
  (s.faults.live.filter fun e => p e.code).foldl (fun s e => clearFault e.code e.source s) s

/-- Raise or clear a pair. -/
def setFault (b : Bool) (code : FaultCode) (source : Option Nat) (s : State) : State :=
  if b then raiseFault code source s else clearFault code source s

/-- A live entry's confirmation deadline expires (R154). -/
def expireConfirmation (code : FaultCode) (source : Option Nat) (s : State) : State :=
  if s.faults.live.any fun e => e.isPair code source && !e.confirmed && s.due e.deadline then
    confirmPair code source s
  else s

/-- The unconfirmed live entries that satisfy `p` and whose deadline has been reached are confirmed, in the order of
the set: at a clear that order is R162's; at a FAULT_CFG write R155 lets either of two entries come first, and the
order is the model's choice (assumption 49). -/
def confirmDue (p : LiveEntry → Bool) (s : State) : State :=
  (s.faults.live.filter fun e => !e.confirmed && p e && s.due e.deadline).foldl
    (fun s e => confirmPair e.code e.source s) s

/-- A taken FAULT_CFG write of a code entry (R150, R154): unconfirmed entries of the code are timed anew from their
since-time, and confirmed at once where that moment is not later than now. -/
def setConfirmTime (n : Fin 21) (ms : Nat) (s : State) : State :=
  let retime (e : LiveEntry) : LiveEntry :=
    if codeNumber e.code = n && !e.confirmed then { e with deadline := some (e.since + 1000 * ms) } else e
  confirmDue (fun e => codeNumber e.code = n)
    { s with faults := { s.faults with confirm := vput s.faults.confirm n ms, live := s.faults.live.map retime } }

/-- The number of records in fault memory. -/
def State.recordCount (s : State) : Nat := (s.faults.memory.toArray.toList.filter Option.isSome).length

/-- A parking-brake slot that is not NONE and is usable with a value other than 0 (R162). -/
def State.brakeApplied (s : State) : Bool :=
  match s.system.parkingBrake with
  | none => false
  | some k => (s.slot k).state.usable && (s.slot k).value != 0

/-- STANDSTILL is 1. -/
def State.atStandstill (s : State) : Bool := s.slots[slotStandstill].value = 1

/-- A clear request is taken (R162). -/
def State.clearAllowed (s : State) : Bool := s.atStandstill && s.brakeApplied

/-- A taken clear of fault memory, steps 1 to 4 of R162. -/
def clearMemory (s : State) : State :=
  let afresh (e : LiveEntry) : LiveEntry :=
    { e with confirmed := false, since := s.now, deadline := some (s.after (s.confirmTime e.code)) }
  confirmDue (fun e => s.confirmTime e.code = 0)
    { s with faults := { s.faults with
        memory := Vector.replicate 40 none, latch := none, memoryOverflow := 0, live := s.faults.live.map afresh } }

/-- The healing pass on one position (R161). -/
def healRecord (limit : Nat) (r : Option FaultRecord) : Option FaultRecord :=
  match r with
  | none => none
  | some r =>
    if r.active then some r
    else
      let h := bump8 r.heal
      if limit ≤ h then none else some { r with heal := h }

/-- The healing pass (R161). -/
def healingPass (s : State) : State :=
  { s with faults := { s.faults with memory := vmap (healRecord s.faults.healLimit) s.faults.memory } }

/-- Every ACTIVE record becomes INACTIVE (R159, R164). -/
def inactiveMemory (m : Vector (Option FaultRecord) 40) : Vector (Option FaultRecord) 40 :=
  vmap (fun r => r.map FaultRecord.asInactive) m

end Sys2Proof.Machine
end

