-- ==== Sys2Proof/Machine/OutputTest.lean ====
section
/-! DEFINITION. The output test (R175, R176, R82, R83), and what of a gauge touches it or the fault monitor: spent
homing attempts (R78) and the effect of a GAUGE write (R68). -/

namespace Sys2Proof.Machine

/-- The start conditions of an output test (R175 step 3). -/
def State.startConditions (s : State) : Bool :=
  s.isRun && s.ignition.accepted && s.atStandstill && s.brakeApplied

/-- The sweep of a gauge under test begins, with sweep target 0, or ends (R82, R83). -/
def setSweep (u : TestUnit) (target : Option Nat) (s : State) : State :=
  match u with
  | .gauge g =>
    let u' := { s.gauges[g] with sweep := target }
    { s with gauges := vput s.gauges g u' }
  | _ => s

/-- The running output test ends (R176); with no test running nothing happens. -/
def endTest (s : State) : State :=
  match s.service.test with
  | none => s
  | some t => redrive (setFlag .outputTest (setSweep t.unit none { s with service := { s.service with test := none } }))

/-- A taken OUTPUT_TEST_START (R175): a running test is ended first. -/
def startTest (u : TestUnit) (s : State) : State :=
  let s := endTest s
  let t : OutputTest := { unit := u, deadline := s.after 30000 }
  redrive (setFlag .outputTest (setSweep u (some 0) { s with service := { s.service with test := some t } }))

/-- A running test is told of a change; it ends if a start condition no longer holds (R176). -/
def tellTest (s : State) : State := if s.startConditions then s else endTest s

/-- The test deadline expires (R176). -/
def expireTest (s : State) : State := if s.due (s.service.test.map (·.deadline)) then endTest s else s

/-! ### Gauges and faults -/

/-- The third homing attempt is spent: the gauge becomes FAULT, and GAUGE_HOME is raised and GAUGE_FAULT set (R78). -/
def gaugeFault (g : Fin 6) (s : State) : State :=
  let u' := { s.gauges[g] with state := .fault, attempt := 0, travel := none }
  setFlag .gaugeFault (raiseFault .gaugeHome (some g.val) { s with gauges := vput s.gauges g u' })

/-- The travel deadline of a homing attempt expires with no stall seen (R78). -/
def expireTravel (g : Fin 6) (s : State) : State :=
  let u := s.gauges[g]
  if u.state = .homing && s.due u.travel then
    if u.attempt < 3 then { s with gauges := vput s.gauges g (u.attemptFrom (u.attempt + 1) s) }
    else gaugeFault g s
  else s

/-- The gauge as a taken GAUGE write leaves it (R68); a target above the new full scale is lowered first. -/
def State.gaugeWritten (s : State) (u : GaugeUnit) (e : GaugeEntry) : GaugeUnit :=
  let v := { u with entry := e, target := Nat.min u.target e.fullScale }
  match u.entry.enabled, e.enabled with
  | false, false => v
  | false, true => s.homed v
  | true, false => if u.state = .fault then v else v.asOff
  | true, true =>
    if u.entry.fullScale ≠ e.fullScale ∧ (u.state = .tracking ∨ u.state = .homing) then s.homed v
    else s.retargeted v

/-- A taken GAUGE write (R68): a gauge that leaves FAULT begins homing and then has GAUGE_HOME cleared
(assumption 54), and a gauge under test that leaves
TRACKING ends the test (R83). -/
def writeGaugeEntry (g : Fin 6) (e : GaugeEntry) (s : State) : State :=
  let u := s.gauges[g]
  let u' := s.gaugeWritten u e
  let s := { s with gauges := vput s.gauges g u' }
  let s := if u.state = .fault ∧ u'.state ≠ .fault then clearFault .gaugeHome (some g.val) s else s
  if u.state = .tracking ∧ u'.state ≠ .tracking ∧ s.testUnit = some (.gauge g) then endTest s else s

end Sys2Proof.Machine
end

