-- ==== Sys2Proof/Machine/Doors.lean ====
section
/-! DEFINITION. The door supervisor (chapter 7): derivation, movement by the switches, requests, the stop-request
latch, the drive permit and the stop-brake request. The supervisor acts while the part is in RUN and ACTIVE and it
has taken them up (`stage` 4, assumption 7). -/

namespace Sys2Proof.Machine

/-! ### What the doors derive together -/

/-- A door that is not DISABLED and is not CLOSED_LOCKED, or is released (R137 step 2, R144). -/
def DoorUnit.unsafeToMove (u : DoorUnit) : Bool := u.state ≠ .disabled && (u.state ≠ .closedLocked || u.released)

def State.anyDoorOpen (s : State) : Bool := anyUnit 4 fun d => s.doors[d].unsafeToMove

/-- R143. -/
def State.permit (s : State) : Bool :=
  s.isRun && s.isActive && allUnits 4 fun d =>
    (!s.doors[d].entry.enabled || (s.doors[d].state = .closedLocked && !s.doors[d].released)) &&
      s.doors[d].state ≠ .emergency && s.doors[d].state ≠ .fault

/-- VEHICLE_SPEED is usable and not above a limit. -/
def State.speedWithin (s : State) (limit : Nat) : Bool :=
  s.slots[slotVehicleSpeed].state.usable && decide (s.slots[slotVehicleSpeed].value ≤ limit)

/-- The highest release speed among the enabled doors. -/
def State.highestRelease (s : State) : Nat :=
  (List.finRange 4).foldl (fun m d => if s.doors[d].entry.enabled then Nat.max m s.doors[d].entry.releaseSpeed else m) 0

/-- R144. -/
def State.brakeWanted (s : State) : Bool :=
  s.isRun && s.isActive && s.anyDoorOpen &&
    (!s.slots[slotVehicleSpeed].state.usable || s.speedWithin s.highestRelease)

/-- The stop-brake request is decided afresh. -/
def decideBrake (s : State) : State := redrive { s with stopBrake := s.brakeWanted }

/-- DRIVE_PERMIT is written and the stop-brake request decided afresh (R137 step 3). -/
def decidePermit (s : State) : State :=
  redrive (publish slotDrivePermit (bit s.permit) { s with drivePermit := s.permit, stopBrake := s.brakeWanted })

/-- Steps 2 and 3 of R137. -/
def publishDoors (s : State) : State := decidePermit (publish slotAnyDoorOpen (bit s.anyDoorOpen) s)

/-! ### The run-on timer -/

/-- The run-on timer is started with the run-on time of the SYSTEM table (R202). -/
def startRunOn (s : State) : State := { s with runOn := some (s.after (1000 * s.system.runOnTime)) }

/-- A door's departure from CLOSED_LOCKED restarts the run-on timer while ignition is off and the part ACTIVE; before
the first accepted level after a reset the timer is stopped (R202). -/
def doorDeparted (s : State) : State :=
  if s.isActive && s.ignition.first && !s.ignition.accepted then startRunOn s else s

/-! ### Changes of a door -/

def putDoor (d : Fin 4) (u : DoorUnit) (s : State) : State := { s with doors := vput s.doors d u }

/-- The door's source number in a fault pair. -/
def doorSource (d : Fin 4) : Option Nat := some d.val

/-- A change of a door's state is handed on (R137). -/
def handOnDoor (d : Fin 4) (old : DoorState) (s : State) : State :=
  let s := setFlag .door (publishDoors (publish (slotDoorState d) s.doors[d].state.code s))
  if old = .closedLocked then doorDeparted s else s

/-- The stop-request latch is cleared, STOP_REQUESTED written 0 and requester 68's request withdrawn (R142). -/
def clearStopLatch (s : State) : State :=
  withdrawRequest stopRequester (publish slotStopRequested 0 { s with stopLatch := false })

/-- A STOP_REQUEST press (R142). -/
def pressStop (s : State) : State :=
  if s.stopLatch then s
  else placeIf stopRequester s.system.stopChime (publish slotStopRequested 1 { s with stopLatch := true })

/-- The door as it stands on entry into a state: its deadline (Table 7.3, R129) and the fields that the entry sets
(R129, R134, R136). -/
def DoorUnit.enter (u : DoorUnit) (st : DoorState) (s : State) : DoorUnit :=
  let v := { u with state := st, deadline := none }
  match st with
  | .closedLocked => { v with reversals := 0 }
  | .unlocked => { v with deadline := if u.released then none else some (s.after u.entry.closeMax) }
  | .opening => { v with deadline := some (s.after u.entry.openMax) }
  | .closing => { v with deadline := some (s.after u.entry.closeMax) }
  | .fault => { v with released := false, openCommand := false }
  | .emergency => { v with released := false, openCommand := false }
  | .opened => v
  | .disabled => v

/-- DOOR_FORCED and DOOR_OBSTRUCTED of a door are cleared (R129 to R131), in this order, which is the model's choice
(assumption 54). -/
def clearForced (d : Fin 4) (s : State) : State :=
  clearFault .doorObstructed (doorSource d) (clearFault .doorForced (doorSource d) s)

/-- The FAULT faults of a door are cleared (R135): DOOR_OPEN_TIMEOUT, DOOR_CLOSE_TIMEOUT, DOOR_SWITCH_CONFLICT, in
this order, which is the model's choice (assumption 54). -/
def clearDoorFaults (d : Fin 4) (s : State) : State :=
  clearFault .doorSwitchConflict (doorSource d) <|
    clearFault .doorCloseTimeout (doorSource d) <| clearFault .doorOpenTimeout (doorSource d) s

/-- A door's record becomes `u`, its state changing: the change is handed on, then the closing chime follows the
passage (R131), an entry into OPEN clears the latch (R142), and an entry into CLOSED_LOCKED clears DOOR_FORCED and
DOOR_OBSTRUCTED. -/
def moveDoor (d : Fin 4) (u : DoorUnit) (s : State) : State :=
  let old := s.doors[d].state
  let s := handOnDoor d old (putDoor d u s)
  let s := if old = .closing then withdrawRequest (doorRequester d) s else s
  match u.state with
  | .closing => placeIf (doorRequester d) u.entry.closingChime s
  | .opened => clearStopLatch s
  | .closedLocked => clearForced d s
  | _ => s

/-- A door moves to a state. -/
def goDoor (d : Fin 4) (st : DoorState) (s : State) : State := moveDoor d (s.doors[d].enter st s) s

/-- A change of released or of open command without a change of state (R137); in UNLOCKED the lock deadline follows
released (R129). -/
def setFields (d : Fin 4) (released openCommand : Bool) (s : State) : State :=
  let u := s.doors[d]
  if u.released = released ∧ u.openCommand = openCommand then s
  else
    let deadline :=
      if u.state = .unlocked then
        (if released then none else if u.released then some (s.after u.entry.closeMax) else u.deadline)
      else u.deadline
    publishDoors (putDoor d { u with released := released, openCommand := openCommand, deadline := deadline } s)

/-- The entry into EMERGENCY (R136). -/
def enterEmergency (d : Fin 4) (s : State) : State :=
  let u := s.doors[d]
  let s := handOnDoor d u.state (putDoor d (u.enter .emergency s) s)
  let s := if u.state = .fault then clearDoorFaults d s else s
  let s := raiseFault .doorEmergency (doorSource d) s
  match u.entry.emergencyChime with
  | some p => placeRequest (doorRequester d) p s
  | none => withdrawRequest (doorRequester d) s

/-- Table 7.4. -/
def DoorLevels.derived (l : DoorLevels) : DoorState :=
  if l.emergency then .emergency
  else if l.closed && l.openEnd then .fault
  else if l.openEnd then .opened
  else if l.closed && l.locked then .closedLocked
  else if l.closed then .unlocked
  else .opening

/-- A switch conflict takes a door to FAULT (R133). -/
def conflict (d : Fin 4) (s : State) : State :=
  raiseFault .doorSwitchConflict (doorSource d) (goDoor d .fault s)

/-- A door that leaves EMERGENCY or FAULT is derived from its switches (R128). -/
def deriveDoor (d : Fin 4) (s : State) : State :=
  match s.doors[d].levels.derived with
  | .emergency => enterEmergency d s
  | .fault => conflict d s
  | st => goDoor d st s

/-! ### Requests (R138, R139) -/

/-- A RELEASE or OPEN request is taken. -/
def State.grantsDoor (s : State) (d : Fin 4) : Bool :=
  let u := s.doors[d]
  s.speedWithin u.entry.releaseSpeed &&
    u.state ≠ .emergency && u.state ≠ .fault && u.state ≠ .disabled &&
    match u.entry.parkingBrake with
    | none => true
    | some k => (s.slot k).state.usable && (s.slot k).value != 0

/-- A request for a door: whether it is taken, and the state after it. A refused RELEASE or OPEN is counted. -/
def requestDoor (d : Fin 4) (a : DoorAction) (s : State) : Bool × State :=
  let u := s.doors[d]
  match a with
  | .release =>
    if s.grantsDoor d then (true, setFields d true u.openCommand s)
    else (false, putDoor d { u with refused := bump32 u.refused } s)
  | .open_ =>
    if s.grantsDoor d then (true, setFields d true true s)
    else (false, putDoor d { u with refused := bump32 u.refused } s)
  | .close => if u.state = .disabled then (false, s) else (true, setFields d false false s)

/-! ### Movement by the switches (R129 to R136) -/

def DoorLevels.set (l : DoorLevels) (f : DoorFunction) (active : Bool) : DoorLevels :=
  match f with
  | .closed => { l with closed := active }
  | .locked => { l with locked := active }
  | .openEnd => { l with openEnd := active }
  | .obstruction => { l with obstruction := active }
  | .emergency => { l with emergency := active }
  | .releaseRequest => { l with releaseRequest := active }
  | .openRequest => { l with openRequest := active }
  | .closeRequest => { l with closeRequest := active }

/-- An obstruction reverses a CLOSING door (R132). -/
def reverseDoor (d : Fin 4) (s : State) : State :=
  let u := s.doors[d]
  let v := { u.enter .opening s with reversals := bump8 u.reversals, obstructions := bump32 u.obstructions }
  let s := moveDoor d v s
  if u.entry.reversalLimit < v.reversals then
    setFields d false true (raiseFault .doorObstructed (doorSource d) s)
  else s

/-- A door leaves CLOSED_LOCKED or UNLOCKED with its closed switch (R129). -/
def openByHand (d : Fin 4) (s : State) : State :=
  let u := s.doors[d]
  let s := goDoor d .opening s
  if !u.released && !u.openCommand then raiseFault .doorForced (doorSource d) s else s

/-- CLOSING to CLOSED_LOCKED completes a cycle and clears the open command (R131). -/
def completeClosing (d : Fin 4) (s : State) : State :=
  let u := s.doors[d].enter .closedLocked s
  moveDoor d { u with cycles := bump32 u.cycles, openCommand := false } s

/-- An accepted change of DOOR_CLOSED, DOOR_LOCKED, DOOR_OPEN_END or DOOR_OBSTRUCTION, its level recorded already,
moves a door that is in no conflict (R129 to R132). -/
def moveBySwitch (d : Fin 4) (f : DoorFunction) (active : Bool) (s : State) : State :=
  let l := s.doors[d].levels
  match s.doors[d].state, f, active with
  | .closedLocked, .locked, false => goDoor d .unlocked s
  | .unlocked, .locked, true => if l.closed then goDoor d .closedLocked s else s
  | .closedLocked, .closed, false => openByHand d s
  | .unlocked, .closed, false => openByHand d s
  | .opening, .openEnd, true => goDoor d .opened s
  | .opening, .closed, true => goDoor d (if l.locked then .closedLocked else .unlocked) s
  | .opened, .openEnd, false => goDoor d .closing s
  | .closing, .closed, true => if l.locked then completeClosing d s else goDoor d .unlocked s
  | .closing, .openEnd, true => goDoor d .opened s
  | .closing, .obstruction, true => reverseDoor d s
  | _, _, _ => s

/-- An accepted change of an end switch or the lock of a door in FAULT, after which the switches show a rest
position, takes it out of FAULT (R135); it is derived before its faults are cleared (assumption 54). -/
def leaveFault (d : Fin 4) (f : DoorFunction) (s : State) : State :=
  let l := s.doors[d].levels
  if (f = .closed ∨ f = .locked ∨ f = .openEnd) ∧ l.closed ≠ l.openEnd then
    clearDoorFaults d (deriveDoor d s)
  else s

/-- A change of a switch that is not DOOR_EMERGENCY, with the conflict test first (R133). -/
def switchChange (d : Fin 4) (f : DoorFunction) (active : Bool) (s : State) : State :=
  let l := s.doors[d].levels
  match s.doors[d].state with
  | .disabled => s
  | .emergency => s
  | .fault =>
    if l.closed && l.openEnd then raiseFault .doorSwitchConflict (doorSource d) s else leaveFault d f s
  | _ => if l.closed && l.openEnd then conflict d s else moveBySwitch d f active s

/-- An accepted change of a door input reaches its door, in RUN and ACTIVE (R115, R129 to R136, R140). -/
def doorInput (d : Fin 4) (f : DoorFunction) (active : Bool) (s : State) : State :=
  let u := s.doors[d]
  let s := putDoor d { u with levels := u.levels.set f active } s
  match f with
  | .emergency =>
    if active then
      if u.state = .emergency ∨ u.state = .disabled then s else enterEmergency d s
    else if u.state = .emergency then
      deriveDoor d (withdrawRequest (doorRequester d) (clearFault .doorEmergency (doorSource d) s))
    else s
  | .releaseRequest =>
    let s := switchChange d f active s
    if active then (requestDoor d .release s).2 else s
  | .openRequest =>
    let s := switchChange d f active s
    if active then (requestDoor d .open_ s).2 else s
  | .closeRequest =>
    let s := switchChange d f active s
    if active then (requestDoor d .close s).2 else s
  | _ => switchChange d f active s

/-- A door's deadline expires (R134). -/
def expireDoor (d : Fin 4) (s : State) : State :=
  let u := s.doors[d]
  if s.due u.deadline then
    match u.state with
    | .opening => raiseFault .doorOpenTimeout (doorSource d) (goDoor d .fault s)
    | .closing => raiseFault .doorCloseTimeout (doorSource d) (goDoor d .fault s)
    | .unlocked => raiseFault .doorCloseTimeout (doorSource d) (goDoor d .fault s)
    | _ => s
  else s

/-! ### Slot changes told to the doors (R141) -/

/-- The doors act once they have taken up RUN and ACTIVE. -/
def State.doorsRun (s : State) : Bool := decide (4 ≤ s.stage)

/-- A change of VEHICLE_SPEED: releases and, with auto-close-on-speed, open commands are withdrawn above a door's
release speed or with no usable speed; then the stop-brake request is decided (R141, R144). -/
def tellDoorsSpeed (s : State) : State :=
  if s.doorsRun then
    decideBrake <| each 4 (fun d s =>
      let u := s.doors[d]
      if s.speedWithin u.entry.releaseSpeed then s
      else setFields d false (if u.entry.autoClose then false else u.openCommand) s) s
  else s

/-- A change of a slot is told to the enabled doors whose parking-brake slot it is. -/
def tellDoorsBrake (k : Fin 256) (s : State) : State :=
  if s.doorsRun then
    each 4 (fun d s =>
      let u := s.doors[d]
      if u.entry.enabled && u.entry.parkingBrake = some k.val &&
          !((s.slots[k]).state.usable && s.slots[k].value != 0) then
        setFields d false u.openCommand s
      else s) s
  else s

/-! ### Transitions of the part (R145, R146) -/

/-- An input line is active after its polarity (R114). -/
def InputUnit.active (u : InputUnit) : Bool :=
  match u.entry.polarity with
  | .activeHigh => u.accepted
  | .activeLow => !u.accepted

/-- The level of a door function as the line router holds it; a function with no line is inactive (R126). -/
def State.doorLevel (s : State) (d : Fin 4) (f : DoorFunction) : Bool :=
  anyUnit 24 fun i => s.inputs[i].entry.function = .door f d.val && s.inputs[i].active

/-- The accepted levels of all of a door's functions. -/
def State.readLevels (s : State) (d : Fin 4) : DoorLevels :=
  { closed := s.doorLevel d .closed, locked := s.doorLevel d .locked, openEnd := s.doorLevel d .openEnd,
    obstruction := s.doorLevel d .obstruction, emergency := s.doorLevel d .emergency,
    releaseRequest := s.doorLevel d .releaseRequest, openRequest := s.doorLevel d .openRequest,
    closeRequest := s.doorLevel d .closeRequest }

/-- The door as START or wake sets it up: an enabled one derived from its switches, another DISABLED (R145). -/
def State.setUpDoor (s : State) (d : Fin 4) : DoorUnit :=
  let u := { s.doors[d] with released := false, openCommand := false, reversals := 0, levels := s.readLevels d }
  if u.entry.enabled then u.enter u.levels.derived s else u.enter .disabled s

/-- What a derivation at START or wake raises and requests (R145). -/
def setUpEffects (d : Fin 4) (s : State) : State :=
  match s.doors[d].state with
  | .emergency => placeIf (doorRequester d) s.doors[d].entry.emergencyChime
      (raiseFault .doorEmergency (doorSource d) s)
  | .fault => raiseFault .doorSwitchConflict (doorSource d) s
  | .closedLocked => clearForced d s
  | _ => s

/-- DOOR_STATE_0 to DOOR_STATE_3 are written, then the rest of what the doors publish; DOOR is set if a door's state
changed from `old`, and a departure from CLOSED_LOCKED is told (R137, R145, R146). -/
def publishAllDoors (old : Vector DoorUnit 4) (s : State) : State :=
  let s := publishDoors (each 4 (fun d s => publish (slotDoorState d) s.doors[d].state.code s) s)
  let s := setFlagIf (anyUnit 4 fun d => s.doors[d].state ≠ old[d].state) .door s
  if anyUnit 4 fun d => old[d].state = .closedLocked && s.doors[d].state ≠ .closedLocked then doorDeparted s else s

/-- The doors at START and at wake in RUN (R145). -/
def setUpDoors (s : State) : State :=
  let s' := each 4 (fun d s => putDoor d (s.setUpDoor d) s) s
  publishAllDoors s.doors (each 4 setUpEffects s')

/-- The faults of the doors (Table 8.1). -/
def isDoorFault : FaultCode → Bool
  | .doorOpenTimeout | .doorCloseTimeout | .doorSwitchConflict | .doorForced | .doorObstructed | .doorEmergency => true
  | _ => false

/-- A door that is DISABLED, under its entry and counters (R146). -/
def DoorUnit.disable (u : DoorUnit) : DoorUnit :=
  { u with state := .disabled, released := false, openCommand := false, reversals := 0, deadline := none }

/-- The doors at STOP (R146). -/
def stopDoors (s : State) : State :=
  let s' := clearCodes isDoorFault { s with doors := vmap DoorUnit.disable s.doors }
  publishAllDoors s.doors (clearStopLatch s')

/-- The doors at park: states kept, fields 0; latch clear, DRIVE_PERMIT 0, stop-brake request 0 (R146), and
ANY_DOOR_OPEN as the cleared fields leave it (R137, R40). -/
def parkDoors (s : State) : State :=
  let quiet (u : DoorUnit) : DoorUnit :=
    { u with released := false, openCommand := false, reversals := 0, deadline := none }
  let s := { s with doors := vmap quiet s.doors, drivePermit := false, stopBrake := false }
  clearStopLatch (publish slotDrivePermit 0 (publish slotAnyDoorOpen (bit s.anyDoorOpen) s))

end Sys2Proof.Machine
end

