-- ==== Sys2Proof/Machine/Speed.lean ====
section
/-! DEFINITION. The speed and distance unit (R56 to R66). It selects once it has taken up RUN and ACTIVE (`stage` 2,
assumption 7). -/

namespace Sys2Proof.Machine

/-! ### Speed selection -/

/-- A slot value used for speed, limited to 0 to 30,000 (R56). -/
def limitSpeed (v : Int) : Nat := Nat.min v.toNat 30000

/-- The speed a configured slot gives, none while it is not usable or the slot is NONE. -/
def State.speedReading (s : State) (k : Option Nat) : Option Nat :=
  match k with
  | none => none
  | some k => if (s.slot k).state.usable then some (limitSpeed (s.slot k).value) else none

/-- VEHICLE_SPEED is written, and a change of it told to gauges, conditions and doors (R34). -/
def writeSpeed (v : Int) (st : SlotState) (s : State) : State :=
  let r := s.slots[slotVehicleSpeed]
  if r.value = v ∧ r.state = st then s else tellDoorsSpeed (writeInternal slotVehicleSpeed v st s)

/-- SPEED_SOURCE is written; a change of it sets SPEED_SOURCE among the attention flags (R56). -/
def writeSource (n : Nat) (s : State) : State :=
  setFlagIf (s.slots[slotSpeedSource].value ≠ n) .speedSource (publish slotSpeedSource n s)

/-- STANDSTILL is written; a change of it is told to a running output test too (R34, R176). -/
def writeStandstill (b : Bool) (s : State) : State :=
  if s.slots[slotStandstill].value = bit b then s else tellTest (publish slotStandstill (bit b) s)

/-- R59. -/
def State.standstillNow (s : State) : Bool :=
  s.slots[slotVehicleSpeed].state = .valid && decide (s.slots[slotVehicleSpeed].value < s.speed.entry.standstill)

/-- The source a pair of readings gives: 0 primary, 1 fallback, 2 none (R56). -/
def speedSource (p f : Option Nat) : Nat :=
  match p, f with
  | some _, _ => 0
  | none, some _ => 1
  | none, none => 2

/-- VEHICLE_SPEED takes the selected value, or is held STALE (R56). -/
def selectSpeed (p f : Option Nat) (s : State) : State :=
  match p, f with
  | some v, _ => writeSpeed v .valid s
  | none, some v => writeSpeed v .valid s
  | none, none => writeSpeed s.slots[slotVehicleSpeed].value .stale s

/-- SPEED_PRIMARY_LOST and SPEED_LOST follow the source (R57), SPEED_PRIMARY_LOST first, which is the model's choice
(assumption 46). -/
def speedFaults (source : Nat) (s : State) : State :=
  setFault (source = 2 && s.speed.entry.primary.isSome) .speedLost none
    (setFault (source = 1) .speedPrimaryLost none s)

/-- R58: both usable, and further apart than both limits. -/
def speedsMismatch (e : SpeedEntry) (p f : Option Nat) : Bool :=
  match p, f with
  | some p, some f =>
    decide (e.mismatchLimit < distance p f) && decide (p * e.mismatchPercent < 100 * distance p f)
  | _, _ => false

def putMismatch (t : Option Nat) (s : State) : State := { s with speed := { s.speed with mismatch := t } }

/-- The mismatch test of a selection (R58). A mismatch time of 0 ms expires at once. -/
def mismatchTest (p f : Option Nat) (s : State) : State :=
  if speedsMismatch s.speed.entry p f then
    if s.speed.mismatch.isSome || s.isLive .speedMismatch none then s
    else if s.speed.entry.mismatchTime = 0 then raiseFault .speedMismatch none s
    else putMismatch (some (s.after s.speed.entry.mismatchTime)) s
  else clearFault .speedMismatch none (putMismatch none s)

/-- The mismatch timer expires (R58). -/
def expireMismatch (s : State) : State :=
  if s.due s.speed.mismatch then raiseFault .speedMismatch none (putMismatch none s) else s

/-- A selection (R56 to R59): VEHICLE_SPEED, SPEED_SOURCE, then the fault rules and the mismatch test on the same
readings, and STANDSTILL as the last step (R59). That the faults stand between SPEED_SOURCE and STANDSTILL, and R57
before R58, is the model's choice (assumption 46). -/
def select (s : State) : State :=
  if 2 ≤ s.stage then
    let p := s.speedReading s.speed.entry.primary
    let f := s.speedReading s.speed.entry.fallback
    let source := speedSource p f
    let s := writeSource source (selectSpeed p f s)
    let s := mismatchTest p f (speedFaults source s)
    writeStandstill s.standstillNow s
  else s

/-- A change of the primary or of the fallback slot makes a selection. -/
def tellSpeed (k : Fin 256) (s : State) : State :=
  if s.speed.entry.primary = some k.val ∨ s.speed.entry.fallback = some k.val then select s else s

/-- VEHICLE_SPEED held STALE, SPEED_SOURCE 2, STANDSTILL 0, no mismatch timer and no tick (R60, R62). -/
def speedAway (s : State) : State :=
  let s := writeSpeed s.slots[slotVehicleSpeed].value .stale s
  let s := writeStandstill false (writeSource 2 s)
  { s with speed := { s.speed with mismatch := none, tick := none } }

def isSpeedFault : FaultCode → Bool
  | .speedPrimaryLost | .speedLost | .speedMismatch => true
  | _ => false

/-- The speed unit at STOP (R60, R62). -/
def stopSpeed (s : State) : State := clearCodes isSpeedFault (speedAway s)

/-! ### Distance -/

/-- One metre is added (R63). -/
def addMetre (s : State) : State :=
  if s.speed.total < 4294967295 then
    let total := s.speed.total + 1
    let s := { s with speed := { s.speed with total := total, delta := s.speed.delta + 1 } }
    publish slotTotalDistance (total / 100) s
  else s

/-- An accepted edge of P0's polarity, with distance source PULSE_P0 (R61). -/
def countPulse (s : State) : State :=
  match s.speed.entry.source with
  | .speedSlot => s
  | .pulseP0 =>
    let k := s.speed.entry.pulsesPerKm
    let residue := s.speed.pulseResidue + 1000
    times (residue / k) addMetre { s with speed := { s.speed with pulseResidue := residue % k } }

/-- The distance tick starts, with distance source SPEED_SLOT (R62). -/
def startTick (s : State) : State :=
  match s.speed.entry.source with
  | .speedSlot => { s with speed := { s.speed with tick := some (s.after 100) } }
  | .pulseP0 => s

/-- The distance tick (R62); the next is due 100 ms after this one was. -/
def distanceTick (s : State) : State :=
  if s.due s.speed.tick then
    let tick := s.speed.tick.map (· + 100000)
    let s : State := { s with speed := { s.speed with tick := tick } }
    let r := s.slots[slotVehicleSpeed]
    if r.state = .valid then
      let residue := s.speed.speedResidue + r.value.toNat
      times (residue / 3600) addMetre { s with speed := { s.speed with speedResidue := residue % 3600 } }
    else s
  else s

/-- Both residues are set to 0 (R54, R65, R66). -/
def clearResidues (s : State) : State := { s with speed := { s.speed with pulseResidue := 0, speedResidue := 0 } }

end Sys2Proof.Machine
end

