-- ==== Sys2Proof/Machine/Slots.lean ====
section
/-! DEFINITION. The signal store (chapter 2): changes of a configurable slot and their telling, decoding, scaling,
staleness, host writes, pulse results and input levels. -/

namespace Sys2Proof.Machine

/-! ### Bits (R26, R27) -/

/-- Bit `k` of a data field: bit (k mod 8) of byte (k div 8); positions past the data read 0. -/
def dataBit (data : List Byte) (k : Nat) : Bool := (data.getD (k / 8) 0).getLsbD (k % 8)

/-- The BIG walk of `n` positions from `p`, most significant first. -/
def bigWalk (p : Nat) : Nat → List Nat
  | 0 => []
  | n + 1 => p :: bigWalk (if p % 8 = 0 then p + 15 else p - 1) n

/-- The positions a descriptor's bits occupy, most significant first. -/
def slotPositions (d : SlotDesc) : List Nat :=
  match d.order with
  | .little => (List.range d.length).reverse.map (d.startBit + ·)
  | .big => bigWalk d.startBit d.length

/-- Every position lies in 0 to 8 × M − 1 (R26). -/
def fitsLength (d : SlotDesc) (m : Nat) : Bool := (slotPositions d).all fun p => decide (p < 8 * m)

/-- The unsigned number that a list of bits, most significant first, spells. -/
def bitsToNat (bits : List Bool) : Nat := bits.foldl (fun n b => 2 * n + bit b) 0

/-- The raw pattern (R27). -/
def rawPattern (d : SlotDesc) (data : List Byte) : Nat := bitsToNat ((slotPositions d).map (dataBit data))

/-- The pattern as scaling reads it: unsigned, or two's complement of `length` bits. -/
def readPattern (d : SlotDesc) (pattern : Nat) : Int :=
  if d.signed ∧ 2 ^ (d.length - 1) ≤ pattern then (pattern : Int) - (2 ^ d.length : Nat) else pattern

/-! ### Scaling (R32, R33) -/

/-- The sum s of R32, saturated to the signed 32-bit range. -/
def scaled (d : SlotDesc) (r : Int) : Int := saturate32 (roundDiv (r * d.num) d.den + d.offset)

/-- The value limited to [min, max]. -/
def limited (d : SlotDesc) (v : Int) : Int := if v < d.min then d.min else if d.max < v then d.max else v

/-! ### Records -/

/-- The record of a configurable slot is replaced; no consumer is told. -/
def putRec (k : Fin 240) (r : SlotRec) (s : State) : State := { s with slots := vput s.slots (configSlot k) r }

def State.record (s : State) (k : Fin 240) : SlotRec := s.slots[configSlot k]

/-- A change of a slot is told to its consumers, in the order of R34. -/
def tellConsumers (k : Fin 256) (s : State) : State :=
  let s := tellDoorsBrake k (tellSpeed k (tellConditions k (tellGauges k s)))
  if s.system.parkingBrake = some k.val then tellTest s else s

/-- A slot takes a value and a state; it is a change only if one of them differs (R34). -/
def changeSlot (k : Fin 240) (v : Int) (st : SlotState) (s : State) : State :=
  let r := s.record k
  if r.value = v ∧ r.state = st then s
  else tellConsumers (configSlot k) (putRec k { r with value := v, state := st, lastChange := s.msNow } s)

/-- The source number of a slot in a fault pair. -/
def slotSource (k : Fin 240) : Option Nat := some k.val

/-- The limiting of R33 on a value `v`: raw, mark and counter are recorded and SIGNAL_RANGE raised or cleared. -/
def recordLimited (k : Fin 240) (raw v : Int) (s : State) : State :=
  let d := s.descs[k]
  let r := s.record k
  if limited d v ≠ v then
    let s := putRec k { r with raw := raw, clamped := true, clampCount := bump16 r.clampCount } s
    if d.rangeFault then raiseFault .signalRange (slotSource k) s else s
  else clearFault .signalRange (slotSource k) (putRec k { r with raw := raw, clamped := false } s)

/-- A computed or written value is limited and makes the slot VALID (R30 steps 3 and 4, R37). -/
def storeValue (k : Fin 240) (raw v : Int) (s : State) : State :=
  changeSlot k (limited s.descs[k] v) .valid (recordLimited k raw v s)

/-! ### Sources -/

/-- A frame's data is decoded into one FRAME slot (R30, R31). -/
def decodeSlot (k : Fin 240) (data : List Byte) (s : State) : State :=
  let d := s.descs[k]
  let p := rawPattern d data
  let s1 := putRec k { s.record k with raw := p } s
  if d.reserved && decide (2 ≤ d.length) && p = 2 ^ d.length - 1 then
    changeSlot k (s.record k).value .notAvailable s1
  else if d.reserved && decide (2 ≤ d.length) && p = 2 ^ d.length - 2 then
    let s2 := changeSlot k (s.record k).value .senderError s1
    if d.senderFault then raiseFault .signalSender (slotSource k) s2 else s2
  else
    clearFault .signalSender (slotSource k) (storeValue k p (scaled d (readPattern d p)) s1)

/-- A slot is a FRAME slot sourced from an entry. -/
def State.fedBy (s : State) (k : Fin 240) (e : Fin 128) : Bool :=
  s.descs[k].kind = .frame && s.descs[k].sourceEntry = e.val

/-- Every FRAME slot sourced from an entry is decoded (R30), in slot order, which is the model's choice
(assumption 45). -/
def decodeEntry (e : Fin 128) (data : List Byte) (s : State) : State :=
  each 240 (fun k s => if s.fedBy k e then decodeSlot k data s else s) s

/-- A slot falls silent: STALE or SUBSTITUTED by its policy (R35, R36). -/
def silence (k : Fin 240) (s : State) : State :=
  match s.descs[k].policy with
  | .hold => changeSlot k (s.record k).value .stale s
  | .default => changeSlot k s.descs[k].default .substituted s

/-- The store is told that an entry is MISSING (R35); its slots fall silent in slot order (assumption 45). -/
def entryMissing (e : Fin 128) (s : State) : State :=
  each 240 (fun k s =>
    if s.fedBy k e then
      match (s.record k).state with
      | .valid => silence k s
      | .notAvailable => silence k s
      | .senderError => silence k s
      | _ => s
    else s) s

def putPanelDeadline (k : Fin 240) (t : Option Nat) (s : State) : State :=
  { s with panelDeadlines := vput s.panelDeadlines k t }

/-- The panel deadline of a slot from now, if its timeout is not 0 (R36). -/
def startPanelDeadline (k : Fin 240) (s : State) : State :=
  let d := s.descs[k]
  if d.kind = .panel ∧ d.panelTimeout ≠ 0 then putPanelDeadline k (some (s.after d.panelTimeout)) s else s

/-- A panel deadline expires (R36); the fault is raised before the slot acts (assumption 54). -/
def expirePanelDeadline (k : Fin 240) (s : State) : State :=
  if s.due s.panelDeadlines[k] then
    let s := raiseFault .panelSignalStale (slotSource k) (putPanelDeadline k none s)
    if (s.record k).state = .valid then silence k s else s
  else s

/-- A taken SIGNAL_WRITE (R37); the value is stored and told before PANEL_SIGNAL_STALE is cleared (assumption 54). -/
def signalWritten (k : Fin 240) (v : Int) (s : State) : State :=
  startPanelDeadline k (clearFault .panelSignalStale (slotSource k) (storeValue k v v s))

/-- A result of a pulse input (R38): a measurement, or none for a sender error; its slots take it in slot order
(assumption 45). -/
def deliverPulse (i : Fin 4) (q : Quantity) (result : Option Nat) (s : State) : State :=
  each 240 (fun k s =>
    let d := s.descs[k]
    if d.kind = .pulse && d.pulse = i.val && d.quantity = q then
      match result with
      | some r => storeValue k r (scaled d r) s
      | none => changeSlot k (s.record k).value .senderError s
    else s) s

/-- The level an INPUT slot takes from its line (R39). -/
def writeInputSlot (k : Fin 240) (s : State) : State :=
  let d := s.descs[k]
  match d.kind, unit? 24 d.line with
  | .input, some l =>
    let level : Nat := bit s.inputs[l].active
    storeValue k level (scaled d level) s
  | _, _ => s

/-- An accepted change of a GENERIC line is written to every INPUT slot that names the line (R39, R115), in slot
order (assumption 45). -/
def deliverInput (l : Fin 24) (s : State) : State :=
  each 240 (fun k s => if s.descs[k].kind = .input && s.descs[k].line = l.val then writeInputSlot k s else s) s

/-! ### Transitions of the part (R43, R44) -/

/-- The slot becomes EMPTY with value 0, raw 0 and clamped mark clear; the clamp counter becomes 0 where `zero` says
so; a change is told. -/
def emptySlot (k : Fin 240) (zero : Bool) (s : State) : State :=
  let r := s.record k
  changeSlot k 0 .empty
    (putRec k { r with raw := 0, clamped := false, clampCount := if zero then 0 else r.clampCount } s)

/-- The last change time of a slot is set to now. -/
def stampSlot (k : Fin 240) (s : State) : State := putRec k { s.record k with lastChange := s.msNow } s

def isSlotFault : FaultCode → Bool
  | .signalRange | .signalSender | .panelSignalStale => true
  | _ => false

def noPanelDeadlines (s : State) : State := { s with panelDeadlines := Vector.replicate 240 none }

/-- INPUT slots take their lines' levels and PANEL slots their deadlines (R36, R39). -/
def fillSlots (s : State) : State := each 240 startPanelDeadline (each 240 writeInputSlot s)

/-- The slots at START (R43). -/
def startSlots (s : State) : State :=
  fillSlots (clearCodes isSlotFault (each 240 (fun k s => stampSlot k (emptySlot k true s)) (noPanelDeadlines s)))

/-- The slots at STOP (R43): their faults are cleared before they become EMPTY, which is the model's choice
(assumption 54). -/
def stopSlots (s : State) : State :=
  each 240 (fun k s => stampSlot k (emptySlot k false s)) (clearCodes isSlotFault (noPanelDeadlines s))

/-- The slots at wake (R44). -/
def wakeSlots (s : State) : State :=
  let s := each 240 (fun k s =>
    if s.descs[k].kind = .frame ∨ s.descs[k].kind = .panel then emptySlot k false s else s) s
  let s := if s.isRun then fillSlots s else s
  { s with slots := vmap (fun r => { r with lastChange := 0 }) s.slots }

end Sys2Proof.Machine
end

