-- ==== Sys2Proof/Machine/Pulses.lean ====
section
/-! DEFINITION. The pulse input unit (R47 to R53). An input is measured while it holds a measurement state. -/

namespace Sys2Proof.Machine

def putPulse (i : Fin 4) (u : PulseUnit) (s : State) : State := { s with pulses := vput s.pulses i u }

def putMeas (i : Fin 4) (m : PulseMeas) (s : State) : State := putPulse i { s.pulses[i] with meas := some m } s

/-- The pulse input's source number in a fault pair. -/
def pulseSource (i : Fin 4) : Option Nat := some i.val

/-- An accepted level is an edge of the entry's polarity. -/
def countsEdge (e : PulseEntry) (level : Bool) : Bool :=
  match e.polarity with
  | .rising => level
  | .falling => !level

/-- The measurement state at START and at wake in RUN, none for an input in mode OFF (R47). -/
def PulseUnit.start (u : PulseUnit) (s : State) : PulseUnit :=
  let m : PulseMeas :=
    { accepted := u.line, pending := none, reference := none, count := 0, lastEdge := 0, result := none,
      gateDeadline := none, opposite := none, stuckDeadline := none }
  match u.entry.mode with
  | .off => { u with meas := none }
  | .frequency => { u with meas := some { m with gateDeadline := some (s.after u.entry.gate) } }
  | .duty => { u with meas := some { m with stuckDeadline := some (s.now + 2 * u.entry.maxPeriod) } }

def startPulses (s : State) : State := { s with pulses := vmap (·.start s) s.pulses }

/-- Every measurement state is discarded. -/
def discardPulses (s : State) : State := { s with pulses := vmap (fun u => { u with meas := none }) s.pulses }

def isPulseFault : FaultCode → Bool
  | .pulseRange | .pulseStuck => true
  | _ => false

/-- The pulse inputs at STOP (R47). -/
def stopPulses (s : State) : State := clearCodes isPulseFault (discardPulses s)

/-! ### Duty (R52, R53) -/

/-- The period that an edge of the chosen polarity closes, and the high time within it (R52). The edge of the other
polarity lies between, since accepted edges alternate. -/
def dutyTimes (e : PulseEntry) (reference opposite edge : Stamp) : Nat × Nat :=
  (stampDiff edge reference,
    match e.polarity with
    | .rising => stampDiff opposite reference
    | .falling => stampDiff edge opposite)

/-- duty = high time × 10,000 ÷ period, in 0.01 % (R52). -/
def dutyOf (period high : Nat) : Nat := roundDivNat (high * 10000) period

/-- An edge of the chosen polarity that closes a period (R52); the delivery comes before the fault (assumption 54). -/
def closePeriod (i : Fin 4) (period high : Nat) (s : State) : State :=
  let e := s.pulses[i].entry
  if e.minPeriod ≤ period ∧ period ≤ e.maxPeriod then
    clearFault .pulseRange (pulseSource i) (deliverPulse i .duty (some (dutyOf period high)) s)
  else raiseFault .pulseRange (pulseSource i) (deliverPulse i .duty none s)

/-- An accepted edge of a DUTY input, which began at `start` (R52, R53). -/
def dutyEdge (i : Fin 4) (m : PulseMeas) (level : Bool) (start : Nat) (s : State) : State :=
  let e := s.pulses[i].entry
  let stamp := stampOf start
  let m := { m with stuckDeadline := some (start + 2 * e.maxPeriod) }
  let s := clearFault .pulseStuck (pulseSource i) s
  if countsEdge e level then
    let s := putMeas i { m with reference := some stamp } s
    match m.reference, m.opposite with
    | some r, some o =>
      let t := dutyTimes e r o stamp
      closePeriod i t.1 t.2 s
    | _, _ => s
  else putMeas i { m with opposite := some stamp } s

/-- The stuck deadline expires (R53); the delivery comes before the fault (assumption 54). -/
def expireStuck (i : Fin 4) (s : State) : State :=
  match s.pulses[i].meas with
  | none => s
  | some m =>
    if s.due m.stuckDeadline then
      let s := putMeas i { m with reference := none, stuckDeadline := none } s
      raiseFault .pulseStuck (pulseSource i) (deliverPulse i .duty (some (if m.accepted then 10000 else 0)) s)
    else s

/-! ### Frequency (R49 to R51) -/

/-- f = n × 10^9 ÷ interval, in mHz, at most 10,000,000 (R50). -/
def frequencyOf (n interval : Nat) : Nat := Nat.min (roundDivNat (n * 1000000000) interval) 10000000

/-- The bound b = 10^9 ÷ (now − reference) (R51). -/
def silenceBound (interval : Nat) : Nat := roundDivNat 1000000000 interval

/-- An accepted edge of a FREQUENCY input (R49). -/
def frequencyEdge (i : Fin 4) (m : PulseMeas) (level : Bool) (start : Nat) (s : State) : State :=
  if countsEdge s.pulses[i].entry level then putMeas i { m with count := m.count + 1, lastEdge := stampOf start } s
  else putMeas i m s

/-- The measurement at a gate end with edges counted (R50), and whether its result is delivered. -/
def PulseMeas.counted (m : PulseMeas) : PulseMeas × Bool :=
  match m.reference with
  | some r => ({ m with result := some (frequencyOf m.count (stampDiff m.lastEdge r)), reference := some m.lastEdge },
      true)
  | none => ({ m with reference := some m.lastEdge }, false)

/-- The measurement at a gate end without edges (R51), and whether its result is delivered. -/
def PulseMeas.silent (m : PulseMeas) (e : PulseEntry) (now : Stamp) : PulseMeas × Bool :=
  match m.reference with
  | none => ({ m with result := some 0 }, true)
  | some r =>
    let b := silenceBound (stampDiff now r)
    let m := match m.result with
      | some f => { m with result := some (Nat.min b f) }
      | none => m
    let m := if b < e.standstill then { m with result := some 0, reference := none } else m
    (m, m.result.isSome)

/-- A gate ends; the next gate follows without gap or drift (R49). -/
def gateEnd (i : Fin 4) (s : State) : State :=
  let e := s.pulses[i].entry
  match s.pulses[i].meas with
  | none => s
  | some m =>
    if s.due m.gateDeadline then
      let r := if m.count = 0 then m.silent e (stampOf s.now) else m.counted
      let gate := m.gateDeadline.map (· + 1000 * e.gate)
      let s := putMeas i { r.1 with count := 0, gateDeadline := gate } s
      if r.2 then deliverPulse i .frequency r.1.result s else s
    else s

/-! ### Edges (R48, R61) -/

/-- A pending change that began at `start` is accepted as an edge (R48). At P0 the measurement of R49 or R52 comes
before the distance count of R61, which is the model's choice (assumption 47). -/
def acceptEdge (i : Fin 4) (m : PulseMeas) (start : Nat) (s : State) : State :=
  let e := s.pulses[i].entry
  let level := !m.accepted
  let m := { m with accepted := level, pending := none }
  let s := match e.mode with
    | .off => s
    | .frequency => frequencyEdge i m level start s
    | .duty => dutyEdge i m level start s
  if i = 0 ∧ countsEdge e level = true then countPulse s else s

/-- A change of a pulse line's level (R48). -/
def pulseLine (i : Fin 4) (level : Bool) (s : State) : State :=
  let u := { s.pulses[i] with line := level }
  let s := putPulse i u s
  match u.meas with
  | none => s
  | some m =>
    if level = m.accepted then putMeas i { m with pending := none } s
    else if m.pending.isSome then s
    else if u.entry.noise = 0 then acceptEdge i m s.now s
    else putMeas i { m with pending := some s.now } s

/-- A pending change outlasts the noise rejection time (R48). -/
def noiseEnd (i : Fin 4) (s : State) : State :=
  match s.pulses[i].meas with
  | none => s
  | some m =>
    match m.pending with
    | none => s
    | some t => if t + s.pulses[i].entry.noise ≤ s.now then acceptEdge i m t s else s

end Sys2Proof.Machine
end

