-- ==== Sys2Proof/Machine/Ports.lean ====
section
/-! DEFINITION. The network port controllers (R2 to R7) and the transmit queues (R20 to R24), with what a lost
segment does to the response in flight (R172). -/

namespace Sys2Proof.Machine

def putPort (p : Fin 3) (u : PortUnit) (s : State) : State := { s with ports := vput s.ports p u }

def portSource (p : Fin 3) : Option Nat := some p.val

/-- The port receives and transmits: ONLINE or PASSIVE (R4, R21). -/
def PortUnit.open_ (u : PortUnit) : Bool := u.state = .online || u.state = .passive

/-- A port's state becomes `st`; a change sets PORT_STATE (R3). -/
def setPortState (p : Fin 3) (st : PortState) (s : State) : State :=
  let u := s.ports[p]
  setFlagIf (u.state ≠ st) .portState (putPort p { u with state := st } s)

/-! ### The response in flight and its segment (R171, R172) -/

/-- The response in flight is abandoned; with none in flight nothing happens (R172). -/
def abandon (s : State) : State :=
  match s.service.response with
  | none => s
  | some _ => { s with service := { s.service with response := none, abandoned := bump32 s.service.abandoned } }

/-- The response in flight is the one with this serial number, and its current segment is queued. -/
def State.awaits (s : State) (serial : Nat) : Bool :=
  match s.service.response with
  | none => false
  | some r => r.serial = serial && r.phase = .queued

/-- The segment in a queued frame is lost: the service channel is told (R23, R24). -/
def tellLost (o : Origin) (s : State) : State :=
  match o with
  | .service serial => if s.awaits serial then abandon s else s
  | _ => s

/-! ### Keys and joining (R20, R21) -/

/-- The arbitration key (R20). -/
def arbitrationKey (f : Frame) : Nat :=
  match f.format with
  | .base => f.id * 524288
  | .extended => f.id / 262144 * 524288 + 262144 + f.id % 262144

/-- A frame joins in ascending key, after the frames of equal key. -/
def joinQueue (q : QueuedFrame) : List QueuedFrame → List QueuedFrame
  | [] => [q]
  | h :: t => if q.key < h.key then q :: h :: t else h :: joinQueue q t

/-- A frame is offered to a port's queue: whether it is taken, and the state after (R21). -/
def offerFrame (p : Fin 3) (f : Frame) (o : Origin) (s : State) : Bool × State :=
  let u := s.ports[p]
  if u.open_ && decide (u.queue.length < 16) then
    let q : QueuedFrame := { frame := f, key := arbitrationKey f, joined := s.now, origin := o, onBus := false }
    (true, putPort p { u with queue := joinQueue q u.queue } s)
  else
    let s := putPort p { u with counters := { u.counters with overflow := bump32 u.counters.overflow } } s
    (false, setFlagIf (o = .forward) .txDrop s)

/-- A flush (R24): every frame leaves, counted, and the service channel is told of each of its segments. -/
def flush (p : Fin 3) (s : State) : State :=
  let u := s.ports[p]
  let c := { u.counters with flushed := add32 u.counters.flushed u.queue.length }
  (u.queue.map (·.origin)).foldl (fun s o => tellLost o s) (putPort p { u with queue := [], counters := c } s)

/-! ### Transmission (R22, R23) -/

/-- Some frame of the queue is on the bus. -/
def PortUnit.busy (u : PortUnit) : Bool := u.queue.any (·.onBus)

/-- The head's transmission begins (R22). -/
def beginTransmission (p : Fin 3) (s : State) : State :=
  let u := s.ports[p]
  if s.isActive && u.open_ && !u.busy then
    match u.queue with
    | [] => s
    | h :: t => putPort p { u with queue := { h with onBus := true } :: t } s
  else s

/-- The frame on the bus and the queue without it. -/
def takeOnBus : List QueuedFrame → Option (QueuedFrame × List QueuedFrame)
  | [] => none
  | h :: t => if h.onBus then some (h, t) else (takeOnBus t).map fun r => (r.1, h :: r.2)

/-- The current segment of the response in flight has been transmitted (R171). -/
def segmentSent (s : State) : State :=
  match s.service.response with
  | none => s
  | some r =>
    if 6 * (r.index + 1) < r.message.length then
      let r' := { r with phase := .spacing (s.after s.service.entry.spacing) }
      { s with service := { s.service with response := some r' } }
    else { s with service := { s.service with response := none, completed := bump32 s.service.completed } }

/-- The service channel is told that a segment has been transmitted. -/
def tellSent (o : Origin) (s : State) : State :=
  match o with
  | .service serial => if s.awaits serial then segmentSent s else s
  | _ => s

/-- The transmission on the bus ends with success (R22). -/
def endTransmission (p : Fin 3) (s : State) : State :=
  let u := s.ports[p]
  match takeOnBus u.queue with
  | none => s
  | some (q, rest) =>
    let c := { u.counters with transmitted := bump32 u.counters.transmitted }
    tellSent q.origin (putPort p { u with queue := rest, counters := c } s)

/-- A waiting frame's age has reached the port's maximum queue age (R23). -/
def State.aged (s : State) (e : PortEntry) (q : QueuedFrame) : Bool :=
  !q.onBus && decide (q.joined + 1000 * e.maxAge ≤ s.now)

/-- The frame at a place of the queue is removed as expired (R23). -/
def expireFrame (p : Fin 3) (place : Nat) (s : State) : State :=
  let u := s.ports[p]
  match u.queue[place]? with
  | none => s
  | some q =>
    if s.aged u.entry q then
      let c := { u.counters with expired := bump32 u.counters.expired }
      tellLost q.origin (putPort p { u with queue := u.queue.eraseIdx place, counters := c } s)
    else s

/-- The place of the frame on the bus. -/
def onBusPlace (q : List QueuedFrame) : Nat := q.findIdx (·.onBus)

/-- The transmission on the bus ends by lost arbitration or error: the frame waits again, or is removed at once as
expired (R22, R23). -/
def failTransmission (p : Fin 3) (s : State) : State :=
  let u := s.ports[p]
  if u.busy then
    expireFrame p (onBusPlace u.queue) (putPort p { u with queue := u.queue.map ({ · with onBus := false }) } s)
  else s

/-! ### Bus-off and recovery (R4) -/

/-- A running recovery and quiet time are abandoned. -/
def clearRecovery (p : Fin 3) (s : State) : State := putPort p { s.ports[p] with recovering := false, quiet := none } s

/-- The service channel is told of its diagnostic port's OFF (R4, R172). -/
def tellOff (p : Fin 3) (s : State) : State := if s.service.entry.port = p then abandon s else s

/-- The controller enters bus-off (Table 1.2, R4). -/
def enterOff (p : Fin 3) (s : State) : State :=
  if s.isActive && s.ports[p].open_ then
    let s := flush p (setPortState p .off s)
    let s := raiseFault .portOff (portSource p) (putPort p { s.ports[p] with recovering := true, quiet := none } s)
    tellOff p s
  else s

/-- The quiet time expires: the port is ONLINE again (R4). -/
def leaveOff (p : Fin 3) (s : State) : State :=
  clearFault .portOff (portSource p) (setPortState p .online (clearRecovery p s))

/-- The controller reports its recovery complete (R4). -/
def recovered (p : Fin 3) (s : State) : State :=
  let u := s.ports[p]
  if u.state = .off && u.recovering then
    if u.entry.quietTime = 0 then leaveOff p s
    else putPort p { u with recovering := false, quiet := some (s.after u.entry.quietTime) } s
  else s

def expireQuiet (p : Fin 3) (s : State) : State :=
  if s.ports[p].state = .off && s.due s.ports[p].quiet then leaveOff p s else s

/-- The controller becomes error-passive, or error-active again (Table 1.2). -/
def errorPassive (p : Fin 3) (s : State) : State :=
  if s.isActive && s.ports[p].state = .online then setPortState p .passive s else s

def errorActive (p : Fin 3) (s : State) : State :=
  if s.isActive && s.ports[p].state = .passive then setPortState p .online s else s

/-- A taken PORT write (R2). -/
def writePortEntry (p : Fin 3) (e : PortEntry) (s : State) : State :=
  let wasOff := decide (s.ports[p].state = .off)
  let s := clearRecovery p (flush p (putPort p { s.ports[p] with entry := e } s))
  let s := setPortState p (if e.enabled then .online else .disabled) s
  if wasOff then clearFault .portOff (portSource p) s else s

/-- A port at park (R5, R24). -/
def parkPort (p : Fin 3) (s : State) : State :=
  let s := clearRecovery p (flush p s)
  if s.ports[p].entry.enabled then setPortState p .online s else s

/-! ### Reception (R5, R8) -/

/-- A reception is counted and sets the activity indication (R6, R7). -/
def countReception (p : Fin 3) (s : State) : State :=
  let u := s.ports[p]
  putPort p { u with counters := { u.counters with received := bump32 u.counters.received }, activity := true } s

def countRemote (p : Fin 3) (s : State) : State :=
  let u := s.ports[p]
  putPort p { u with counters := { u.counters with remoteIgnored := bump32 u.counters.remoteIgnored } } s

def countUnmatched (p : Fin 3) (s : State) : State :=
  let u := s.ports[p]
  putPort p { u with counters := { u.counters with unmatched := bump32 u.counters.unmatched } } s

/-- The data frame a reception delivers: a length code above 8 is taken as 8 (R8). -/
def takenFrame (f : RxFrame) : Frame :=
  { format := f.format, id := f.id, data := f.data.take (Nat.min f.lengthCode.val 8) }

end Sys2Proof.Machine
end

