-- ==== Sys2Proof/Machine/Service.lean ====
section
/-! DEFINITION. The workshop service channel (R168 to R176, R180, R182): requests, the messages that answer them, and
the sending of their segments. -/

namespace Sys2Proof.Machine

/-- The results of a response message (Table 9.3). -/
inductive Verdict | done | badService | badLength | badParameter | notNow | wrongState | notPresent
deriving DecidableEq, Repr

def Verdict.number (v : Verdict) : Nat :=
  match v with
  | .done => 0
  | .badService => 1
  | .badLength => 2
  | .badParameter => 3
  | .notNow => 4
  | .wrongState => 5
  | .notPresent => 6

/-- The answer of a service: its result, its payload, and the state after it. -/
structure Answer where
  verdict : Verdict
  payload : List Byte
  after : State

/-- An answer without payload that changes nothing. -/
def refusal (v : Verdict) (s : State) : Answer := { verdict := v, payload := [], after := s }

/-- A DONE answer that changes nothing. -/
def report (payload : List Byte) (s : State) : Answer := { verdict := .done, payload := payload, after := s }

/-! ### Sending (R170, R171) -/

/-- A response message (Table 9.3). -/
def message (v : Verdict) (payload : List Byte) : List Byte := byteOf v.number :: be 2 payload.length ++ payload

/-- The sequence byte of segment `k`: its index, with the more-follows mark while another segment follows. -/
def sequenceByte (msg : List Byte) (k : Nat) : Byte := byteOf (k % 64 + if 6 * (k + 1) < msg.length then 128 else 0)

/-- The data of the response frame that carries segment `k` (Table 9.2, R170). -/
def segmentData (code : Byte) (msg : List Byte) (k : Nat) : List Byte :=
  code :: sequenceByte msg k :: (msg.drop (6 * k)).take 6

/-- The current segment is offered to the diagnostic port's queue; a segment not taken abandons the response
(R171, R172). -/
def sendSegment (s : State) : State :=
  match s.service.response with
  | none => s
  | some r =>
    let e := s.service.entry
    let f : Frame := { format := e.format, id := e.responseId, data := segmentData r.code r.message r.index }
    let t := offerFrame e.port f (.service r.serial) s
    if t.1 then t.2 else abandon t.2

/-- The spacing deadline expires: the next segment is offered (R171). -/
def expireSpacing (s : State) : State :=
  match s.service.response with
  | none => s
  | some r =>
    match r.phase with
    | .queued => s
    | .spacing t =>
      if t ≤ s.now then
        let r' := { r with index := r.index + 1, phase := .queued }
        sendSegment { s with service := { s.service with response := some r' } }
      else s

/-- Sending of a message begins with segment 0. -/
def beginResponse (code : Byte) (msg : List Byte) (s : State) : State :=
  let r : Response := { serial := s.service.serial, code := code, message := msg, index := 0, phase := .queued }
  sendSegment { s with service := { s.service with response := some r, serial := s.service.serial + 1 } }

/-- A request is taken (R169): a response in flight is abandoned, the request counted and judged, its message built
whole, and sending begins. -/
def takeRequest (code : Byte) (judge : State → Answer) (s : State) : State :=
  let s := abandon s
  let a := judge { s with service := { s.service with served := bump32 s.service.served } }
  beginResponse code (message a.verdict a.payload) a.after

/-! ### Reading (R173, R174) -/

/-- IDENTIFY. -/
def answerIdentify (s : State) : Answer :=
  report (be 2 460 ++ [Config.revision] ++ be 1 s.mode.number ++ be 4 s.label.toNat) s

/-- One item of READ_FAULT_LIST. -/
def listItemBytes (p : Fin 40) (r : FaultRecord) : List Byte :=
  [byteOf p.val, byteOf (codeNumber r.code).val, sourceByte r.source, boolByte r.active, byteOf r.occurrences]

/-- READ_FAULT_LIST: per record in position order, then the memory overflow counter. -/
def answerFaultList (s : State) : Answer :=
  let item (p : Fin 40) : List Byte :=
    match s.faults.memory[p] with
    | some r => listItemBytes p r
    | none => []
  report ((List.finRange 40).flatMap item ++ be 2 s.faults.memoryOverflow) s

/-- One reading of a freeze frame. -/
def readingBytes (r : Reading) : List Byte := byteOf r.slot :: beInt 4 r.value ++ [byteOf r.state.number]

/-- The payload of READ_FAULT_RECORD. -/
def recordBytes (p : Fin 40) (r : FaultRecord) : List Byte :=
  [byteOf p.val, byteOf (codeNumber r.code).val, sourceByte r.source, byteOf r.severity, boolByte r.active,
    byteOf r.occurrences] ++
  be 4 r.firstDistance ++ be 4 r.lastDistance ++ be 2 r.firstCycle ++
  [byteOf r.heal, byteOf r.freeze.length] ++ r.freeze.flatMap readingBytes

/-- READ_FAULT_RECORD. -/
def answerFaultRecord (position : Byte) (s : State) : Answer :=
  match unit? 40 position.toNat with
  | none => refusal .badParameter s
  | some p =>
    match s.faults.memory[p] with
    | none => refusal .notPresent s
    | some r => report (recordBytes p r) s

/-- READ_FIRST_FAULT. -/
def answerFirstFault (s : State) : Answer :=
  match s.faults.latch with
  | none => refusal .notPresent s
  | some f => report ([byteOf (codeNumber f.code).val, sourceByte f.source] ++ be 4 f.distance ++ be 2 f.cycle) s

/-- One entry of READ_LIVE_FAULTS; that the confirmed byte is 1 for a confirmed entry and 0 otherwise is the model's
choice (assumption 53). -/
def State.liveBytes (s : State) (e : LiveEntry) : List Byte :=
  [byteOf (codeNumber e.code).val, sourceByte e.source] ++ be 4 (s.msOf e.since) ++ [boolByte e.confirmed]

/-- READ_LIVE_FAULTS: per live entry in the order of the set, then the live overflow counter. -/
def answerLiveFaults (s : State) : Answer :=
  report (s.faults.live.flatMap s.liveBytes ++ be 2 s.faults.liveOverflow) s

/-- CLEAR_FAULTS (R162, R174). -/
def answerClearFaults (s : State) : Answer :=
  if s.clearAllowed then
    { verdict := .done, payload := [byteOf s.recordCount], after := setFlag .serviceClear (clearMemory s) }
  else refusal .notNow s

/-- READ_SIGNAL. -/
def answerSignal (slot : Byte) (s : State) : Answer :=
  let r := s.slot slot.toNat
  report (slot :: beInt 4 r.value ++ [byteOf r.state.number]) s

/-- The seven counters of a port, in the order of Table 1.3. -/
def PortCounters.list (c : PortCounters) : List Nat :=
  [c.received, c.unmatched, c.remoteIgnored, c.transmitted, c.overflow, c.expired, c.flushed]

def State.portCounters (s : State) : List Nat := s.ports.toArray.toList.flatMap fun u => u.counters.list

/-- The cycle, obstruction and refused counts of D0 to D3. -/
def State.doorCounters (s : State) : List Nat :=
  s.doors.toArray.toList.flatMap fun u => [u.cycles, u.obstructions, u.refused]

/-- The hit and short counters of `count` entries from `first`. -/
def State.matchCounters (s : State) (first count : Nat) : List Nat :=
  ((s.matchTable.toArray.toList.drop first).take count).flatMap fun u => [u.hits, u.shorts]

/-- READ_COUNTERS (R173). -/
def answerCounters (group first count : Byte) (s : State) : Answer :=
  match group.toNat with
  | 0 => report (s.portCounters.flatMap (be 4)) s
  | 1 => report (s.doorCounters.flatMap (be 4)) s
  | 2 =>
    if count = 0 ∨ 47 < count.toNat ∨ 128 < first.toNat + count.toNat then refusal .badParameter s
    else report ([first, count] ++ (s.matchCounters first.toNat count.toNat).flatMap (be 4)) s
  | _ => refusal .badParameter s

/-! ### Capture (R178, R180, R182) -/

def CaptureState.number (c : CaptureState) : Nat :=
  match c with
  | .idle => 0
  | .armed => 1
  | .triggered => 2
  | .frozen => 3

/-- The capture status (R182). -/
def State.captureStatus (s : State) : List Byte :=
  let c := s.capture
  [byteOf c.state.number] ++ be 2 c.ring.length ++
    [byteOf (portSetNumber c.ports), boolByte c.flagged, byteOf c.postCount, byteOf c.remaining,
      sourceByte (c.code.map fun k => (codeNumber k).val)] ++ be 2 c.cursor

/-- The trigger code a parameter names: 255 for none, a code number, or no value of the range. -/
def triggerCode? (b : Byte) : Option (Option FaultCode) :=
  if b = 255 then some none else (faultCode? b.toNat).map some

/-- CAPTURE_ARM (R178). -/
def answerArm (ports filter post code : Byte) (s : State) : Answer :=
  match triggerCode? code with
  | none => refusal .badParameter s
  | some k =>
    if ports = 0 ∨ 7 < ports.toNat ∨ 1 < filter.toNat then refusal .badParameter s
    else
      let s := armCapture (portSetOf ports) (filter = 1) post.toNat k s
      { verdict := .done, payload := s.captureStatus, after := s }

/-- CAPTURE_TRIGGER (R180). -/
def answerTrigger (s : State) : Answer :=
  if s.capture.state = .armed then
    let s := triggerCapture s
    { verdict := .done, payload := s.captureStatus, after := s }
  else { verdict := .wrongState, payload := s.captureStatus, after := s }

/-- CAPTURE_STATUS. -/
def answerCaptureStatus (s : State) : Answer := report s.captureStatus s

/-- The marks of the record at a place of the ring (R182). -/
def ringMarks (n place : Nat) (r : CaptureRecord) : Nat :=
  (if place = 0 then 1 else 0) + (if r.trigger then 2 else 0) + (if place + 1 = n then 4 else 0)

/-- A record of the ring in 21 bytes (R182). -/
def captureBytes (n place : Nat) (r : CaptureRecord) : List Byte :=
  [byteOf r.port.val, byteOf (formatNumber r.frame.format)] ++ be 4 r.frame.id ++ [byteOf r.frame.data.length] ++
    padded r.frame.data ++ be 4 r.time ++ [sourceByte r.entry, byteOf (ringMarks n place r)]

/-- The records of a list whose first stands at `place` of a ring of `n`. -/
def captureList (n place : Nat) : List CaptureRecord → List Byte
  | [] => []
  | r :: rest => captureBytes n place r ++ captureList n (place + 1) rest

/-- CAPTURE_READ (R182). -/
def answerCaptureRead (rewind : Byte) (s : State) : Answer :=
  if 1 < rewind.toNat then refusal .badParameter s
  else if s.capture.state = .frozen then
    let from_ := if rewind = 1 then 0 else s.capture.cursor
    let records := (s.capture.ring.drop from_).take 16
    { verdict := .done,
      payload := byteOf records.length :: captureList s.capture.ring.length from_ records,
      after := { s with capture := { s.capture with cursor := from_ + records.length } } }
  else refusal .wrongState s

/-! ### Output test (R175, R176) -/

/-- A safety source (R116). -/
def isSafety : LineSource → Bool
  | .doorRelease _ | .doorOpen _ | .drivePermit | .stopBrakeRequest => true
  | _ => false

/-- The unit a start names, none for BAD_PARAMETER (R175 steps 1 and 2). -/
def State.testUnit? (s : State) (kind index : Byte) : Option TestUnit :=
  match kind.toNat with
  | 0 => (unit? 6 index.toNat).map .gauge
  | 1 => (unit? 64 index.toNat).map .telltale
  | 2 =>
    match unit? 8 index.toNat with
    | none => none
    | some k =>
      let e := s.outputs[lineOfLamp k].entry
      if isSafety e.source || isSafety e.direct then none else some (.line k)
  | _ => none

/-- A gauge can be swept in TRACKING only (R82). -/
def State.canTest (s : State) (u : TestUnit) : Bool :=
  match u with
  | .gauge g => s.gauges[g].state = .tracking
  | _ => true

def TestUnit.bytes (u : TestUnit) : List Byte :=
  match u with
  | .gauge g => [0, byteOf g.val]
  | .telltale t => [1, byteOf t.val]
  | .line l => [2, byteOf l.val]

/-- OUTPUT_TEST_START (R175). -/
def answerTestStart (kind index : Byte) (s : State) : Answer :=
  match s.testUnit? kind index with
  | none => refusal .badParameter s
  | some u =>
    if !s.startConditions then refusal .notNow s
    else if !s.canTest u then refusal .wrongState s
    else { verdict := .done, payload := u.bytes, after := startTest u s }

/-- OUTPUT_TEST_STOP (R176). -/
def answerTestStop (s : State) : Answer :=
  match s.service.test with
  | none => report [0, 0, 0] s
  | some t => { verdict := .done, payload := 1 :: t.unit.bytes, after := endTest s }

/-! ### Judging a request (R169) -/

/-- The request length of a service, none for a code not in Table 9.4. -/
def serviceLength? (code : Byte) : Option Nat :=
  match code.toNat with
  | 0x10 => some 1
  | 0x11 => some 1
  | 0x12 => some 2
  | 0x13 => some 1
  | 0x14 => some 1
  | 0x15 => some 1
  | 0x20 => some 2
  | 0x21 => some 4
  | 0x30 => some 5
  | 0x31 => some 1
  | 0x32 => some 1
  | 0x33 => some 2
  | 0x40 => some 3
  | 0x41 => some 1
  | _ => none

/-- The service a request of the right length asks for. -/
def answerService (data : List Byte) (s : State) : Answer :=
  let p (k : Nat) : Byte := data.getD k 0
  match (p 0).toNat with
  | 0x10 => answerIdentify s
  | 0x11 => answerFaultList s
  | 0x12 => answerFaultRecord (p 1) s
  | 0x13 => answerFirstFault s
  | 0x14 => answerLiveFaults s
  | 0x15 => answerClearFaults s
  | 0x20 => answerSignal (p 1) s
  | 0x21 => answerCounters (p 1) (p 2) (p 3) s
  | 0x30 => answerArm (p 1) (p 2) (p 3) (p 4) s
  | 0x31 => answerTrigger s
  | 0x32 => answerCaptureStatus s
  | 0x33 => answerCaptureRead (p 1) s
  | 0x40 => answerTestStart (p 1) (p 2) s
  | 0x41 => answerTestStop s
  | _ => refusal .badService s

/-- The judgement of a diverted frame (R169). -/
def judgeService (data : List Byte) (s : State) : Answer :=
  match data with
  | [] => refusal .badLength s
  | code :: _ =>
    match serviceLength? code with
    | none => refusal .badService s
    | some n => if data.length = n then answerService data s else refusal .badLength s

/-- A frame diverted to the service channel is taken (R169). -/
def serveFrame (data : List Byte) (s : State) : State := takeRequest (data.headD 0) (judgeService data) s

/-- The SERVICE entry is written: a response in flight is abandoned (R166). -/
def writeServiceEntry (e : ServiceEntry) (s : State) : State :=
  abandon { s with service := { s.service with entry := e } }

end Sys2Proof.Machine
end

