-- ==== Sys2Proof/Machine/Egress.lean ====
section
/-! DEFINITION. The egress queue of the panel link (R188) and what joins it: forwards, responses, and the cycle report
(R84, R197). -/

namespace Sys2Proof.Machine

def putEgress (q : List EgressFrame) (s : State) : State := { s with link := { s.link with egress := q } }

/-! ### Forwards and responses -/

/-- A FORWARD frame is built and offered: it joins below 28 frames, else it is dropped and counted (R185, R188). -/
def offerForward (p : Fin 3) (f : Frame) (s : State) : State :=
  let tag := s.link.forwardSeq
  let s := { s with link := { s.link with forwardSeq := tag + 1 } }
  if s.link.egress.length < 28 then putEgress (s.link.egress ++ [.forward tag p f]) s
  else setFlag .txDrop { s with link := { s.link with forwardDrops := bump32 s.link.forwardDrops } }

/-- A RESPONSE joins at the tail (R188). -/
def joinResponse (tag : Byte) (code : Nat) (r : Result) (d : ResponseData) (s : State) : State :=
  putEgress (s.link.egress ++ [.response tag code r d]) s

/-! ### Reports -/

def EgressFrame.isReport (f : EgressFrame) : Bool :=
  match f with
  | .report _ _ => true
  | _ => false

/-- An unsent REPORT waits in the queue: one behind the head, whose sending has begun (R188). -/
def hasUnsentReport (q : List EgressFrame) : Bool := (q.drop 1).any EgressFrame.isReport

/-- A REPORT takes the place of the unsent REPORT behind the head. -/
def replaceReport (f : EgressFrame) : List EgressFrame → List EgressFrame
  | [] => []
  | h :: t => h :: t.map fun g => if g.isReport then f else g

def reportGauge (s : State) (g : Fin 6) : GaugeReport :=
  let u := s.gauges[g]
  let r := s.slot u.entry.source
  { value := r.value, slotState := r.state, position := u.reported, state := u.state }

/-- The cycle report at this instant (Table 10.7). -/
def State.report (s : State) : Report :=
  { mode := s.isRun, power := !s.isActive, direct := s.direct,
    speed := s.slots[slotVehicleSpeed].value, speedState := s.slots[slotVehicleSpeed].state,
    speedSource := s.slots[slotSpeedSource].value, standstill := s.slots[slotStandstill].value,
    total := s.speed.total,
    gauges := Vector.ofFn (reportGauge s),
    telltales := Vector.ofFn fun t => (s.presentation t, s.lit t),
    doors := Vector.ofFn fun d => (s.doors[d].state, s.doors[d].released),
    drivePermit := s.drivePermit, stopBrake := s.stopBrake, granted := s.chime.grant.map (·.requester),
    flags := s.flags, live := s.faults.live.length }

/-- A REPORT is built and offered (R185, R188, R197). -/
def offerReport (s : State) : State :=
  let f : EgressFrame := .report s.link.reportSeq s.report
  let s := { s with link := { s.link with reportSeq := s.link.reportSeq + 1 } }
  if hasUnsentReport s.link.egress then
    let s := { s with link := { s.link with reportOverrun := bump32 s.link.reportOverrun } }
    putEgress (replaceReport f s.link.egress) s
  else putEgress (s.link.egress ++ [f]) s

/-- The report timer expires; the next deadline is the expired one + report period (R197). -/
def expireReport (s : State) : State :=
  if s.due s.link.reportTimer then
    let next := s.link.reportTimer.map (· + 1000 * s.system.reportPeriod)
    offerReport { s with link := { s.link with reportTimer := next } }
  else s

/-! ### Payloads (R185, Table 10.2, Table 10.7) -/

def GaugeState.number (g : GaugeState) : Nat :=
  match g with
  | .off => 0
  | .unhomed => 1
  | .homing => 2
  | .tracking => 3
  | .fault => 4

def Presentation.number (p : Presentation) : Nat :=
  match p with
  | .off => 0
  | .steady => 1
  | .slowFlash => 2
  | .fastFlash => 3

/-- The half byte of a telltale: its presentation, and its lit level in the third bit. -/
def telltaleNibble (t : Presentation × Bool) : Nat := t.1.number + if t.2 then 4 else 0

/-- Two telltales in a byte, the lower-numbered in the lower half. -/
def nibblePairs : List (Presentation × Bool) → List Byte
  | a :: b :: rest => byteOf (telltaleNibble a + 16 * telltaleNibble b) :: nibblePairs rest
  | [a] => [byteOf (telltaleNibble a)]
  | [] => []

def gaugeBytes (g : GaugeReport) : List Byte :=
  beInt 4 g.value ++ [byteOf g.slotState.number] ++ be 2 g.position ++ [byteOf g.state.number]

/-- The 106 bytes of a cycle report (Table 10.7). -/
def Report.payload (r : Report) : List Byte :=
  [boolByte r.mode, boolByte r.power, boolByte r.direct] ++ beInt 2 r.speed ++
  [byteOf r.speedState.number] ++ beInt 1 r.speedSource ++ beInt 1 r.standstill ++ be 4 r.total ++
  r.gauges.toArray.toList.flatMap gaugeBytes ++ nibblePairs r.telltales.toArray.toList ++
  r.doors.toArray.toList.flatMap (fun d => [byteOf d.1.code, boolByte d.2]) ++
  [boolByte r.drivePermit, boolByte r.stopBrake, sourceByte (r.granted.map (·.val))] ++
  be 2 r.flags.toNat ++ [byteOf r.live]

/-- The payload of a FORWARD frame (Table 10.2). -/
def forwardPayload (p : Fin 3) (f : Frame) : List Byte :=
  [byteOf p.val, byteOf (formatNumber f.format)] ++ be 4 f.id ++ [byteOf f.data.length] ++ f.data

end Sys2Proof.Machine
end

