-- ==== Sys2Proof/Machine/Classifier.lean ====
section
/-! DEFINITION. The frame classifier (R9, R11 to R16) and supervision (R18, R19). -/

namespace Sys2Proof.Machine

def putMatch (e : Fin 128) (u : MatchUnit) (s : State) : State := { s with matchTable := vput s.matchTable e u }

def entrySource (e : Fin 128) : Option Nat := some e.val

/-! ### Supervision -/

/-- The deadline a supervision state holds. -/
def supervisionDeadline (v : Supervision) : Option Nat :=
  match v with
  | .awaiting t => some t
  | .present t => some t
  | _ => none

/-- A good arrival makes a supervised entry PRESENT with a new deadline (Table 1.5). -/
def superviseArrival (e : Fin 128) (s : State) : State :=
  let u := s.matchTable[e]
  match u.supervision with
  | .none => s
  | _ => putMatch e { u with supervision := .present (s.after u.entry.timeout) } s

/-- A supervision deadline expires: MISSING, FRAME_MISSING raised, the signal store told (Table 1.5). -/
def expireSupervision (e : Fin 128) (s : State) : State :=
  let u := s.matchTable[e]
  if s.due (supervisionDeadline u.supervision) then
    entryMissing e (raiseFault .frameMissing (entrySource e) (putMatch e { u with supervision := .missing } s))
  else s

/-- Each enabled, supervised entry is AWAITING (R18). -/
def startSupervision (s : State) : State :=
  let begin_ (u : MatchUnit) : MatchUnit :=
    { u with supervision :=
        if u.entry.enabled ∧ u.entry.timeout ≠ 0 then .awaiting (s.after u.entry.timeout) else .none }
  { s with matchTable := vmap begin_ s.matchTable }

def noSupervision (s : State) : State :=
  { s with matchTable := vmap (fun u => { u with supervision := .none }) s.matchTable }

def isFrameFault : FaultCode → Bool
  | .frameMissing | .frameShort => true
  | _ => false

/-- Supervision at STOP (R18). -/
def stopSupervision (s : State) : State := clearCodes isFrameFault (noSupervision s)

/-! ### Classification -/

/-- The masked comparison of R11: the identifiers are equal wherever the mask holds a one. -/
def maskedEqual (mask a b : Nat) : Bool := a &&& mask = b &&& mask

/-- An enabled entry takes a frame (R11). -/
def entryTakes (u : MatchEntry) (p : Fin 3) (f : Frame) : Bool :=
  u.enabled && u.ports.has p && u.format = f.format && maskedEqual u.mask u.id f.id

/-- The first entry that takes a frame. -/
def State.taker (s : State) (p : Fin 3) (f : Frame) : Option (Fin 128) :=
  firstUnit 128 fun e => entryTakes s.matchTable[e].entry p f

/-- A good arrival (R12): supervision, the decode, FRAME_SHORT, FRAME_MISSING, in the order R12 lists them, which is
the model's choice (assumption 54). -/
def goodArrival (e : Fin 128) (f : Frame) (s : State) : State :=
  let s1 := superviseArrival e s
  let s2 := if s.matchTable[e].entry.decode then decodeEntry e f.data s1 else s1
  clearFault .frameMissing (entrySource e) (clearFault .frameShort (entrySource e) s2)

/-- A short frame (R13). -/
def shortArrival (e : Fin 128) (s : State) : State :=
  let u := s.matchTable[e]
  raiseFault .frameShort (entrySource e) (putMatch e { u with shorts := bump32 u.shorts } s)

/-- A frame is forwarded to the members of a forward set but the receiving port (R14). -/
def forwardFrame (set : ForwardSet) (p : Fin 3) (f : Frame) (s : State) : State :=
  let s := each 3 (fun q s => if set.ports.has q && q != p then (offerFrame q f .forward s).2 else s) s
  if set.panel then offerForward p f s else s

/-- A frame taken by an entry (R12 to R14, R16). -/
def takenBy (e : Fin 128) (p : Fin 3) (f : Frame) (s : State) : State :=
  let u := s.matchTable[e]
  let s := putMatch e { u with hits := bump32 u.hits } s
  let s := if u.entry.minLength ≤ f.data.length then goodArrival e f s else shortArrival e s
  offerCapture p f (some e.val) u.entry.capture (forwardFrame u.entry.forward p f s)

/-- A frame that no entry takes (R15, R16). -/
def unmatched (p : Fin 3) (f : Frame) (s : State) : State :=
  let s := countUnmatched p s
  let s := match s.ports[p].entry.defaultAction with
    | .drop => s
    | .panel => offerForward p f s
  offerCapture p f none false s

/-- The classifier handles a frame (R11). -/
def classify (p : Fin 3) (f : Frame) (s : State) : State :=
  match s.taker p f with
  | some e => takenBy e p f s
  | none => unmatched p f s

/-- A data frame is diverted to the service channel (R9). -/
def State.diverts (s : State) (p : Fin 3) (f : Frame) : Bool :=
  let e := s.service.entry
  e.port = p && e.format = f.format && e.requestId = f.id

/-- A data frame received while ACTIVE (R9). -/
def dataFrame (p : Fin 3) (f : Frame) (s : State) : State :=
  if s.diverts p f then serveFrame f.data s
  else if s.isRun then classify p f s
  else offerCapture p f none false s

/-- A reception on a port that is ACTIVE (R8). -/
def receiveActive (p : Fin 3) (f : RxFrame) (s : State) : State :=
  if s.ports[p].open_ then
    let s := countReception p s
    if f.remote then countRemote p s else dataFrame p (takenFrame f) s
  else s

/-- A taken MATCH write (R10); FRAME_SHORT is cleared before FRAME_MISSING (assumption 54). -/
def writeMatchEntry (e : Fin 128) (entry : MatchEntry) (s : State) : State :=
  let u := { s.matchTable[e] with entry := entry, hits := 0, shorts := 0 }
  clearFault .frameMissing (entrySource e) (clearFault .frameShort (entrySource e) (putMatch e u s))

end Sys2Proof.Machine
end

