-- ==== Sys2Proof/Machine/Lamps.lean ====
section
/-! DEFINITION. The bulb check (R104), the lamp protection (R121, R122), and the output lines at STOP and park
(R119, R120). -/

namespace Sys2Proof.Machine

/-! ### Bulb check -/

def beginBulb (s : State) : State :=
  redrive (publish slotBulbCheck 1 { s with bulb := some (s.after s.system.bulbTime) })

/-- A running bulb check ends. -/
def endBulb (s : State) : State :=
  if s.bulb.isSome then redrive (publish slotBulbCheck 0 { s with bulb := none }) else s

def expireBulb (s : State) : State := if s.due s.bulb then endBulb s else s

/-! ### Lamp protection -/

def putLamp (k : Fin 8) (u : LampUnit) (s : State) : State := { s with lamps := vput s.lamps k u }

def lampSource (k : Fin 8) : Option Nat := some k.val

/-- The driver of a lamp line is on. -/
def State.lampOn (s : State) (k : Fin 8) : Bool := s.outputs[lineOfLamp k].on

/-- The open-load sense reports; the report is acted on while the part is ACTIVE (R121). -/
def openLoad (k : Fin 8) (isOpen : Bool) (s : State) : State :=
  setFault isOpen .lampOpen (lampSource k) (putLamp k { s.lamps[k] with openLoad := isOpen } s)

/-- At wake every load the sense reports open raises LAMP_OPEN (R121). -/
def raiseOpenLoads (s : State) : State :=
  each 8 (fun k s => if s.lamps[k].openLoad then raiseFault .lampOpen (lampSource k) s else s) s

/-- The lamp as a short leaves it: RETRY_WAIT after the first and second in an ignition cycle, LOCKED_OUT after the
third (Table 6.7). -/
def LampUnit.shorted (u : LampUnit) (s : State) : LampUnit :=
  let n := u.shorts + 1
  { u with shorts := n, proving := none, protection := if n < 3 then .retryWait (s.after 1000) else .lockedOut }

/-- A short is reported (Table 6.7); with the driver off it is ignored. -/
def shortReported (k : Fin 8) (s : State) : State :=
  let u := s.lamps[k]
  if u.protection = .normal && s.lampOn k then
    raiseFault .lampShort (lampSource k) (redrive (putLamp k (u.shorted s) s))
  else s

/-- The retry deadline expires. -/
def expireRetry (k : Fin 8) (s : State) : State :=
  let u := s.lamps[k]
  match u.protection with
  | .retryWait t => if t ≤ s.now then redrive (putLamp k { u with protection := .normal } s) else s
  | _ => s

/-- The proving deadline expires with the driver still on. -/
def expireProving (k : Fin 8) (s : State) : State :=
  let u := s.lamps[k]
  if s.due u.proving && s.lampOn k && u.protection = .normal then
    clearFault .lampShort (lampSource k) (putLamp k { u with proving := none } s)
  else s

/-- Ignition on lifts every lockout and cancels every retry (R201 step 5). -/
def liftLockouts (s : State) : State :=
  redrive { s with lamps := vmap (fun u => { u with protection := .normal, shorts := 0 }) s.lamps }

/-- RETRY_WAIT becomes NORMAL at park and STOP; the short count is kept. -/
def LampUnit.settle (u : LampUnit) : LampUnit :=
  match u.protection with
  | .retryWait _ => { u with protection := .normal }
  | _ => u

/-- The lines at STOP and park: inactive, retry waits ended, panel values 0 (R119, R120, R122). -/
def quietLines (s : State) : State :=
  redrive { s with lamps := vmap LampUnit.settle s.lamps,
                   outputs := vmap (fun u => { u with panelValue := false }) s.outputs }

end Sys2Proof.Machine
end

