-- ==== Sys2Proof/Machine/Power.lean ====
section
/-! DEFINITION. The transitions of the part: START and STOP (R193, R194), park and wake (R203 to R205), restart and
power-on reset (R206, R207), and the ignition (R200 to R202). -/

namespace Sys2Proof.Machine

/-! ### START and STOP -/

/-- The groups of R193 and R205 that have taken up RUN and ACTIVE (assumption 7). -/
def setStage (n : Nat) (s : State) : State := { s with stage := n }

/-- Groups 2 of R193 and step 3 of R205: speed selection and the distance tick. -/
def takeUpSpeed (s : State) : State := startTick (select (putMismatch none (setStage 2 s)))

/-- Group 3: the conditions are evaluated; the telltales do not hear them yet. -/
def takeUpConditions (s : State) : State := evaluateAll (clearConditions (setStage 3 s))

/-- Group 4: the doors are derived, and their changes move the conditions. -/
def takeUpDoors (s : State) : State := setUpDoors (setStage 4 s)

/-- Group 4, after the doors: the telltales follow the conditions as they then stand (R105, assumption 7). -/
def takeUpTelltales (s : State) : State := lightTelltales (setStage 5 s)

/-- Group 5: the lines. -/
def takeUpLines (s : State) : State := redrive (setStage 6 s)

/-- A taken START: the blocks take up RUN in the order of R193. -/
def takeStart (label : BitVec 32) (s : State) : State :=
  let s := setStage 1 { s with mode := .run, label := label }
  let s := takeUpSpeed (startPulses (startSlots (startSupervision s)))
  let s := takeUpConditions { s with gauges := vmap s.startGauge s.gauges }
  let s := takeUpLines (takeUpTelltales (takeUpDoors s))
  if s.ignition.accepted then beginBulb s else s

/-- A taken STOP: the blocks leave RUN in the order of R194. -/
def takeStop (s : State) : State :=
  let s := setStage 0 { s with mode := .setup }
  let s := stopSpeed (stopPulses (stopSlots (stopSupervision s)))
  let s := endBulb (darkenTelltales (clearConditions s))
  tellTest (stopDoors (quietLines (emptyChimes s)))

/-! ### Restart and power-on reset -/

/-- The retained area (11.4), with RETAINED_LOST, which a restart keeps too. -/
structure Retained where
  total : Nat
  delta : Nat
  cycles : Nat
  memory : Vector (Option FaultRecord) 40
  latch : Option FirstFault
  memoryOverflow : Nat
  doors : Vector (Nat × Nat) 4
  lost : Bool

/-- What a restart keeps: every ACTIVE record becomes INACTIVE (R164, R206). -/
def State.retained (s : State) : Retained :=
  { total := s.speed.total, delta := s.speed.delta, cycles := s.cycles, memory := inactiveMemory s.faults.memory,
    latch := s.faults.latch, memoryOverflow := s.faults.memoryOverflow,
    doors := vmap (fun u => (u.cycles, u.obstructions)) s.doors, lost := s.flag .retainedLost }

/-- What a power-on reset leaves: the area cleared, RETAINED_LOST set (R207). -/
def Retained.cleared : Retained :=
  { total := 0, delta := 0, cycles := 0, memory := Vector.replicate 40 none, latch := none, memoryOverflow := 0,
    doors := Vector.replicate 4 (0, 0), lost := true }

/-- The ignition input after a reset (R200). -/
def Ignition.afterReset (pin : Bool) (now : Nat) : Ignition :=
  { pin := pin, accepted := false, pending := if pin then some now else none, first := false,
    offHold := if pin then none else some now }

/-- The part after a reset at this moment, with a retained area; the pins keep their levels. -/
def resetWith (r : Retained) (s : State) : State :=
  let i := State.reset
  let doorWith (c : Nat × Nat) : DoorUnit := { DoorUnit.initial with cycles := c.1, obstructions := c.2 }
  decideAttn
    { i with
      now := s.now, base := s.now, pending := s.pending, resetLow := s.resetLow,
      ignition := Ignition.afterReset s.ignition.pin s.now, cycles := r.cycles,
      slots := initialSlots r.cycles r.total,
      pulses := vmap (fun u => { entry := PulseEntry.initial, line := u.line, meas := none }) s.pulses,
      speed := { i.speed with total := r.total, delta := r.delta },
      flashOrigin := s.now,
      inputs := vmap
        (fun u => { entry := InputEntry.initial, line := u.line, accepted := u.line, pending := none }) s.inputs,
      lamps := vmap (fun u => { protection := .normal, shorts := 0, proving := none, openLoad := u.openLoad }) s.lamps,
      doors := vmap doorWith r.doors,
      faults := { i.faults with memory := r.memory, latch := r.latch, memoryOverflow := r.memoryOverflow },
      link := PanelLink.initial s.now,
      flags := if r.lost then 256 else 0 }

/-- A restart (R206); the part is no longer held in reset. -/
def restart (s : State) : State := resetWith s.retained { s with resetLow := false }

/-- A power-on reset (R207). -/
def powerOn (s : State) : State := resetWith Retained.cleared s

/-- The RESET pin goes low: the part is held in reset (R206). -/
def holdReset (s : State) : State :=
  { s with resetLow := true, attn := false, outputs := vmap (fun u => { u with on := false }) s.outputs }

/-! ### Park -/

/-- The live fault set is emptied at park (R164). -/
def emptyLive (s : State) : State :=
  publish slotActiveFaults 0
    { s with faults := { s.faults with live := [], memory := inactiveMemory s.faults.memory } }

/-- The link is declared restored, or leaves its loss at park: slot 251 is 0 and DIRECT is clear (R189). -/
def clearLost (s : State) : State :=
  redrive (publish slotPanelLinkLost 0 { s with link := { s.link with lost := false }, direct := false })

/-- The panel link at park (R187, R188, R189, R197). -/
def parkLink (s : State) : State :=
  let s := if s.link.lost then clearLost s else s
  { s with link := { s.link with ingress := [], egress := [], timer := none, reportTimer := none } }

/-- Every block takes its PARKED condition (Table 11.1). -/
def parkBlocks (s : State) : State :=
  let s := setStage 0 { s with power := .parked, runOn := none }
  let s := noPanelDeadlines (noSupervision (each 3 parkPort s))
  let s := speedAway (discardPulses s)
  let s := endBulb (darkenTelltales (clearConditions { s with gauges := vmap GaugeUnit.parked s.gauges }))
  let s := emptyLive (parkDoors (quietLines (emptyChimes s)))
  decideAttn (parkLink (abandon s))

/-- Park; a restart that awaits its response's departure takes place now (R196, R203). -/
def park (s : State) : State :=
  let p := parkBlocks s
  if p.link.restarting then restart p else p

/-- The park check (R203). -/
def State.mayPark (s : State) : Bool :=
  (allUnits 4 fun d => s.doors[d].state = .disabled || s.doors[d].state = .closedLocked || s.doors[d].state = .fault) &&
    s.service.response.isNone && s.service.test.isNone

/-- The run-on timer expires (R203). -/
def expireRunOn (s : State) : State :=
  if s.isActive && s.due s.runOn then (if s.mayPark then park s else startRunOn s) else s

/-! ### Wake -/

/-- Step 1 of R205: ACTIVE, the time base from 0, the link empty with its timers started, ATTN decided afresh. -/
def wakeLink (s : State) : State :=
  let s := { s with power := .active, base := s.now }
  decideAttn { s with link := { s.link with
    ingress := [], egress := [], timer := some (s.after s.system.panelTimeout),
    reportTimer := some (s.after s.system.reportPeriod) } }

/-- Step 4: the flash generator begins afresh and every enabled gauge begins homing. -/
def wakeGauges (s : State) : State :=
  let s := { s with flashOrigin := s.now }
  clearCodes (· = .gaugeHome) { s with gauges := vmap s.wokenGauge s.gauges }

/-- Wake (R205). Neither R121 nor R205 places the LAMP_OPEN raises of R121: they come after step 6 in RUN and after
step 4 in SETUP (assumption 25). -/
def wake (s : State) : State :=
  let s := wakeLink s
  if s.isRun then
    let s := clearResidues (startPulses (startSupervision (wakeSlots (setStage 1 s))))
    let s := takeUpConditions (wakeGauges (takeUpSpeed s))
    let s := raiseOpenLoads (takeUpLines (takeUpTelltales (takeUpDoors s)))
    if s.ignition.accepted then s else startRunOn s
  else
    let s := raiseOpenLoads (wakeGauges (clearResidues (wakeSlots s)))
    if s.ignition.accepted then s else startRunOn s

/-- A wake source reaches the part: a PARKED part wakes (R204). -/
def wakeIfParked (s : State) : State := if s.isActive then s else wake s

/-! ### Ignition -/

/-- IGNITION is written. -/
def writeIgnition (on : Bool) (s : State) : State := publish slotIgnition (bit on) s

/-- An ignition-on event (R201). -/
def ignitionOn (s : State) : State :=
  let s := writeIgnition true s
  let n := bump16 s.cycles
  let s := publish slotIgnitionCycles n { s with cycles := n }
  let s := liftLockouts { healingPass s with runOn := none }
  let s := { s with gauges := vmap s.ignitionOnGauge s.gauges }
  if s.isRun then beginBulb s else s

/-- An ignition-off event (R202). -/
def ignitionOff (s : State) : State :=
  let s := endBulb (writeIgnition false s)
  startRunOn (tellTest { s with gauges := vmap GaugeUnit.ignitionOff s.gauges })

def putIgnition (i : Ignition) (s : State) : State := { s with ignition := i }

/-- A change of the IGN pin (R200). -/
def Ignition.change (i : Ignition) (level : Bool) (now : Nat) : Ignition :=
  let i := { i with pin := level }
  if level = i.accepted then
    { i with pending := none, offHold := if i.first then none else if i.offHold.isSome then i.offHold else some now }
  else { i with offHold := none, pending := if i.pending.isSome then i.pending else some now }

/-- The fixed debounce of 50 ms, begun at a moment, has run. -/
def State.held50 (s : State) (t : Option Nat) : Bool := s.due (t.map (· + 50000))

/-- The first accepted level after a reset is published, and is no ignition-on event; off starts the run-on timer
(R200). -/
def firstIgnition (on : Bool) (s : State) : State :=
  let s := writeIgnition on s
  if on then s else startRunOn s

/-- The IGN pin has held a level for 50 ms (R200): a PARKED part wakes first at ignition on. -/
def acceptIgnition (s : State) : State :=
  let i := s.ignition
  if s.held50 i.pending then
    let on := !i.accepted
    let s := putIgnition { i with accepted := on, pending := none, first := true, offHold := none } s
    let s := if on then wakeIfParked s else s
    if !i.first then firstIgnition on s
    else if on then ignitionOn s else ignitionOff s
  else if !i.first && s.held50 i.offHold then
    firstIgnition false (putIgnition { i with first := true, offHold := none } s)
  else s

end Sys2Proof.Machine
end

