-- ==== Sys2Proof/Machine/Inputs.lean ====
section
/-! DEFINITION. The input lines (R114, R115): debounce, acceptance, delivery by function, and the flash generator's
phase changes (R103). -/

namespace Sys2Proof.Machine

def putInput (l : Fin 24) (u : InputUnit) (s : State) : State := { s with inputs := vput s.inputs l u }

/-- RUN and ACTIVE. -/
def State.running (s : State) : Bool := s.isRun && s.isActive

/-- A door function whose accepted change wakes a PARKED part (R115, R204). -/
def wakesPart : DoorFunction → Bool
  | .emergency => true
  | .closed => true
  | _ => false

/-- An accepted change is delivered to the one consumer its line's function names (Table 6.4). -/
def deliverLine (l : Fin 24) (s : State) : State :=
  let u := s.inputs[l]
  match u.entry.function with
  | .unused => s
  | .ackButton => if s.isActive && u.active then (acknowledge s).2.2 else s
  | .stopRequest => if s.running && u.active then pressStop s else s
  | .generic => if s.running then deliverInput l s else s
  | .door f d =>
    if !s.isActive then (if wakesPart f then wake s else s)
    else if s.isRun then
      match unit? 4 d with
      | some d => doorInput d f u.active s
      | none => s
    else s

/-- A pending change is accepted and delivered (R114, R115). -/
def acceptLine (l : Fin 24) (s : State) : State :=
  let u := s.inputs[l]
  deliverLine l (putInput l { u with accepted := !u.accepted, pending := none } s)

/-- A line that has left its accepted level begins a pending change now, accepted at once with a debounce of 0 ms
(R114). -/
def beginPending (l : Fin 24) (s : State) : State :=
  let u := s.inputs[l]
  if u.entry.debounce = 0 then acceptLine l s else putInput l { u with pending := some s.now } s

/-- A change of an input line's level (R114). -/
def inputLine (l : Fin 24) (level : Bool) (s : State) : State :=
  let u := { s.inputs[l] with line := level }
  let s := putInput l u s
  if level = u.accepted then putInput l { u with pending := none } s
  else if u.pending.isSome then s
  else beginPending l s

/-- A pending change outlasts its debounce (R114). -/
def debounceEnd (l : Fin 24) (s : State) : State :=
  let u := s.inputs[l]
  if s.due (u.pending.map (· + 1000 * u.entry.debounce)) then acceptLine l s else s

/-- A taken INPUT write: the accepted level is kept, a pending change discarded, and a new one begun where the line's
level differs (R114). -/
def writeInputEntry (l : Fin 24) (e : InputEntry) (s : State) : State :=
  let u := { s.inputs[l] with entry := e, pending := none }
  let s := putInput l u s
  if u.line = u.accepted then s else beginPending l s

end Sys2Proof.Machine
end

