-- ==== Sys2Proof/Machine/Operands.lean ====
section
/-! DEFINITION. The field checks of the table entries and of the requests' parameters: whether each field lies in the
range its table gives (Tables 1.1, 1.4, 2.1, 3.1, 3.2, 4.1, 5.1, 5.6, 6.1, 6.3, 6.5, 7.1, 8.2, 9.1, 10.6). A field
with a closed list of names is in range by its type. -/

namespace Sys2Proof.Machine

/-- A number lies in a range, both ends included. -/
def inRange (low high n : Nat) : Bool := decide (low ≤ n) && decide (n ≤ high)

/-- A signed number lies in a range, both ends included. -/
def inRangeInt (low high v : Int) : Bool := decide (low ≤ v) && decide (v ≤ high)

def isInt32 (v : Int) : Bool := inRangeInt int32Min int32Max v

/-- A number that may be NONE. -/
def optAtMost (high : Nat) (n : Option Nat) : Bool :=
  match n with
  | none => true
  | some n => decide (n ≤ high)

/-- 0 for none, or 10 to 65,535 ms. -/
def timeoutOk (ms : Nat) : Bool := ms = 0 || inRange 10 65535 ms

/-- An identifier of a format (Table 1.4). -/
def idOk (f : Format) (id : Nat) : Bool := decide (id ≤ f.maxId)

def portFields (e : PortEntry) : Bool := inRange 10 1000 e.maxAge && decide (e.quietTime ≤ 1000)

def matchFields (e : MatchEntry) : Bool :=
  idOk e.format e.id && idOk e.format e.mask && decide (e.minLength ≤ 8) && timeoutOk e.timeout

/-- Step 3 of R25. -/
def slotFields (e : SlotDesc) : Bool :=
  decide (e.sourceEntry ≤ 127) && decide (e.startBit ≤ 63) && inRange 1 32 e.length && decide (e.pulse ≤ 3) &&
    decide (e.line ≤ 23) && timeoutOk e.panelTimeout && inRangeInt (-32768) 32767 e.num && e.num != 0 &&
    inRange 1 65535 e.den && isInt32 e.offset && isInt32 e.min && isInt32 e.max && isInt32 e.default

/-- Step 4 of R25. -/
def slotLimits (e : SlotDesc) : Bool := decide (e.min ≤ e.max) && inRangeInt e.min e.max e.default

/-- Step 3 of R54. -/
def speedFields (e : SpeedEntry) : Bool :=
  optAtMost 239 e.primary && optAtMost 239 e.fallback && decide (e.mismatchLimit ≤ 30000) &&
    decide (e.mismatchPercent ≤ 100) && decide (e.mismatchTime ≤ 60000) && inRange 1 1000 e.standstill &&
    inRange 1000 65000 e.pulsesPerKm

/-- Step 4 of R54. -/
def speedSlots (e : SpeedEntry) : Bool := e.fallback.isNone || (e.primary.isSome && e.fallback != e.primary)

/-- Steps 3 and 4 of R46. -/
def pulseFields (e : PulseEntry) : Bool :=
  decide (e.noise ≤ 2000) && inRange 50 1000 e.gate && inRange 100 5000 e.standstill &&
    inRange 100 100000 e.minPeriod && inRange 100 100000 e.maxPeriod && decide (e.minPeriod ≤ e.maxPeriod)

def inputFields (e : InputEntry) : Bool :=
  decide (e.debounce ≤ 500) &&
    match e.function with
    | .door _ d => decide (d ≤ 3)
    | _ => true

/-- The index of a source lies in its range (R116 step 3). -/
def sourceOk : LineSource → Bool
  | .telltale t => decide (t ≤ 63)
  | .condition c => decide (c ≤ 95)
  | .doorRelease d => decide (d ≤ 3)
  | .doorOpen d => decide (d ≤ 3)
  | _ => true

def outputFields (e : OutputEntry) : Bool := sourceOk e.source && sourceOk e.direct

/-- The safety-line rule (R116 step 4). -/
def safetyOk (index : Nat) (e : OutputEntry) : Bool :=
  if isSafety e.source || isSafety e.direct then
    decide (8 ≤ index) && e.source = e.direct && e.polarity = .normal
  else true

/-- The points of a gauge entry: each y within full scale, the x values strictly rising (R67 step 2). -/
def pointsOk (fullScale : Nat) : List (Int × Nat) → Bool
  | [] => true
  | [p] => isInt32 p.1 && decide (p.2 ≤ fullScale)
  | p :: q :: rest => isInt32 p.1 && decide (p.2 ≤ fullScale) && decide (p.1 < q.1) && pointsOk fullScale (q :: rest)

/-- R67 step 2. -/
def gaugeFields (e : GaugeEntry) : Bool :=
  decide (e.source ≤ 255) && inRange 100 4320 e.fullScale && inRange 2 16 e.pointCount && inRange 1 64 e.slew &&
    decide (e.deadband ≤ 50) && decide (e.parkPosition ≤ e.fullScale) && pointsOk e.fullScale (gaugePoints e)

/-- Table 5.2. -/
def faultSourceOk (c : FaultCode) (s : FaultSource) : Bool :=
  match s, codeSources c with
  | .any, _ => true
  | .none, none => true
  | .none, some _ => false
  | .num _, none => false
  | .num n, some m => decide (n < m)

def condFields (e : CondEntry) : Bool :=
  decide (e.slot ≤ 255) && isInt32 e.threshold && decide (e.hysteresis ≤ 2147483647) &&
    decide (e.mask ≤ 4294967295) && faultSourceOk e.code e.source && decide (e.onDelay ≤ 60000) &&
    decide (e.offDelay ≤ 60000) && optAtMost 95 e.gate

def telltaleFields (e : TelltaleEntry) : Bool := decide (e.condition ≤ 95) && optAtMost 7 e.chime

def chimeFields (e : ChimePattern) : Bool :=
  inRange 200 4000 e.tone && inRange 10 2000 e.onTime && inRange 10 2000 e.offTime && decide (e.repeats ≤ 255) &&
    decide (e.priority ≤ 7)

def doorFields (e : DoorEntry) : Bool :=
  decide (e.releaseSpeed ≤ 1000) && inRange 500 10000 e.openMax && inRange 500 10000 e.closeMax &&
    inRange 1 5 e.reversalLimit && optAtMost 7 e.closingChime && optAtMost 7 e.emergencyChime &&
    optAtMost 239 e.parkingBrake

/-- The confirm time of a code (R150 step 2). -/
def confirmOk (c : FaultCode) (ms : Nat) : Bool := if codeFixedZero c then ms = 0 else decide (ms ≤ 10000)

def generalFields (heal : Nat) (freeze : Vector (Option Nat) 6) : Bool :=
  inRange 1 255 heal && allUnits 6 fun k => optAtMost 255 freeze[k]

/-- R166 step 3. -/
def serviceFields (e : ServiceEntry) : Bool :=
  idOk e.format e.requestId && idOk e.format e.responseId && inRange 1 50 e.spacing

def systemFields (e : SystemEntry) : Bool :=
  inRange 20 1000 e.reportPeriod && inRange 100 5000 e.panelTimeout && inRange 1000 6000 e.bulbTime &&
    inRange 5 600 e.runOnTime && optAtMost 239 e.parkingBrake && optAtMost 7 e.stopChime &&
    allUnits 12 (fun k => decide (e.levels[k] ≤ 3)) && decide (e.threshold ≤ 3)

end Sys2Proof.Machine
end

