-- ==== Sys2Proof/Machine/Tables.lean ====
section
/-! DEFINITION. The tables: the checks and effects of each TABLE_WRITE, TABLE_READ (R191), and the START check
(R193). A write answers its result and the state after it; a refused write leaves the state as it was. -/

namespace Sys2Proof.Machine

/-- The result of a request and the state after it. -/
abbrev Outcome := Result × State

/-- A table is LOCKED in RUN (Table 10.5). -/
def State.locked (s : State) : Bool := s.isRun

/-! ### Writes -/

/-- PORT (R1, R2). -/
def writePort (index : Nat) (entry : Option PortEntry) (s : State) : Outcome :=
  match unit? 3 index with
  | none => (.badIndex, s)
  | some p =>
    if s.locked then (.locked, s)
    else match entry with
      | none => (.badField, s)
      | some e => if portFields e then (.ok, writePortEntry p e s) else (.badField, s)

/-- MATCH (R10). -/
def writeMatch (index : Nat) (entry : Option MatchEntry) (s : State) : Outcome :=
  match unit? 128 index with
  | none => (.badIndex, s)
  | some k =>
    if s.locked then (.locked, s)
    else match entry with
      | none => (.badField, s)
      | some e => if matchFields e then (.ok, writeMatchEntry k e s) else (.badField, s)

/-- A FRAME descriptor's bits lie within the minimum length of the entry it names (R26). -/
def State.frameFits (s : State) (e : SlotDesc) : Bool :=
  match vget? s.matchTable e.sourceEntry with
  | some m => fitsLength e m.entry.minLength
  | none => false

/-- SLOT (R25). -/
def writeSlot (index : Nat) (entry : Option SlotDesc) (s : State) : Outcome :=
  match unit? 240 index with
  | none => (.badIndex, s)
  | some k =>
    if s.locked then (.locked, s)
    else match entry with
      | none => (.badField, s)
      | some e =>
        if !slotFields e || !slotLimits e then (.badField, s)
        else if e.kind = .frame && !s.frameFits e then (.reference, s)
        else (.ok, stampSlot k (emptySlot k true { s with descs := vput s.descs k e }))

/-- SPEED (R54). -/
def writeSpeedEntry (index : Nat) (entry : Option SpeedEntry) (s : State) : Outcome :=
  if index ≠ 0 then (.badIndex, s)
  else if s.locked then (.locked, s)
  else match entry with
    | none => (.badField, s)
    | some e =>
      if speedFields e && speedSlots e then (.ok, clearResidues { s with speed := { s.speed with entry := e } })
      else (.badField, s)

/-- PULSE (R46). -/
def writePulse (index : Nat) (entry : Option PulseEntry) (s : State) : Outcome :=
  match unit? 4 index with
  | none => (.badIndex, s)
  | some k =>
    if s.locked then (.locked, s)
    else match entry with
      | none => (.badField, s)
      | some e => if pulseFields e then (.ok, putPulse k { s.pulses[k] with entry := e } s) else (.badField, s)

/-- Another INPUT entry already holds a function other than UNUSED and GENERIC (R113 step 4). -/
def State.functionHeld (s : State) (k : Fin 24) (f : InputFunction) : Bool :=
  f != .unused && f != .generic && anyUnit 24 fun j => j != k && s.inputs[j].entry.function = f

/-- INPUT (R113). -/
def writeInput (index : Nat) (entry : Option InputEntry) (s : State) : Outcome :=
  match unit? 24 index with
  | none => (.badIndex, s)
  | some k =>
    if s.locked then (.locked, s)
    else match entry with
      | none => (.badField, s)
      | some e =>
        if inputFields e && !s.functionHeld k e.function then (.ok, writeInputEntry k e s) else (.badField, s)

/-- OUTPUT (R116). -/
def writeOutput (index : Nat) (entry : Option OutputEntry) (s : State) : Outcome :=
  match unit? 16 index with
  | none => (.badIndex, s)
  | some k =>
    if s.locked then (.locked, s)
    else match entry with
      | none => (.badField, s)
      | some e =>
        if outputFields e && safetyOk index e then
          let u := { s.outputs[k] with entry := e, panelValue := false }
          (.ok, redrive { s with outputs := vput s.outputs k u })
        else (.badField, s)

/-- GAUGE (R67, R68). -/
def writeGauge (index : Nat) (entry : Option GaugeEntry) (s : State) : Outcome :=
  match unit? 6 index with
  | none => (.badIndex, s)
  | some g =>
    match entry with
    | none => (.badField, s)
    | some e =>
      if !gaugeFields e then (.badField, s)
      else if s.isRun && e.enabled && s.noSource e.source then (.reference, s)
      else (.ok, writeGaugeEntry g e s)

/-- The gate a condition entry names, if it names an entry of the table. -/
def State.gateOf (s : State) (e : CondEntry) : Option CondEntry :=
  match e.gate with
  | none => none
  | some g => (vget? s.conds g).map (·.entry)

/-- A condition reads a slot that has no source (R86, R87). -/
def State.readsNothing (s : State) (e : CondEntry) : Bool := e.comparator != .faultActive && s.noSource e.slot

/-- A condition's gate is not enabled. -/
def State.gateDisabled (s : State) (e : CondEntry) : Bool :=
  match s.gateOf e with
  | some g => !g.enabled
  | none => false

/-- The references of a CONDITION write hold (R86). -/
def State.condReferences (s : State) (c : Fin 96) (e : CondEntry) : Bool :=
  let selfGate := e.gate = some c.val
  let gatedGate := match s.gateOf e with
    | some g => g.gate.isSome
    | none => false
  let gatesOther := e.gate.isSome && anyUnit 96 fun d => d != c && s.conds[d].entry.gate = some c.val
  let inRun := s.isRun &&
    ((e.enabled && s.readsNothing e) || (e.enabled && s.gateDisabled e) ||
      (!e.enabled && anyUnit 96 fun d => d != c && s.conds[d].entry.enabled && s.conds[d].entry.gate = some c.val))
  !(selfGate || gatedGate || gatesOther || inRun)

/-- A taken CONDITION write: the condition falls to OFF, which is told if it was true, and is evaluated (R96). -/
def writeCondEntry (c : Fin 96) (e : CondEntry) (s : State) : State :=
  evaluate c (putCond c (CondUnit.clear { s.conds[c] with entry := e }) s)

/-- CONDITION (R85, R86). -/
def writeCondition (index : Nat) (entry : Option CondEntry) (s : State) : Outcome :=
  match unit? 96 index with
  | none => (.badIndex, s)
  | some c =>
    match entry with
    | none => (.badField, s)
    | some e =>
      if !condFields e then (.badField, s)
      else if s.condReferences c e then (.ok, writeCondEntry c e s) else (.reference, s)

/-- A taken TELLTALE write (R105): DARK with its request withdrawn, then lit anew if its condition is true. -/
def writeTelltaleEntry (t : Fin 64) (e : TelltaleEntry) (s : State) : State :=
  let s := setTelltale t .dark (withdrawRequest (telltaleRequester t) s)
  let s := redrive { s with telltales := vput s.telltales t { s.telltales[t] with entry := e } }
  match unit? 96 e.condition with
  | some c => if e.enabled && s.running && s.conds[c].isTrue then setTelltale t .litNew s else s
  | none => s

/-- TELLTALE (R98, R105). -/
def writeTelltale (index : Nat) (entry : Option TelltaleEntry) (s : State) : Outcome :=
  match unit? 64 index with
  | none => (.badIndex, s)
  | some t =>
    match entry with
    | none => (.badField, s)
    | some e => if telltaleFields e then (.ok, writeTelltaleEntry t e s) else (.badField, s)

/-- A taken CHIME write (R107): with a pending request that names the pattern, arbitration is redone, and a grant that
names it and stood before the write restarts. -/
def writeChimeEntry (p : Fin 8) (e : ChimePattern) (s : State) : State :=
  let before := s.chime.grant.map (·.requester)
  let s := { s with chime := { s.chime with patterns := vput s.chime.patterns p e } }
  if anyUnit 70 fun r => s.chime.pending[r] = some p.val then
    let s := arbitrate s
    match s.chime.grant with
    | some g =>
      if before = some g.requester ∧ s.chime.pending[g.requester] = some p.val then startGrant g.requester p.val s
      else s
    | none => s
  else s

/-- CHIME (R107). -/
def writeChime (index : Nat) (entry : Option ChimePattern) (s : State) : Outcome :=
  match unit? 8 index with
  | none => (.badIndex, s)
  | some p =>
    match entry with
    | none => (.badField, s)
    | some e => if chimeFields e then (.ok, writeChimeEntry p e s) else (.badField, s)

/-- DOOR (R124). -/
def writeDoor (index : Nat) (entry : Option DoorEntry) (s : State) : Outcome :=
  match unit? 4 index with
  | none => (.badIndex, s)
  | some d =>
    if s.locked then (.locked, s)
    else match entry with
      | none => (.badField, s)
      | some e => if doorFields e then (.ok, putDoor d { s.doors[d] with entry := e } s) else (.badField, s)

/-- FAULT_CFG (R150). The needed length depends on the entry, so an entry of the other kind has the wrong length
(R190, R191). -/
def writeFaultCfg (index : Nat) (entry : Option FaultCfgEntry) (s : State) : Outcome :=
  if 21 < index then (.badIndex, s)
  else match entry, unit? 21 index with
    | some (.code ms), some n =>
      if (allCodes[n.val]?).any fun c => confirmOk c ms then (.ok, setConfirmTime n ms s) else (.badField, s)
    | some (.general heal freeze), none =>
      if generalFields heal freeze then
        (.ok, { s with faults := { s.faults with healLimit := heal, freezeList := freeze } })
      else (.badField, s)
    | some _, _ => (.badLength, s)
    | none, _ => (.badField, s)

/-- SERVICE (R166). -/
def writeService (index : Nat) (entry : Option ServiceEntry) (s : State) : Outcome :=
  if index ≠ 0 then (.badIndex, s)
  else if s.locked then (.locked, s)
  else match entry with
    | none => (.badField, s)
    | some e =>
      if serviceFields e && e.responseId != e.requestId then (.ok, writeServiceEntry e s) else (.badField, s)

/-- SYSTEM (R192). -/
def writeSystem (index : Nat) (entry : Option SystemEntry) (s : State) : Outcome :=
  if index ≠ 0 then (.badIndex, s)
  else match entry with
    | none => (.badField, s)
    | some e => if systemFields e then (.ok, tellTest (decideAttn { s with system := e })) else (.badField, s)

/-! ### TABLE_READ (R191) -/

/-- The min and max of an internal slot (Table 2.6). -/
def internalLimits (k : Nat) : Int × Int :=
  match k with
  | 240 => (0, 30000)
  | 241 => (0, 2)
  | 244 => (0, 65535)
  | 245 => (0, 7)
  | 246 => (0, 7)
  | 247 => (0, 7)
  | 248 => (0, 7)
  | 252 => (0, 48)
  | 253 => (0, 42949672)
  | _ => (0, 1)

/-- The fixed descriptor of an internal slot (R40). -/
def internalDesc (k : Nat) : SlotDesc :=
  { SlotDesc.initial with min := (internalLimits k).1, max := (internalLimits k).2 }

/-- The descriptor a TABLE_READ of a slot returns. -/
def State.descOf (s : State) (k : Fin 256) : SlotDesc := (vget? s.descs k.val).getD (internalDesc k.val)

/-- The record of a door as it is returned (Table 7.2), its deadline as a ms stamp of the present time base, which is
the model's choice (assumption 52). -/
def State.doorRecord (s : State) (d : Fin 4) : DoorRecord :=
  let u := s.doors[d]
  { state := u.state, released := u.released, openCommand := u.openCommand, deadline := u.deadline.map s.msOf,
    reversals := u.reversals, cycles := u.cycles, obstructions := u.obstructions, refused := u.refused }

def Protection.name (p : Protection) : ProtectionName :=
  match p with
  | .normal => .normal
  | .retryWait _ => .retryWait
  | .lockedOut => .lockedOut

/-- The protection state of a lamp line, none for a relay line (R116, R122). -/
def State.protection? (s : State) (l : Fin 16) : Option ProtectionName :=
  (lampOf l).map fun k => s.lamps[k].protection.name

/-- The entry at an index as last written, followed by its dynamic state; none for an index out of range. -/
def State.entryData (s : State) (t : TableId) (index : Nat) : Option ResponseData :=
  match t with
  | .port => (unit? 3 index).map fun p => .portEntry s.ports[p].entry
  | .matchTable => (unit? 128 index).map fun e =>
      .matchEntry s.matchTable[e].entry s.matchTable[e].hits s.matchTable[e].shorts
  | .slot => (unit? 256 index).map fun k => .slotEntry (s.descOf k)
  | .speed => (unit? 1 index).map fun _ => .speedEntry s.speed.entry
  | .pulse => (unit? 4 index).map fun i => .pulseEntry s.pulses[i].entry
  | .input => (unit? 24 index).map fun l =>
      .inputEntry s.inputs[l].entry s.inputs[l].active s.inputs[l].pending.isSome
  | .output => (unit? 16 index).map fun l => .outputEntry s.outputs[l].entry s.outputs[l].on (s.protection? l)
  | .gauge => (unit? 6 index).map fun g => .gaugeEntry s.gauges[g].entry
  | .condition => (unit? 96 index).map fun c =>
      .conditionEntry s.conds[c].entry s.conds[c].state s.conds[c].comparison
  | .telltale => (unit? 64 index).map fun t =>
      .telltaleEntry s.telltales[t].entry s.telltales[t].state (s.presentation t)
  | .chime => (unit? 8 index).map fun p => .chimeEntry s.chime.patterns[p]
  | .door => (unit? 4 index).map fun d => .doorEntry s.doors[d].entry (s.doorRecord d)
  | .faultCfg =>
    match unit? 21 index with
    | some n => some (.faultCfgEntry (.code s.faults.confirm[n]))
    | none =>
      if index = 21 then some (.faultCfgEntry (.general s.faults.healLimit s.faults.freezeList)) else none
  | .service => (unit? 1 index).map fun _ => .serviceEntry s.service.entry
  | .system => (unit? 1 index).map fun _ => .systemEntry s.system

/-! ### The START check (R193) -/

/-- A set names a port whose record is not enabled. -/
def State.namesDisabled (s : State) (p : PortSet) : Bool := anyUnit 3 fun k => p.has k && !s.ports[k].entry.enabled

/-- R17. -/
def State.matchFails (s : State) (e : MatchEntry) : Bool :=
  e.enabled && (e.ports = PortSet.none || s.namesDisabled e.ports || s.namesDisabled e.forward.ports)

/-- A pulse mode equals a quantity. -/
def modeMeasures (m : PulseMode) (q : Quantity) : Bool :=
  match m, q with
  | .frequency, .frequency => true
  | .duty, .duty => true
  | _, _ => false

/-- R42. -/
def State.slotFails (s : State) (d : SlotDesc) : Bool :=
  match d.kind with
  | .none => false
  | .panel => false
  | .frame =>
    match vget? s.matchTable d.sourceEntry with
    | some m => !m.entry.enabled || !m.entry.decode || !fitsLength d m.entry.minLength
    | none => true
  | .pulse =>
    match vget? s.pulses d.pulse with
    | some u => !modeMeasures u.entry.mode d.quantity
    | none => true
  | .input =>
    match vget? s.inputs d.line with
    | some u => u.entry.function != .generic
    | none => true

/-- A slot that may be NONE names one whose descriptor has source kind NONE. -/
def State.optNoSource (s : State) (k : Option Nat) : Bool :=
  match k with
  | none => false
  | some k => s.noSource k

/-- R55. -/
def State.speedFails (s : State) : Bool :=
  s.optNoSource s.speed.entry.primary || s.optNoSource s.speed.entry.fallback ||
    (s.speed.entry.source = .pulseP0 && s.pulses[(0 : Fin 4)].entry.mode = .off)

/-- A source names a door whose DOOR entry is not enabled (R120). -/
def State.namesDisabledDoor (s : State) : LineSource → Bool
  | .doorRelease d => match vget? s.doors d with
    | some u => !u.entry.enabled
    | none => true
  | .doorOpen d => match vget? s.doors d with
    | some u => !u.entry.enabled
    | none => true
  | _ => false

/-- R120. -/
def State.outputFails (s : State) (e : OutputEntry) : Bool :=
  s.namesDisabledDoor e.source || s.namesDisabledDoor e.direct

/-- R69. -/
def State.gaugeFails (s : State) (e : GaugeEntry) : Bool := e.enabled && s.noSource e.source

/-- R87. -/
def State.condFails (s : State) (e : CondEntry) : Bool := e.enabled && (s.readsNothing e || s.gateDisabled e)

/-- Some input line holds a function of a door. -/
def State.hasFunction (s : State) (d : Fin 4) (f : DoorFunction) : Bool :=
  anyUnit 24 fun l => s.inputs[l].entry.function = .door f d.val

/-- R125. -/
def State.doorFails (s : State) (d : Fin 4) : Bool :=
  s.doors[d].entry.enabled &&
    (!s.hasFunction d .closed || !s.hasFunction d .locked || !s.hasFunction d .openEnd ||
      s.optNoSource s.doors[d].entry.parkingBrake)

/-- R167. -/
def State.serviceFails (s : State) : Bool := !s.ports[s.service.entry.port].entry.enabled

/-- The first failing entry of one table. -/
def failing (t : TableId) (n : Nat) (fails : Fin n → Bool) : Option (TableId × Nat) :=
  (firstUnit n fails).map fun k => (t, k.val)

/-- The START check: the first failing entry, in the order of R193. PORT, PULSE, INPUT, TELLTALE and CHIME entries
always pass. -/
def State.startCheck (s : State) : Option (TableId × Nat) :=
  (failing .matchTable 128 fun e => s.matchFails s.matchTable[e].entry) <|>
  (failing .slot 240 fun k => s.slotFails s.descs[k]) <|>
  (failing .speed 1 fun _ => s.speedFails) <|>
  (failing .output 16 fun l => s.outputFails s.outputs[l].entry) <|>
  (failing .gauge 6 fun g => s.gaugeFails s.gauges[g].entry) <|>
  (failing .condition 96 fun c => s.condFails s.conds[c].entry) <|>
  (failing .door 4 fun d => s.doorFails d) <|>
  (failing .service 1 fun _ => s.serviceFails)

end Sys2Proof.Machine
end

