-- ==== Sys2Proof/Machine/Wire.lean ====
section
/-! DEFINITION. The payloads of REQUEST frames (R185, R190, R191): how a request, and the entry of a TABLE_WRITE, is
spelled in bytes and read from them; and the CRC of a frame (R185). -/

namespace Sys2Proof.Machine

/-! ### The CRC -/

/-- One bit of the CRC: shift left, and the polynomial 0x1021 where a one leaves. -/
def crcBit (c : BitVec 16) : BitVec 16 := if c.msb then (c <<< 1) ^^^ 0x1021 else c <<< 1

/-- One byte, most significant bit first. -/
def crcByte (c : BitVec 16) (b : Byte) : BitVec 16 := times 8 crcBit (c ^^^ (b.setWidth 16 <<< 8))

/-- The CRC over bytes in the order sent (R185). -/
def crc16 (bytes : List Byte) : BitVec 16 := bytes.foldl crcByte 0xFFFF

/-- The CRC of a frame: over its type, tag, length and payload bytes. -/
def frameCrc (type tag : Byte) (payload : List Byte) : BitVec 16 :=
  crc16 (type :: tag :: byteOf payload.length :: payload)

/-! ### Fields -/

/-- How a field is carried: its bytes, and whether it is signed. -/
structure FieldSize where
  bytes : Nat
  signed : Bool

def u1 : FieldSize := { bytes := 1, signed := false }
def u2 : FieldSize := { bytes := 2, signed := false }
def u3 : FieldSize := { bytes := 3, signed := false }
def u4 : FieldSize := { bytes := 4, signed := false }
def s2 : FieldSize := { bytes := 2, signed := true }
def s4 : FieldSize := { bytes := 4, signed := true }

/-- The bytes of a list of fields. -/
def sizeOfFields (sizes : List FieldSize) : Nat := (sizes.map (·.bytes)).sum

/-- The number that `k` bytes spell, in two's complement where signed. -/
def readField (z : FieldSize) (bytes : List Byte) : Int :=
  let n := unbe bytes
  if z.signed ∧ 256 ^ z.bytes ≤ 2 * n then (n : Int) - (256 ^ z.bytes : Nat) else n

def encodeFields : List FieldSize → List Int → List Byte
  | z :: zs, v :: vs => beInt z.bytes v ++ encodeFields zs vs
  | _, _ => []

def decodeFields : List FieldSize → List Byte → List Int
  | [], _ => []
  | z :: zs, bytes => readField z (bytes.take z.bytes) :: decodeFields zs (bytes.drop z.bytes)

/-! ### Values of fields (R191) -/

/-- yes 1, no 0. -/
def yesField (b : Bool) : Int := if b then 1 else 0

def yes? (v : Int) : Option Bool :=
  match v with
  | 0 => some false
  | 1 => some true
  | _ => none

/-- NONE beside a numeric range, in a field of `k` bytes. -/
def optField (k : Nat) (n : Option Nat) : Int :=
  match n with
  | some n => n
  | none => (256 ^ k : Nat) - 1

def opt? (k : Nat) (v : Int) : Option Nat := if v = (256 ^ k : Nat) - 1 then none else some v.toNat

/-- The value of an enumeration at a position of its list. -/
def pick {α : Type} (values : List α) (v : Int) : Option α := if 0 ≤ v then values[v.toNat]? else none

/-- The position of a value in its list. -/
def place {α : Type} [DecidableEq α] (values : List α) (a : α) : Int := values.findIdx (· == a)

def bitRates : List BitRate := [.k125, .k250, .k500]
def defaultActions : List DefaultAction := [.drop, .panel]
def formats : List Format := [.base, .extended]
def sourceKinds : List SourceKind := [.none, .frame, .pulse, .input, .panel]
def byteOrders : List ByteOrder := [.little, .big]
def quantities : List Quantity := [.frequency, .duty]
def substitutions : List Substitution := [.hold, .default]
def distanceSources : List DistanceSource := [.pulseP0, .speedSlot]
def pulseModes : List PulseMode := [.off, .frequency, .duty]
def edgePolarities : List EdgePolarity := [.rising, .falling]
def inputPolarities : List InputPolarity := [.activeHigh, .activeLow]
def outputPolarities : List OutputPolarity := [.normal, .inverted]
def invalidActions : List InvalidAction := [.hold, .zero, .parkAt]
def comparators : List Comparator := [.above, .below, .equal, .notEqual, .anyBits, .notUsable, .faultActive]
def invalidPolicies : List InvalidPolicy := [.isFalse, .isTrue, .hold]
def telltaleClasses : List TelltaleClass := [.stop, .caution, .notice]
def showModes : List ShowMode := [.steady, .slowFlash, .fastFlash]
def doorActions : List DoorAction := [.release, .open_, .close]
def faultSelectors : List FaultSelector := [.list, .record, .latch, .live]
def tableIds : List TableId :=
  [.port, .matchTable, .slot, .speed, .pulse, .input, .output, .gauge, .condition, .telltale, .chime, .door,
   .faultCfg, .service, .system]

/-- A subset of N0, N1, N2, bit by bit. -/
def portSetField (p : PortSet) : Int := portSetNumber p

def portSet? (v : Int) : Option PortSet :=
  if 0 ≤ v ∧ v < 8 then some (portSetOf (BitVec.ofInt 8 v)) else none

/-- A subset of N0, N1, N2, PANEL, bit by bit. -/
def forwardSetField (f : ForwardSet) : Int := portSetNumber f.ports + if f.panel then 8 else 0

def forwardSet? (v : Int) : Option ForwardSet :=
  if 0 ≤ v ∧ v < 16 then
    some { ports := portSetOf (BitVec.ofInt 8 v), panel := (BitVec.ofInt 8 v).getLsbD 3 }
  else none

/-- An input function as its kind and its index (Table 6.3). -/
def inputFunctionFields : InputFunction → Int × Int
  | .unused => (0, 0)
  | .ackButton => (1, 0)
  | .stopRequest => (2, 0)
  | .generic => (3, 0)
  | .door .closed d => (4, d)
  | .door .locked d => (5, d)
  | .door .openEnd d => (6, d)
  | .door .obstruction d => (7, d)
  | .door .emergency d => (8, d)
  | .door .releaseRequest d => (9, d)
  | .door .openRequest d => (10, d)
  | .door .closeRequest d => (11, d)

def inputFunction? (kind index : Int) : Option InputFunction :=
  match kind with
  | 0 => if index = 0 then some .unused else none
  | 1 => if index = 0 then some .ackButton else none
  | 2 => if index = 0 then some .stopRequest else none
  | 3 => if index = 0 then some .generic else none
  | 4 => some (.door .closed index.toNat)
  | 5 => some (.door .locked index.toNat)
  | 6 => some (.door .openEnd index.toNat)
  | 7 => some (.door .obstruction index.toNat)
  | 8 => some (.door .emergency index.toNat)
  | 9 => some (.door .releaseRequest index.toNat)
  | 10 => some (.door .openRequest index.toNat)
  | 11 => some (.door .closeRequest index.toNat)
  | _ => none

/-- A source as its kind and its index (Table 6.5). -/
def lineSourceFields : LineSource → Int × Int
  | .off => (0, 0)
  | .on => (1, 0)
  | .telltale t => (2, t)
  | .condition c => (3, c)
  | .anyStopLit => (4, 0)
  | .doorRelease d => (5, d)
  | .doorOpen d => (6, d)
  | .drivePermit => (7, 0)
  | .stopBrakeRequest => (8, 0)
  | .chimeActive => (9, 0)
  | .panel => (10, 0)

def lineSource? (kind index : Int) : Option LineSource :=
  match kind with
  | 0 => if index = 0 then some .off else none
  | 1 => if index = 0 then some .on else none
  | 2 => some (.telltale index.toNat)
  | 3 => some (.condition index.toNat)
  | 4 => if index = 0 then some .anyStopLit else none
  | 5 => some (.doorRelease index.toNat)
  | 6 => some (.doorOpen index.toNat)
  | 7 => if index = 0 then some .drivePermit else none
  | 8 => if index = 0 then some .stopBrakeRequest else none
  | 9 => if index = 0 then some .chimeActive else none
  | 10 => if index = 0 then some .panel else none
  | _ => none

/-- A fault source in one byte: NONE 255, ANY 254. -/
def faultSourceField : FaultSource → Int
  | .none => 255
  | .any => 254
  | .num n => n

def faultSourceOf (v : Int) : FaultSource := if v = 255 then .none else if v = 254 then .any else .num v.toNat

/-- A port number as a port. -/
def port? (v : Int) : Option (Fin 3) := if 0 ≤ v then unit? 3 v.toNat else none

/-- A vector of `n` items from a list of that length. -/
def vector? {α : Type} (n : Nat) (l : List α) : Option (Vector α n) :=
  if h : l.length = n then some (Vector.mk l.toArray (by simpa using h)) else none

/-! ### Entries: sizes, fields, and back (R191) -/

def portSizes : List FieldSize := [u1, u1, u1, u1, u2, u2]

def portToFields (e : PortEntry) : List Int :=
  [yesField e.enabled, place bitRates e.bitRate, place defaultActions e.defaultAction, yesField e.wakeEnabled,
    e.maxAge, e.quietTime]

def portOfFields : List Int → Option PortEntry
  | [en, rate, action, wk, age, quiet] => do
    let enabled ← yes? en
    let bitRate ← pick bitRates rate
    let defaultAction ← pick defaultActions action
    let wakeEnabled ← yes? wk
    some { enabled, bitRate, defaultAction, wakeEnabled, maxAge := age.toNat, quietTime := quiet.toNat }
  | _ => none

def matchSizes : List FieldSize := [u1, u1, u1, u4, u4, u1, u1, u1, u2, u1]

def matchToFields (e : MatchEntry) : List Int :=
  [yesField e.enabled, portSetField e.ports, place formats e.format, e.id, e.mask, e.minLength, yesField e.decode,
    forwardSetField e.forward, e.timeout, yesField e.capture]

def matchOfFields : List Int → Option MatchEntry
  | [en, ps, fmt, id, mask, len, dec, fwd, timeout, cap] => do
    let enabled ← yes? en
    let ports ← portSet? ps
    let format ← pick formats fmt
    let decode ← yes? dec
    let forward ← forwardSet? fwd
    let capture ← yes? cap
    some { enabled, ports, format, id := id.toNat, mask := mask.toNat, minLength := len.toNat, decode, forward,
           timeout := timeout.toNat, capture }
  | _ => none

def slotSizes : List FieldSize :=
  [u1, u1, u1, u1, u1, u1, u1, u1, u1, u2, s2, u2, s4, s4, s4, u1, u1, s4, u1, u1]

def slotToFields (e : SlotDesc) : List Int :=
  [place sourceKinds e.kind, e.sourceEntry, e.startBit, e.length, place byteOrders e.order, yesField e.signed,
    e.pulse, place quantities e.quantity, e.line, e.panelTimeout, e.num, e.den, e.offset, e.min, e.max,
    yesField e.reserved, place substitutions e.policy, e.default, yesField e.rangeFault, yesField e.senderFault]

def slotOfFields : List Int → Option SlotDesc
  | [kd, entry, start, len, ord, sg, pl, qt, ln, timeout, num, den, offset, min, max, rs, pol, dflt, rf, sf] => do
    let kind ← pick sourceKinds kd
    let order ← pick byteOrders ord
    let signed ← yes? sg
    let quantity ← pick quantities qt
    let reserved ← yes? rs
    let policy ← pick substitutions pol
    let rangeFault ← yes? rf
    let senderFault ← yes? sf
    some { kind, sourceEntry := entry.toNat, startBit := start.toNat, length := len.toNat, order, signed,
           pulse := pl.toNat, quantity, line := ln.toNat, panelTimeout := timeout.toNat, num, den := den.toNat,
           offset, min, max, reserved, policy, default := dflt, rangeFault, senderFault }
  | _ => none

def speedSizes : List FieldSize := [u1, u1, u2, u1, u2, u2, u1, u2]

def speedToFields (e : SpeedEntry) : List Int :=
  [optField 1 e.primary, optField 1 e.fallback, e.mismatchLimit, e.mismatchPercent, e.mismatchTime, e.standstill,
    place distanceSources e.source, e.pulsesPerKm]

def speedOfFields : List Int → Option SpeedEntry
  | [p, f, limit, pct, time, still, src, ppk] => do
    let source ← pick distanceSources src
    some { primary := opt? 1 p, fallback := opt? 1 f, mismatchLimit := limit.toNat, mismatchPercent := pct.toNat,
           mismatchTime := time.toNat, standstill := still.toNat, source, pulsesPerKm := ppk.toNat }
  | _ => none

def pulseSizes : List FieldSize := [u1, u1, u2, u2, u2, u3, u3]

def pulseToFields (e : PulseEntry) : List Int :=
  [place pulseModes e.mode, place edgePolarities e.polarity, e.noise, e.gate, e.standstill, e.minPeriod, e.maxPeriod]

def pulseOfFields : List Int → Option PulseEntry
  | [md, pol, noise, gate, still, min, max] => do
    let mode ← pick pulseModes md
    let polarity ← pick edgePolarities pol
    some { mode, polarity, noise := noise.toNat, gate := gate.toNat, standstill := still.toNat,
           minPeriod := min.toNat, maxPeriod := max.toNat }
  | _ => none

def inputSizes : List FieldSize := [u1, u1, u1, u2]

def inputToFields (e : InputEntry) : List Int :=
  [(inputFunctionFields e.function).1, (inputFunctionFields e.function).2, place inputPolarities e.polarity,
    e.debounce]

def inputOfFields : List Int → Option InputEntry
  | [kind, index, pol, deb] => do
    let function ← inputFunction? kind index
    let polarity ← pick inputPolarities pol
    some { function, polarity, debounce := deb.toNat }
  | _ => none

def outputSizes : List FieldSize := [u1, u1, u1, u1, u1]

def outputToFields (e : OutputEntry) : List Int :=
  [(lineSourceFields e.source).1, (lineSourceFields e.source).2, place outputPolarities e.polarity,
    (lineSourceFields e.direct).1, (lineSourceFields e.direct).2]

def outputOfFields : List Int → Option OutputEntry
  | [kind, index, pol, dkind, dindex] => do
    let source ← lineSource? kind index
    let polarity ← pick outputPolarities pol
    let direct ← lineSource? dkind dindex
    some { source, polarity, direct }
  | _ => none

def gaugeSizes : List FieldSize :=
  [u1, u1, u2, u1] ++ (List.replicate 16 [s4, u2]).flatten ++ [u1, u1, u1, u2]

def gaugeToFields (e : GaugeEntry) : List Int :=
  [yesField e.enabled, e.source, e.fullScale, e.pointCount] ++
    e.points.toArray.toList.flatMap (fun p => [p.1, (p.2 : Int)]) ++
    [(e.slew : Int), e.deadband, place invalidActions e.action, e.parkPosition]

/-- `k` points, and the fields after them. -/
def pointsOfFields : Nat → List Int → Option (List (Int × Nat) × List Int)
  | 0, rest => some ([], rest)
  | k + 1, x :: y :: rest => do
    let r ← pointsOfFields k rest
    some ((x, y.toNat) :: r.1, r.2)
  | _, _ => none

def gaugeOfFields : List Int → Option GaugeEntry
  | en :: src :: full :: count :: rest => do
    let enabled ← yes? en
    let r ← pointsOfFields 16 rest
    let points ← vector? 16 r.1
    match r.2 with
    | [slew, dead, act, park] => do
      let action ← pick invalidActions act
      some { enabled, source := src.toNat, fullScale := full.toNat, pointCount := count.toNat, points,
             slew := slew.toNat, deadband := dead.toNat, action, parkPosition := park.toNat }
    | _ => none
  | _ => none

def condSizes : List FieldSize := [u1, u1, u1, s4, u4, u4, u1, u1, u2, u2, u1, u1]

def condToFields (e : CondEntry) : List Int :=
  [yesField e.enabled, e.slot, place comparators e.comparator, e.threshold, e.hysteresis, e.mask,
    (codeNumber e.code).val, faultSourceField e.source, e.onDelay, e.offDelay, optField 1 e.gate,
    place invalidPolicies e.policy]

def condOfFields : List Int → Option CondEntry
  | [en, slot, cmp, thr, hys, mask, cd, src, on, off, gate, pol] => do
    let enabled ← yes? en
    let comparator ← pick comparators cmp
    let code ← pick allCodes cd
    let policy ← pick invalidPolicies pol
    some { enabled, slot := slot.toNat, comparator, threshold := thr, hysteresis := hys.toNat, mask := mask.toNat,
           code, source := faultSourceOf src, onDelay := on.toNat, offDelay := off.toNat, gate := opt? 1 gate,
           policy }
  | _ => none

def telltaleSizes : List FieldSize := [u1, u1, u1, u1, u1, u1, u1]

def telltaleToFields (e : TelltaleEntry) : List Int :=
  [yesField e.enabled, e.condition, place telltaleClasses e.cls, place showModes e.show_, yesField e.latch,
    optField 1 e.chime, yesField e.bulbCheck]

def telltaleOfFields : List Int → Option TelltaleEntry
  | [en, cond, cl, sh, la, chime, bulb] => do
    let enabled ← yes? en
    let cls ← pick telltaleClasses cl
    let show_ ← pick showModes sh
    let latch ← yes? la
    let bulbCheck ← yes? bulb
    some { enabled, condition := cond.toNat, cls, show_, latch, chime := opt? 1 chime, bulbCheck }
  | _ => none

def chimeSizes : List FieldSize := [u2, u2, u2, u1, u1]

def chimeToFields (e : ChimePattern) : List Int := [e.tone, e.onTime, e.offTime, e.repeats, e.priority]

def chimeOfFields : List Int → Option ChimePattern
  | [tone, on, off, repeats, priority] =>
    some { tone := tone.toNat, onTime := on.toNat, offTime := off.toNat, repeats := repeats.toNat,
           priority := priority.toNat }
  | _ => none

def doorSizes : List FieldSize := [u1, u2, u2, u2, u1, u1, u1, u1, u1]

def doorToFields (e : DoorEntry) : List Int :=
  [yesField e.enabled, e.releaseSpeed, e.openMax, e.closeMax, e.reversalLimit, optField 1 e.closingChime,
    optField 1 e.emergencyChime, optField 1 e.parkingBrake, yesField e.autoClose]

def doorOfFields : List Int → Option DoorEntry
  | [en, rel, op, cl, rev, cc, ec, brake, auto] => do
    let enabled ← yes? en
    let autoClose ← yes? auto
    some { enabled, releaseSpeed := rel.toNat, openMax := op.toNat, closeMax := cl.toNat,
           reversalLimit := rev.toNat, closingChime := opt? 1 cc, emergencyChime := opt? 1 ec,
           parkingBrake := opt? 1 brake, autoClose }
  | _ => none

def codeSizes : List FieldSize := [u2]

def generalSizes : List FieldSize := [u1, u2, u2, u2, u2, u2, u2]

def faultCfgToFields : FaultCfgEntry → List Int
  | .code ms => [(ms : Int)]
  | .general heal freeze => (heal : Int) :: freeze.toArray.toList.map (optField 2)

def codeOfFields : List Int → Option FaultCfgEntry
  | [ms] => some (.code ms.toNat)
  | _ => none

def generalOfFields : List Int → Option FaultCfgEntry
  | heal :: freeze => (vector? 6 (freeze.map (opt? 2))).map fun f => .general heal.toNat f
  | [] => none

def serviceSizes : List FieldSize := [u1, u1, u4, u4, u1]

def serviceToFields (e : ServiceEntry) : List Int :=
  [(e.port.val : Int), place formats e.format, e.requestId, e.responseId, e.spacing]

def serviceOfFields : List Int → Option ServiceEntry
  | [p, fmt, req, rsp, spacing] => do
    let port ← port? p
    let format ← pick formats fmt
    some { port, format, requestId := req.toNat, responseId := rsp.toNat, spacing := spacing.toNat }
  | _ => none

def systemSizes : List FieldSize := [u2, u2, u2, u2, u1, u1] ++ List.replicate 12 u1 ++ [u1]

def systemToFields (e : SystemEntry) : List Int :=
  [(e.reportPeriod : Int), e.panelTimeout, e.bulbTime, e.runOnTime, optField 1 e.parkingBrake, optField 1 e.stopChime]
    ++ e.levels.toArray.toList.map (fun n => (n : Int)) ++ [(e.threshold : Int)]

def systemOfFields : List Int → Option SystemEntry
  | rp :: pt :: bt :: ro :: pb :: sc :: rest => do
    let levels ← vector? 12 ((rest.take 12).map Int.toNat)
    match rest.drop 12 with
    | [threshold] =>
      some { reportPeriod := rp.toNat, panelTimeout := pt.toNat, bulbTime := bt.toNat, runOnTime := ro.toNat,
             parkingBrake := opt? 1 pb, stopChime := opt? 1 sc, levels, threshold := threshold.toNat }
    | _ => none
  | _ => none

/-! ### TABLE_WRITE payloads -/

/-- An entry part of the right size becomes the write; another size is BAD_LENGTH (R191). -/
def readEntry {α : Type} (sizes : List FieldSize) (ofFields : List Int → Option α) (make : Option α → Request)
    (bytes : List Byte) : Request :=
  if bytes.length = sizeOfFields sizes then make (ofFields (decodeFields sizes bytes)) else .badLength 1

/-- A TABLE_WRITE with a known table, its index and its entry part. -/
def readWrite (t : TableId) (index : Nat) (bytes : List Byte) : Request :=
  match t with
  | .port => readEntry portSizes portOfFields (.tableWritePort index) bytes
  | .matchTable => readEntry matchSizes matchOfFields (.tableWriteMatch index) bytes
  | .slot => readEntry slotSizes slotOfFields (.tableWriteSlot index) bytes
  | .speed => readEntry speedSizes speedOfFields (.tableWriteSpeed index) bytes
  | .pulse => readEntry pulseSizes pulseOfFields (.tableWritePulse index) bytes
  | .input => readEntry inputSizes inputOfFields (.tableWriteInput index) bytes
  | .output => readEntry outputSizes outputOfFields (.tableWriteOutput index) bytes
  | .gauge => readEntry gaugeSizes gaugeOfFields (.tableWriteGauge index) bytes
  | .condition => readEntry condSizes condOfFields (.tableWriteCondition index) bytes
  | .telltale => readEntry telltaleSizes telltaleOfFields (.tableWriteTelltale index) bytes
  | .chime => readEntry chimeSizes chimeOfFields (.tableWriteChime index) bytes
  | .door => readEntry doorSizes doorOfFields (.tableWriteDoor index) bytes
  | .faultCfg =>
    if 21 < index then .tableWriteFaultCfg index none
    else if index = 21 then readEntry generalSizes generalOfFields (.tableWriteFaultCfg index) bytes
    else readEntry codeSizes codeOfFields (.tableWriteFaultCfg index) bytes
  | .service => readEntry serviceSizes serviceOfFields (.tableWriteService index) bytes
  | .system => readEntry systemSizes systemOfFields (.tableWriteSystem index) bytes

/-- The parameters of a TABLE_WRITE: the table identifier is judged before the length (R191). -/
def parseWrite : List Byte → Request
  | [] => .badLength 1
  | t :: rest =>
    match tableIds[t.toNat]? with
    | none => .badTable 1
    | some t =>
      match rest with
      | [] => .badLength 1
      | index :: entry => readWrite t index.toNat entry

/-- The parameters of a TABLE_READ. -/
def parseRead : List Byte → Request
  | [] => .badLength 2
  | t :: rest =>
    match tableIds[t.toNat]? with
    | none => .badTable 2
    | some t =>
      match rest with
      | [index] => .tableRead t index.toNat
      | _ => .badLength 2

/-- The parameters of a TX_FRAME: the needed length depends on the frame length it carries (R190). -/
def parseTx : List Byte → Request
  | port :: format :: a :: b :: c :: d :: len :: data =>
    if data.length = len.toNat then .txFrame port.toNat format.toNat (unbe [a, b, c, d]) data else .badLength 0x14
  | _ => .badLength 0x14

/-- The request that a request code and its parameters spell (Table 10.4, R190 steps 1 and 2). The byte widths of the
parameters are the model's choice but for the label of START and the set of FLAGS_CLEAR (assumption 51). -/
def parseCode (code : Nat) (p : List Byte) : Request :=
  match code, p with
  | 0x01, p => parseWrite p
  | 0x02, p => parseRead p
  | 0x03, [a, b, c, d] => .start (BitVec.ofNat 32 (unbe [a, b, c, d]))
  | 0x04, [] => .stop
  | 0x05, [] => .statusRead
  | 0x06, [a, b] => .flagsClear (BitVec.ofNat 16 (unbe [a, b]))
  | 0x07, [g, f, c] => .counterRead g.toNat f.toNat c.toNat
  | 0x08, [] => .heartbeat
  | 0x09, [] => .restart
  | 0x0A, [] => .wake
  | 0x10, [k, a, b, c, d] => .signalWrite k.toNat (readField s4 [a, b, c, d])
  | 0x11, [k] => .signalRead k.toNat
  | 0x12, [] => .distanceRead
  | 0x13, [a, b, c, d] => .odometerSet (unbe [a, b, c, d])
  | 0x14, p => parseTx p
  | 0x20, [d, a] => .doorRequest d.toNat (pick doorActions a.toNat)
  | 0x21, [] => .warningAck
  | 0x22, [k] => .chime k.toNat
  | 0x23, [] => .chimeStop
  | 0x24, [l, v] => .outputSet l.toNat v.toNat
  | 0x30, [k, n] => .faultRead (pick faultSelectors k.toNat) n.toNat
  | 0x31, [] => .faultClear
  | c, _ =>
    if c ∈ [0x03, 0x04, 0x05, 0x06, 0x07, 0x08, 0x09, 0x0A, 0x10, 0x11, 0x12, 0x13, 0x20, 0x21, 0x22, 0x23, 0x24,
        0x30, 0x31] then .badLength c
    else .badRequest c

/-- The request that a payload spells (R190 step 1). -/
def parseRequest : List Byte → Request
  | [] => .badRequest 0
  | code :: p => parseCode code.toNat p

/-! ### The payload of a request -/

/-- The payload of a TABLE_WRITE. -/
def writePayload (t : TableId) (index : Nat) (sizes : List FieldSize) (fields : List Int) : List Byte :=
  1 :: byteOf (tableIds.findIdx (· == t)) :: byteOf index :: encodeFields sizes fields

/-- The payload that spells a request; none for a request that only a malformed payload spells. -/
def requestPayload : Request → Option (List Byte)
  | .badRequest _ => none
  | .badLength _ => none
  | .badTable _ => none
  | .tableWritePort i e => e.map fun e => writePayload .port i portSizes (portToFields e)
  | .tableWriteMatch i e => e.map fun e => writePayload .matchTable i matchSizes (matchToFields e)
  | .tableWriteSlot i e => e.map fun e => writePayload .slot i slotSizes (slotToFields e)
  | .tableWriteSpeed i e => e.map fun e => writePayload .speed i speedSizes (speedToFields e)
  | .tableWritePulse i e => e.map fun e => writePayload .pulse i pulseSizes (pulseToFields e)
  | .tableWriteInput i e => e.map fun e => writePayload .input i inputSizes (inputToFields e)
  | .tableWriteOutput i e => e.map fun e => writePayload .output i outputSizes (outputToFields e)
  | .tableWriteGauge i e => e.map fun e => writePayload .gauge i gaugeSizes (gaugeToFields e)
  | .tableWriteCondition i e => e.map fun e => writePayload .condition i condSizes (condToFields e)
  | .tableWriteTelltale i e => e.map fun e => writePayload .telltale i telltaleSizes (telltaleToFields e)
  | .tableWriteChime i e => e.map fun e => writePayload .chime i chimeSizes (chimeToFields e)
  | .tableWriteDoor i e => e.map fun e => writePayload .door i doorSizes (doorToFields e)
  | .tableWriteFaultCfg i e => e.map fun e =>
      writePayload .faultCfg i (if i = 21 then generalSizes else codeSizes) (faultCfgToFields e)
  | .tableWriteService i e => e.map fun e => writePayload .service i serviceSizes (serviceToFields e)
  | .tableWriteSystem i e => e.map fun e => writePayload .system i systemSizes (systemToFields e)
  | .tableRead t i => some [2, byteOf (tableIds.findIdx (· == t)), byteOf i]
  | .start l => some (3 :: be 4 l.toNat)
  | .stop => some [4]
  | .statusRead => some [5]
  | .flagsClear f => some (6 :: be 2 f.toNat)
  | .counterRead g f c => some [7, byteOf g, byteOf f, byteOf c]
  | .heartbeat => some [8]
  | .restart => some [9]
  | .wake => some [0x0A]
  | .signalWrite k v => some (0x10 :: byteOf k :: beInt 4 v)
  | .signalRead k => some [0x11, byteOf k]
  | .distanceRead => some [0x12]
  | .odometerSet m => some (0x13 :: be 4 m)
  | .txFrame p f i d => some ([0x14, byteOf p, byteOf f] ++ be 4 i ++ byteOf d.length :: d)
  | .doorRequest d a => a.map fun a => [0x20, byteOf d, byteOf (doorActions.findIdx (· == a))]
  | .warningAck => some [0x21]
  | .chime p => some [0x22, byteOf p]
  | .chimeStop => some [0x23]
  | .outputSet l v => some [0x24, byteOf l, byteOf v]
  | .faultRead k n => k.map fun k => [0x30, byteOf (faultSelectors.findIdx (· == k)), byteOf n]
  | .faultClear => some [0x31]

end Sys2Proof.Machine
end

