-- ==== Sys2Proof/Machine/Link.lean ====
section
/-! DEFINITION. The frames of the panel link as bytes (R185, Table 10.1, Table 10.2): the receiver that finds frames in
the byte stream; the numbers of the results (Table 10.3) and the bytes of the data of a RESPONSE (R165, R190, R191,
R195); and the layout of every frame the part sends. Where the manual names the fields of a response's data and not
their bytes, the layout is the model's choice (assumption 6). -/

namespace Sys2Proof.Machine

/-! ### The layout of a frame (Table 10.1) -/

/-- A frame on the link: start byte, type, tag, length, payload, CRC most significant byte first. -/
def frameBytes (type tag : Byte) (payload : List Byte) (crc : BitVec 16) : List Byte :=
  0xA5 :: type :: tag :: byteOf payload.length :: (payload ++ be 2 crc.toNat)

/-! ### The receiver (R185) -/

/-- What a byte can bring about in the receiver: a complete frame, or a length above 120. -/
inductive Reception
  | frame (type tag : Byte) (payload : List Byte) (crc : BitVec 16)
  | tooLong (length : Byte)
deriving DecidableEq, Repr

/-- The bytes of a frame after its start byte, once they are its type, tag, length, payload and CRC. -/
def completeFrame (bytes : List Byte) : Option Reception :=
  match bytes with
  | type :: tag :: length :: rest =>
    if rest.length = length.toNat + 2 then
      some (.frame type tag (rest.take length.toNat) (BitVec.ofNat 16 (unbe (rest.drop length.toNat))))
    else none
  | _ => none

/-- The length byte that ends a frame at once. -/
def overLength (bytes : List Byte) : Option Reception :=
  match bytes with
  | [_, _, length] => if 120 < length.toNat then some (.tooLong length) else none
  | _ => none

/-- The receiver takes one byte (R185): between frames every byte but 0xA5 is ignored; within a frame the byte joins
it, and a length above 120 or the second CRC byte ends it. -/
def Receiver.take (r : Receiver) (b : Byte) : Receiver × Option Reception :=
  match r with
  | .waiting => (if b = 0xA5 then .inFrame [] else .waiting, none)
  | .inFrame bytes =>
    match overLength (bytes ++ [b]) <|> completeFrame (bytes ++ [b]) with
    | some e => (.waiting, some e)
    | none => (.inFrame (bytes ++ [b]), none)

/-- The receiver takes bytes in the order sent: its state after them, and what they brought about. -/
def Receiver.takeAll : Receiver → List Byte → Receiver × List Reception
  | r, [] => (r, [])
  | r, b :: rest =>
    let t := (r.take b).1.takeAll rest
    (t.1, (r.take b).2.toList ++ t.2)

/-- The receiver waits for the next start byte: after a complete frame, a length above 120 or a gap (R185). -/
def awaitStart (s : State) : State := { s with link := { s.link with receiver := .waiting } }

/-! ### Numbers and bytes of a RESPONSE -/

/-- Table 10.3. -/
def Result.number (r : Result) : Nat :=
  match r with
  | .ok => 0
  | .badRequest => 1
  | .badLength => 2
  | .badTable => 3
  | .badIndex => 4
  | .badField => 5
  | .reference => 6
  | .locked => 7
  | .wrongMode => 8
  | .checkFailed => 9
  | .queueFull => 10
  | .notNow => 11

/-- R195. -/
def PortState.number (p : PortState) : Nat :=
  match p with
  | .disabled => 0
  | .online => 1
  | .passive => 2
  | .off => 3

/-- The states of Table 5.4, by position. -/
def CondState.number (c : CondState) : Nat :=
  match c with
  | .off => 0
  | .arming => 1
  | .on => 2
  | .releasing => 3

/-- The states of Table 5.7, by position. -/
def TelltaleState.number (t : TelltaleState) : Nat :=
  match t with
  | .dark => 0
  | .litNew => 1
  | .litAcked => 2
  | .latched => 3

def ProtectionName.number (p : ProtectionName) : Nat :=
  match p with
  | .normal => 0
  | .retryWait => 1
  | .lockedOut => 2

/-- STOP, CAUTION, NOTICE, or NONE, by position (R101). -/
def classNumber (c : Option TelltaleClass) : Nat :=
  match c with
  | some .stop => 0
  | some .caution => 1
  | some .notice => 2
  | none => 3

/-- The identifier of a table (Table 10.5). -/
def tableNumber (t : TableId) : Nat := tableIds.findIdx (· == t)

/-- The data of STATUS_READ (R195). -/
def StatusData.bytes (d : StatusData) : List Byte :=
  [boolByte d.mode, boolByte d.direct] ++ be 4 d.label.toNat ++
  d.ports.flatMap (fun p => [byteOf p.1.number, boolByte p.2]) ++
  be 2 d.flags.toNat ++ [boolByte d.attn, byteOf d.live, byteOf d.ingress, byteOf d.egress]

/-- A slot record with its index (Table 2.3, R28). -/
def slotRecordBytes (index : Nat) (r : SlotRec) : List Byte :=
  byteOf index :: beInt 4 r.value ++ [byteOf r.state.number] ++ beInt 4 r.raw ++ [boolByte r.clamped] ++
  be 2 r.clampCount ++ be 4 r.lastChange

/-- A door record (Table 7.2); a deadline of none is sent as the largest number of its four bytes. -/
def DoorRecord.bytes (r : DoorRecord) : List Byte :=
  [byteOf r.state.code, boolByte r.released, boolByte r.openCommand] ++ be 4 (r.deadline.getD 4294967295) ++
  [byteOf r.reversals] ++ be 4 r.cycles ++ be 4 r.obstructions ++ be 4 r.refused

/-- A fault record (Table 8.3), as READ_FAULT_RECORD sends it but for the position (Table 9.4). -/
def FaultRecord.bytes (r : FaultRecord) : List Byte := (recordBytes 0 r).drop 1

/-- The empty mark of R165. -/
def emptyMark : List Byte := [255]

/-- The bytes of the data of a RESPONSE: an entry as R191 carries it, followed by its dynamic state; counters in 4
bytes each (R195); the fault reading of R165 as Table 9.4 sends it. -/
def ResponseData.bytes (d : ResponseData) : List Byte :=
  match d with
  | .none => []
  | .checkFailed t i => [byteOf (tableNumber t), byteOf i]
  | .portEntry e => encodeFields portSizes (portToFields e)
  | .matchEntry e hits shorts => encodeFields matchSizes (matchToFields e) ++ be 4 hits ++ be 4 shorts
  | .slotEntry e => encodeFields slotSizes (slotToFields e)
  | .speedEntry e => encodeFields speedSizes (speedToFields e)
  | .pulseEntry e => encodeFields pulseSizes (pulseToFields e)
  | .inputEntry e active pending => encodeFields inputSizes (inputToFields e) ++ [boolByte active, boolByte pending]
  | .outputEntry e on protection =>
    encodeFields outputSizes (outputToFields e) ++ boolByte on :: (protection.map fun p => byteOf p.number).toList
  | .gaugeEntry e => encodeFields gaugeSizes (gaugeToFields e)
  | .conditionEntry e state cmp => encodeFields condSizes (condToFields e) ++ [byteOf state.number, boolByte cmp]
  | .telltaleEntry e state p =>
    encodeFields telltaleSizes (telltaleToFields e) ++ [byteOf state.number, byteOf p.number]
  | .chimeEntry e => encodeFields chimeSizes (chimeToFields e)
  | .doorEntry e r => encodeFields doorSizes (doorToFields e) ++ r.bytes
  | .faultCfgEntry (.code ms) => encodeFields codeSizes (faultCfgToFields (.code ms))
  | .faultCfgEntry (.general heal freeze) => encodeFields generalSizes (faultCfgToFields (.general heal freeze))
  | .serviceEntry e => encodeFields serviceSizes (serviceToFields e)
  | .systemEntry e => encodeFields systemSizes (systemToFields e)
  | .status d => d.bytes
  | .flags f => be 2 f.toNat
  | .counters values => values.flatMap (be 4)
  | .matchCounters first count values => [byteOf first, byteOf count] ++ values.flatMap (be 4)
  | .stored v => beInt 4 v
  | .slotRecord index r => slotRecordBytes index r
  | .distance delta metres => be 4 delta ++ be 4 metres
  | .total metres => be 4 metres
  | .door state released open_ => [byteOf state.code, boolByte released, boolByte open_]
  | .acknowledged c count => [byteOf (classNumber c), byteOf count]
  | .granted r => [sourceByte (r.map (·.val))]
  | .drive on => [boolByte on]
  | .faultList items overflow =>
    items.flatMap (fun i => [byteOf i.position, byteOf (codeNumber i.code).val, sourceByte i.source,
      boolByte i.active, byteOf i.occurrences]) ++ be 2 overflow
  | .faultRecord record => match record with
    | Option.none => emptyMark
    | some r => r.bytes
  | .firstFault latch => match latch with
    | Option.none => emptyMark
    | some f => [byteOf (codeNumber f.code).val, sourceByte f.source] ++ be 4 f.distance ++ be 2 f.cycle
  | .liveFaults items overflow =>
    items.flatMap (fun i => [byteOf (codeNumber i.code).val, sourceByte i.source] ++ be 4 i.since ++
      [boolByte i.confirmed]) ++ be 2 overflow
  | .removed count => [byteOf count]

/-! ### The frames the part sends -/

/-- The type of a frame (Table 10.1). -/
def EgressFrame.type (f : EgressFrame) : Byte :=
  match f with
  | .response _ _ _ _ => 2
  | .report _ _ => 3
  | .forward _ _ _ => 4

def EgressFrame.tag (f : EgressFrame) : Byte :=
  match f with
  | .response tag _ _ _ => tag
  | .report tag _ => tag
  | .forward tag _ _ => tag

/-- The payload of a frame (Table 10.2). -/
def EgressFrame.payload (f : EgressFrame) : List Byte :=
  match f with
  | .response _ code result data => byteOf code :: byteOf result.number :: data.bytes
  | .report _ r => r.payload
  | .forward _ p f => forwardPayload p f

/-- The bytes sent for a frame (Table 10.1). A RESPONSE that exceeds the payload length is sent as the manual leaves
open (assumption 50). -/
def EgressFrame.bytes (f : EgressFrame) : List Byte :=
  if f.payload.length ≤ 120 then frameBytes f.type f.tag f.payload (frameCrc f.type f.tag f.payload)
  else Config.overlong f.payload

/-- What the link sends now: the bytes of the head of the egress queue, while the part is ACTIVE and not held in reset
(R188, R206). -/
def State.sending (s : State) : Option (List Byte) :=
  if s.isActive && !s.resetLow then s.link.egress.head?.map EgressFrame.bytes else none

end Sys2Proof.Machine
end

