-- ==== Sys2Proof/Machine/Requests.lean ====
section
/-! DEFINITION. What each management request does when it is served while the part is ACTIVE (R190 to R196, and the
rule of each request): its result, the data of its response, and the state after it. A refused request leaves the
state as it was, but for the counters its rule names. -/

namespace Sys2Proof.Machine

/-- The outcome of a served request. -/
structure Served where
  result : Result
  data : ResponseData
  after : State

/-- A refusal, which carries no data. -/
def refuse (r : Result) (s : State) : Served := { result := r, data := .none, after := s }

/-- OK with data. -/
def accept (d : ResponseData) (s : State) : Served := { result := .ok, data := d, after := s }

/-- A TABLE_WRITE carries no data in its response. -/
def tableWritten (o : Outcome) : Served := { result := o.1, data := .none, after := o.2 }

/-- TABLE_READ (R191). -/
def serveTableRead (t : TableId) (index : Nat) (s : State) : Served :=
  match s.entryData t index with
  | some d => accept d s
  | none => refuse .badIndex s

/-- START (R193). -/
def serveStart (label : BitVec 32) (s : State) : Served :=
  if s.isRun then refuse .wrongMode s
  else match s.startCheck with
    | some (t, index) => { result := .checkFailed, data := .checkFailed t index, after := s }
    | none => accept .none (takeStart label s)

/-- STOP (R194). -/
def serveStop (s : State) : Served := if s.isRun then accept .none (takeStop s) else refuse .wrongMode s

/-- The data of a STATUS_READ (R195). -/
def State.status (s : State) : StatusData :=
  { mode := s.isRun, direct := s.direct, label := s.label,
    ports := s.ports.toArray.toList.map fun u => (u.state, u.activity),
    flags := s.flags, attn := s.attn, live := s.faults.live.length,
    ingress := s.link.ingress.length, egress := s.link.egress.length }

/-- STATUS_READ: the activity indications it reports are cleared (R7). -/
def serveStatus (s : State) : Served :=
  accept (.status s.status) { s with ports := vmap (fun u => { u with activity := false }) s.ports }

/-- FLAGS_CLEAR (R199). -/
def serveFlagsClear (set : BitVec 16) (s : State) : Served :=
  if set.extractLsb' 12 4 ≠ 0 then refuse .badField s
  else
    let s := decideAttn { s with flags := s.flags &&& ~~~(set.setWidth 12) }
    accept (.flags s.flags) s

/-- COUNTER_READ (Table 10.6a). -/
def serveCounters (group first count : Nat) (s : State) : Served :=
  match group with
  | 0 => accept (.counters s.portCounters) s
  | 1 =>
    if count = 0 ∨ 14 < count ∨ 128 < first + count then refuse .badField s
    else accept (.matchCounters first count (s.matchCounters first count)) s
  | 2 => accept (.counters s.doorCounters) s
  | 3 => accept (.counters [s.service.served, s.service.completed, s.service.abandoned]) s
  | 4 => accept (.counters [s.link.receiveErrors, s.link.ingressOverflow, s.link.forwardDrops, s.link.reportOverrun,
      s.link.linkLosses]) s
  | 5 => accept (.counters [s.faults.liveOverflow, s.faults.memoryOverflow]) s
  | _ => refuse .badField s

/-- RESTART: answered OK; the restart awaits its response's departure (R196). -/
def serveRestart (s : State) : Served := accept .none { s with link := { s.link with restarting := true } }

/-- SIGNAL_WRITE (R37). -/
def serveSignalWrite (slot : Nat) (v : Int) (s : State) : Served :=
  if !s.isRun then refuse .wrongMode s
  else match unit? 240 slot with
    | none => refuse .badIndex s
    | some k =>
      if s.descs[k].kind = .panel then
        accept (.stored (limited s.descs[k] v)) (signalWritten k v s)
      else refuse .badIndex s

/-- SIGNAL_READ (R28). -/
def serveSignalRead (slot : Nat) (s : State) : Served :=
  match unit? 256 slot with
  | none => refuse .badIndex s
  | some k => accept (.slotRecord slot s.slots[k]) s

/-- DISTANCE_READ (R64). -/
def serveDistance (s : State) : Served :=
  accept (.distance s.speed.delta s.speed.total) { s with speed := { s.speed with delta := 0 } }

/-- The largest last distance among the records, none while fault memory is empty. -/
def State.largestDistance (s : State) : Option Nat :=
  s.faults.memory.toArray.toList.foldl
    (fun m r => match r, m with
      | none, m => m
      | some r, none => some r.lastDistance
      | some r, some n => some (Nat.max r.lastDistance n)) none

/-- ODOMETER_SET's bound (R65 step 2). -/
def State.belowMemory (s : State) (metres : Nat) : Bool :=
  match s.largestDistance with
  | none => false
  | some n => decide (metres / 100 < n)

/-- ODOMETER_SET (R65). -/
def serveOdometer (metres : Nat) (s : State) : Served :=
  if s.isRun then refuse .wrongMode s
  else if s.belowMemory metres then refuse .badField s
  else
    let s := clearResidues { s with speed := { s.speed with total := metres, delta := 0 } }
    accept (.total metres) (publish slotTotalDistance (metres / 100) s)

/-- The format a TX_FRAME names. -/
def format? (n : Nat) : Option Format :=
  match n with
  | 0 => some .base
  | 1 => some .extended
  | _ => none

/-- TX_FRAME (R190, R21). -/
def serveTx (port format id : Nat) (data : List Byte) (s : State) : Served :=
  match unit? 3 port with
  | none => refuse .badIndex s
  | some p =>
    match format? format with
    | none => refuse .badField s
    | some f =>
      if 8 < data.length ∨ f.maxId < id then refuse .badField s
      else if !s.isRun then refuse .wrongMode s
      else
        let t := offerFrame p { format := f, id := id, data := data } .panel s
        { result := if t.1 then .ok else .queueFull, data := .none, after := t.2 }

/-- DOOR_REQUEST (R140). -/
def serveDoor (door : Nat) (action : Option DoorAction) (s : State) : Served :=
  match unit? 4 door with
  | none => refuse .badIndex s
  | some d =>
    match action with
    | none => refuse .badField s
    | some a =>
      if !s.isRun then refuse .wrongMode s
      else if !s.doors[d].entry.enabled then refuse .badIndex s
      else
        let t := requestDoor d a s
        if t.1 then accept (.door t.2.doors[d].state t.2.doors[d].released t.2.doors[d].openCommand) t.2
        else refuse .notNow t.2

/-- WARNING_ACK (R101). -/
def serveAck (s : State) : Served :=
  let t := acknowledge s
  accept (.acknowledged t.1 t.2.1) t.2.2

/-- CHIME (R111). -/
def serveChime (pattern : Nat) (s : State) : Served :=
  if 7 < pattern then refuse .badField s
  else if !s.isRun then refuse .wrongMode s
  else
    let s := placeRequest panelRequester pattern s
    accept (.granted (s.chime.grant.map (·.requester))) s

/-- CHIME_STOP (R111). -/
def serveChimeStop (s : State) : Served := accept .none (withdrawRequest panelRequester s)

/-- OUTPUT_SET (R119). -/
def serveOutput (line value : Nat) (s : State) : Served :=
  match unit? 16 line with
  | none => refuse .badIndex s
  | some l =>
    if 1 < value then refuse .badField s
    else if s.outputs[l].entry.source ≠ .panel ∧ s.outputs[l].entry.direct ≠ .panel then refuse .badIndex s
    else
      let s := redrive { s with outputs := vput s.outputs l { s.outputs[l] with panelValue := value = 1 } }
      accept (.drive s.outputs[l].on) s

/-- The items of FAULT_READ LIST, in position order (R165). -/
def State.faultItems (s : State) : List ListItem :=
  (List.finRange 40).filterMap fun p => s.faults.memory[p].map fun r =>
    { position := p.val, code := r.code, source := r.source, active := r.active, occurrences := r.occurrences }

/-- The items of FAULT_READ LIVE, in the order of the set (R165). -/
def State.liveItems (s : State) : List LiveItem :=
  s.faults.live.map fun e => { code := e.code, source := e.source, since := s.msOf e.since, confirmed := e.confirmed }

/-- FAULT_READ (R165). A LIST or LIVE whose items exceed the payload of a frame is queued as one RESPONSE all the same,
which is the model's choice (assumption 50). -/
def serveFaultRead (selector : Option FaultSelector) (position : Nat) (s : State) : Served :=
  match unit? 40 position with
  | none => refuse .badIndex s
  | some p =>
    match selector with
    | none => refuse .badField s
    | some .list => accept (.faultList s.faultItems s.faults.memoryOverflow) s
    | some .record => accept (.faultRecord s.faults.memory[p]) s
    | some .latch => accept (.firstFault s.faults.latch) s
    | some .live => accept (.liveFaults s.liveItems s.faults.liveOverflow) s

/-- FAULT_CLEAR (R162). -/
def serveFaultClear (s : State) : Served :=
  if s.clearAllowed then accept (.removed s.recordCount) (clearMemory s) else refuse .notNow s

/-- The request codes of Table 10.4. -/
def requestCode : Request → Nat
  | .badRequest c => c
  | .badLength c => c
  | .badTable c => c
  | .tableWritePort _ _ | .tableWriteMatch _ _ | .tableWriteSlot _ _ | .tableWriteSpeed _ _ | .tableWritePulse _ _
  | .tableWriteInput _ _ | .tableWriteOutput _ _ | .tableWriteGauge _ _ | .tableWriteCondition _ _
  | .tableWriteTelltale _ _ | .tableWriteChime _ _ | .tableWriteDoor _ _ | .tableWriteFaultCfg _ _
  | .tableWriteService _ _ | .tableWriteSystem _ _ => 0x01
  | .tableRead _ _ => 0x02
  | .start _ => 0x03
  | .stop => 0x04
  | .statusRead => 0x05
  | .flagsClear _ => 0x06
  | .counterRead _ _ _ => 0x07
  | .heartbeat => 0x08
  | .restart => 0x09
  | .wake => 0x0A
  | .signalWrite _ _ => 0x10
  | .signalRead _ => 0x11
  | .distanceRead => 0x12
  | .odometerSet _ => 0x13
  | .txFrame _ _ _ _ => 0x14
  | .doorRequest _ _ => 0x20
  | .warningAck => 0x21
  | .chime _ => 0x22
  | .chimeStop => 0x23
  | .outputSet _ _ => 0x24
  | .faultRead _ _ => 0x30
  | .faultClear => 0x31

/-- A request is taken or refused by its rule (R190). -/
def serveRequest (r : Request) (s : State) : Served :=
  match r with
  | .badRequest _ => refuse .badRequest s
  | .badLength _ => refuse .badLength s
  | .badTable _ => refuse .badTable s
  | .tableWritePort i e => tableWritten (writePort i e s)
  | .tableWriteMatch i e => tableWritten (writeMatch i e s)
  | .tableWriteSlot i e => tableWritten (writeSlot i e s)
  | .tableWriteSpeed i e => tableWritten (writeSpeedEntry i e s)
  | .tableWritePulse i e => tableWritten (writePulse i e s)
  | .tableWriteInput i e => tableWritten (writeInput i e s)
  | .tableWriteOutput i e => tableWritten (writeOutput i e s)
  | .tableWriteGauge i e => tableWritten (writeGauge i e s)
  | .tableWriteCondition i e => tableWritten (writeCondition i e s)
  | .tableWriteTelltale i e => tableWritten (writeTelltale i e s)
  | .tableWriteChime i e => tableWritten (writeChime i e s)
  | .tableWriteDoor i e => tableWritten (writeDoor i e s)
  | .tableWriteFaultCfg i e => tableWritten (writeFaultCfg i e s)
  | .tableWriteService i e => tableWritten (writeService i e s)
  | .tableWriteSystem i e => tableWritten (writeSystem i e s)
  | .tableRead t i => serveTableRead t i s
  | .start l => serveStart l s
  | .stop => serveStop s
  | .statusRead => serveStatus s
  | .flagsClear f => serveFlagsClear f s
  | .counterRead g f c => serveCounters g f c s
  | .heartbeat => accept .none s
  | .restart => serveRestart s
  | .wake => accept .none s
  | .signalWrite k v => serveSignalWrite k v s
  | .signalRead k => serveSignalRead k s
  | .distanceRead => serveDistance s
  | .odometerSet m => serveOdometer m s
  | .txFrame p f i d => serveTx p f i d s
  | .doorRequest d a => serveDoor d a s
  | .warningAck => serveAck s
  | .chime p => serveChime p s
  | .chimeStop => serveChimeStop s
  | .outputSet l v => serveOutput l v s
  | .faultRead k n => serveFaultRead k n s
  | .faultClear => serveFaultClear s

end Sys2Proof.Machine
end

