-- ==== Sys2Proof/Machine/Panel.lean ====
section
/-! DEFINITION. The panel link controller (R185 to R189, R196): the arrival of frames, the service of the ingress
buffer, departures from the egress queue, and the supervision of the host. -/

namespace Sys2Proof.Machine

/-! ### Service (R187, R190) -/

/-- The head of the ingress buffer may be served (R187, R196). -/
def State.mayServe (s : State) : Bool := !s.link.restarting && decide (s.link.egress.length < 31)

/-- A frame is served: its request is taken or refused, and its response joins the egress queue. -/
def serveOne (f : IngressFrame) (s : State) : State :=
  let r := serveRequest f.request s
  joinResponse f.tag (requestCode f.request) r.result r.data r.after

/-- The head of the ingress buffer is served while it may be, at most `fuel` times. -/
def serveIngress : Nat → State → State
  | 0, s => s
  | fuel + 1, s =>
    if s.mayServe then
      match s.link.ingress with
      | [] => s
      | f :: rest => serveIngress fuel (serveOne f { s with link := { s.link with ingress := rest } })
    else s

/-- The whole buffer is served as far as the egress queue lets it. -/
def serveAll (s : State) : State := serveIngress s.link.ingress.length s

/-! ### Arrivals (R186, R187, R189, R196) -/

/-- The link is restored at the arrival of a valid REQUEST: slot 251, the fault and DIRECT, in the order R189 lists
them (assumption 54). -/
def restoreLink (s : State) : State :=
  let s := publish slotPanelLinkLost 0 { s with link := { s.link with lost := false } }
  let s := clearFault .panelLinkLost none s
  redrive { s with direct := false }

/-- The panel timer is set anew, and a link declared lost is restored (R189). -/
def noteArrival (s : State) : State :=
  let s := if s.link.lost then restoreLink s else s
  { s with link := { s.link with timer := some (s.after s.system.panelTimeout) } }

/-- A valid REQUEST joins the ingress buffer, or is dropped and counted (R187). -/
def joinIngress (f : IngressFrame) (s : State) : State :=
  if s.link.ingress.length < 4 then { s with link := { s.link with ingress := s.link.ingress ++ [f] } }
  else { s with link := { s.link with ingressOverflow := bump32 s.link.ingressOverflow } }

/-- A valid REQUEST frame arrives. While ACTIVE it restarts the panel timer, joins the buffer and is served; in PARKED
a WAKE wakes the part and is answered first, and every other is discarded (R187, R189, R196). -/
def requestArrives (tag : Byte) (r : Request) (s : State) : State :=
  if s.isActive then serveAll (joinIngress { tag := tag, request := r } (noteArrival s))
  else match r with
    | .wake => joinResponse tag (requestCode .wake) .ok .none (wake s)
    | _ => s

/-- A receive error is counted (R185, R186). -/
def receiveError (s : State) : State :=
  { s with link := { s.link with receiveErrors := bump32 s.link.receiveErrors } }

/-- A complete frame is checked (R186); in PARKED a valid frame other than WAKE is discarded uncounted (R196). -/
def frameArrives (type tag : Byte) (payload : List Byte) (crc : BitVec 16) (s : State) : State :=
  if crc ≠ frameCrc type tag payload then receiveError s
  else if type = 1 then requestArrives tag (parseRequest payload) s
  else if s.isActive then receiveError s
  else s

/-! ### Departures (R188, R196) -/

/-- The RESPONSE OK of a RESTART. -/
def EgressFrame.isRestart (f : EgressFrame) : Bool :=
  match f with
  | .response _ 9 .ok _ => true
  | _ => false

/-- The head's last CRC byte has been sent: it leaves; after the response of a RESTART the part restarts, else the
head of the ingress buffer may be served (R187, R188, R196). In PARKED the link sends nothing. -/
def headSent (s : State) : State :=
  if s.isActive then
    match s.link.egress with
    | [] => s
    | h :: rest =>
      let s := putEgress rest s
      if s.link.restarting && h.isRestart then restart s else serveAll s
  else s

/-! ### The panel timer (R189) -/

/-- The link is declared lost: slot 251, the fault, the counter and DIRECT, in the order R189 lists them
(assumption 54). -/
def loseLink (s : State) : State :=
  let s := publish slotPanelLinkLost 1 { s with link := { s.link with lost := true, timer := none } }
  let s := raiseFault .panelLinkLost none s
  redrive { s with link := { s.link with linkLosses := bump32 s.link.linkLosses }, direct := true }

def expirePanelTimer (s : State) : State := if s.due s.link.timer then loseLink s else s

/-! ### Reception on a network port, in either power state (R5, R8) -/

/-- The first frame received on a listening port in PARKED: counted, it sets the activity indication and wakes the
part (R5). -/
def receiveParked (p : Fin 3) (s : State) : State :=
  let e := s.ports[p].entry
  if e.enabled && e.wakeEnabled then wake (countReception p s) else s

/-- A frame is received on a port (R5, R8). -/
def receiveFrame (p : Fin 3) (f : RxFrame) (s : State) : State :=
  if s.isActive then receiveActive p f s else receiveParked p s

/-- A service request frame is received on the diagnostic port, in the configured format and with the request
identifier (R9; assumption 5). -/
def receiveService (data : List Byte) (s : State) : State :=
  let e := s.service.entry
  let f : RxFrame :=
    { remote := false, format := e.format, id := e.requestId, lengthCode := Fin.ofNat 16 data.length, data := data }
  receiveFrame e.port f s

end Sys2Proof.Machine
end

