-- ==== Sys2Proof/Machine/BlockRows.lean ====
section
/-! DEFINITION. The meanings of the commands of pulse inputs, speed and distance, gauges, conditions, telltales,
chimes, lines, doors and the fault monitor (chapters 3 to 8). An expiry acts only if its deadline runs and has
been reached (assumption 1). -/

namespace Sys2Proof.Machine

/-- PULSE_LINE_CHANGE (R48); in reset the level is noted alone. -/
def execPulseLineChange (dt : Nat) (input : Fin 4) (level : Bool) (s : State) : Host.Outcome State Fault Refusal :=
  pinEvent dt s fun s =>
    if s.resetLow then putPulse input { s.pulses[input] with line := level } s
    else pulseLine input level s

/-- NOISE_REJECTION_END (R48). -/
def execNoiseRejectionEnd (dt : Nat) (input : Fin 4) (s : State) : Host.Outcome State Fault Refusal :=
  event dt s (noiseEnd input)

/-- GATE_END (R50). -/
def execGateEnd (dt : Nat) (input : Fin 4) (s : State) : Host.Outcome State Fault Refusal :=
  event dt s (Sys2Proof.Machine.gateEnd input)

/-- STUCK_DEADLINE_EXPIRY (R53). -/
def execStuckDeadlineExpiry (dt : Nat) (input : Fin 4) (s : State) : Host.Outcome State Fault Refusal :=
  event dt s (expireStuck input)

/-- MISMATCH_TIMER_EXPIRY (R58). -/
def execMismatchTimerExpiry (dt : Nat) (s : State) : Host.Outcome State Fault Refusal :=
  event dt s expireMismatch

/-- DISTANCE_TICK (R62). -/
def execDistanceTick (dt : Nat) (s : State) : Host.Outcome State Fault Refusal :=
  event dt s Sys2Proof.Machine.distanceTick

/-- MOTION_STEP (R75). -/
def execMotionStep (dt : Nat) (gauge : Fin 6) (s : State) : Host.Outcome State Fault Refusal :=
  event dt s (Sys2Proof.Machine.motionStep gauge)

/-- STALL_SENSE (R77). -/
def execStallSense (dt : Nat) (gauge : Fin 6) (s : State) : Host.Outcome State Fault Refusal :=
  event dt s (stall gauge)

/-- TRAVEL_DEADLINE_EXPIRY (R78). -/
def execTravelDeadlineExpiry (dt : Nat) (gauge : Fin 6) (s : State) : Host.Outcome State Fault Refusal :=
  event dt s (expireTravel gauge)

/-- DELAY_DEADLINE_EXPIRY (R93). -/
def execDelayDeadlineExpiry (dt : Nat) (condition : Fin 96) (s : State) : Host.Outcome State Fault Refusal :=
  event dt s (expireDelay condition)

/-- BULB_CHECK_EXPIRY (R104). -/
def execBulbCheckExpiry (dt : Nat) (s : State) : Host.Outcome State Fault Refusal :=
  event dt s expireBulb

/-- FLASH_PHASE_CHANGE (R103): the phases follow the clock, and the lines that follow them are driven again (R117). -/
def execFlashPhaseChange (dt : Nat) (s : State) : Host.Outcome State Fault Refusal :=
  event dt s redrive

/-- CHIME_ON_TIME_END (R110). -/
def execChimeOnTimeEnd (dt : Nat) (s : State) : Host.Outcome State Fault Refusal :=
  event dt s endOnTime

/-- CHIME_OFF_TIME_END (R110). -/
def execChimeOffTimeEnd (dt : Nat) (s : State) : Host.Outcome State Fault Refusal :=
  event dt s endOffTime

/-- INPUT_LINE_CHANGE (R114); in reset the level is noted alone. -/
def execInputLineChange (dt : Nat) (line : Fin 24) (level : Bool) (s : State) : Host.Outcome State Fault Refusal :=
  pinEvent dt s fun s =>
    if s.resetLow then putInput line { s.inputs[line] with line := level } s
    else inputLine line level s

/-- DEBOUNCE_END (R114, R115). -/
def execDebounceEnd (dt : Nat) (line : Fin 24) (s : State) : Host.Outcome State Fault Refusal :=
  event dt s (Sys2Proof.Machine.debounceEnd line)

/-- DOOR_DEADLINE_EXPIRY (R134). -/
def execDoorDeadlineExpiry (dt : Nat) (door : Fin 4) (s : State) : Host.Outcome State Fault Refusal :=
  event dt s (expireDoor door)

/-- OPEN_LOAD_REPORT (R121); in reset the report is noted alone. -/
def execOpenLoadReport (dt : Nat) (line : Fin 8) (isOpen : Bool) (s : State) : Host.Outcome State Fault Refusal :=
  pinEvent dt s fun s =>
    if s.resetLow then putLamp line { s.lamps[line] with openLoad := isOpen } s
    else openLoad line isOpen s

/-- SHORT_REPORT (R122). -/
def execShortReport (dt : Nat) (line : Fin 8) (s : State) : Host.Outcome State Fault Refusal :=
  event dt s (shortReported line)

/-- RETRY_DEADLINE_EXPIRY (R122). -/
def execRetryDeadlineExpiry (dt : Nat) (line : Fin 8) (s : State) : Host.Outcome State Fault Refusal :=
  event dt s (expireRetry line)

/-- PROVING_DEADLINE_EXPIRY (R122). -/
def execProvingDeadlineExpiry (dt : Nat) (line : Fin 8) (s : State) : Host.Outcome State Fault Refusal :=
  event dt s (expireProving line)

/-- CONFIRMATION_DEADLINE_EXPIRY (R154). -/
def execConfirmationDeadlineExpiry (dt : Nat) (code : FaultCode) (source : Option Nat) (s : State) :
    Host.Outcome State Fault Refusal :=
  event dt s (expireConfirmation code source)

end Sys2Proof.Machine
end

