-- ==== Sys2Proof/Machine/LinkRows.lean ====
section
/-! DEFINITION. The meanings of the commands of the frames and timers of the panel link (R185 to R189, R197). -/

namespace Sys2Proof.Machine

/-- PANEL_FRAME_RECEIVED (R186): a complete frame of the panel link. -/
def execPanelFrameReceived (dt : Nat) (type : Byte) (tag : Byte) (payload : List Byte) (crc : BitVec 16) (s : State) :
    Host.Outcome State Fault Refusal :=
  event dt s fun s => frameArrives type tag payload crc (awaitStart s)

/-- BYTE_GAP_ABORT (R185): a gap of more than 100 µs aborts a frame, and the receiver waits for a start byte. -/
def execByteGapAbort (dt : Nat) (s : State) : Host.Outcome State Fault Refusal :=
  event dt s fun s => receiveError (awaitStart s)

/-- EGRESS_FRAME_SENT (R188). -/
def execEgressFrameSent (dt : Nat) (s : State) : Host.Outcome State Fault Refusal :=
  event dt s headSent

/-- PANEL_TIMER_EXPIRY (R189). -/
def execPanelTimerExpiry (dt : Nat) (s : State) : Host.Outcome State Fault Refusal :=
  event dt s expirePanelTimer

/-- REPORT_TIMER_EXPIRY (R197). -/
def execReportTimerExpiry (dt : Nat) (s : State) : Host.Outcome State Fault Refusal :=
  event dt s expireReport

/-- PANEL_LENGTH_ABOVE_120 (R185): a length byte above 120 ends a frame at once. -/
def execPanelLengthAbove120 (dt : Nat) (length : Byte) (s : State) : Host.Outcome State Fault Refusal :=
  event dt s fun s => if 120 < length.toNat then receiveError (awaitStart s) else s

end Sys2Proof.Machine
end

