-- ==== Sys2Proof/Machine/PortRows.lean ====
section
/-! DEFINITION. The meanings of the commands of the network ports, the classifier and the signal store (chapters 1
and 2). -/

namespace Sys2Proof.Machine

/-- CONTROLLER_ERROR_PASSIVE (R3). -/
def execControllerErrorPassive (dt : Nat) (port : Fin 3) (s : State) : Host.Outcome State Fault Refusal :=
  event dt s (errorPassive port)

/-- CONTROLLER_ERROR_ACTIVE (R3). -/
def execControllerErrorActive (dt : Nat) (port : Fin 3) (s : State) : Host.Outcome State Fault Refusal :=
  event dt s (errorActive port)

/-- BUS_OFF (R4). -/
def execBusOff (dt : Nat) (port : Fin 3) (s : State) : Host.Outcome State Fault Refusal :=
  event dt s (enterOff port)

/-- RECOVERY_COMPLETE (R4). -/
def execRecoveryComplete (dt : Nat) (port : Fin 3) (s : State) : Host.Outcome State Fault Refusal :=
  event dt s (recovered port)

/-- QUIET_TIME_EXPIRY (R4). -/
def execQuietTimeExpiry (dt : Nat) (port : Fin 3) (s : State) : Host.Outcome State Fault Refusal :=
  event dt s (expireQuiet port)

/-- FRAME_RECEIVED (R8). -/
def execFrameReceived (dt : Nat) (port : Fin 3) (frame : RxFrame) (s : State) : Host.Outcome State Fault Refusal :=
  event dt s (receiveFrame port frame)

/-- FRAME_RECEIVED_PARKED (R5); a frame that finds the part ACTIVE is handled as in ACTIVE (R204). -/
def execFrameReceivedParked (dt : Nat) (port : Fin 3) (frame : RxFrame) (s : State) :
    Host.Outcome State Fault Refusal :=
  event dt s (receiveFrame port frame)

/-- SUPERVISION_DEADLINE_EXPIRY (R19). -/
def execSupervisionDeadlineExpiry (dt : Nat) (entry : Fin 128) (s : State) : Host.Outcome State Fault Refusal :=
  event dt s (expireSupervision entry)

/-- TRANSMISSION_BEGINS (R22). -/
def execTransmissionBegins (dt : Nat) (port : Fin 3) (s : State) : Host.Outcome State Fault Refusal :=
  event dt s (beginTransmission port)

/-- TRANSMISSION_SUCCESS (R22). -/
def execTransmissionSuccess (dt : Nat) (port : Fin 3) (s : State) : Host.Outcome State Fault Refusal :=
  event dt s (endTransmission port)

/-- TRANSMISSION_FAILED (R22). -/
def execTransmissionFailed (dt : Nat) (port : Fin 3) (s : State) : Host.Outcome State Fault Refusal :=
  event dt s (failTransmission port)

/-- QUEUE_AGE_EXPIRY (R23): the frame at a place of the queue. -/
def execQueueAgeExpiry (dt : Nat) (port : Fin 3) (place : Nat) (s : State) : Host.Outcome State Fault Refusal :=
  event dt s (expireFrame port place)

/-- PANEL_DEADLINE_EXPIRY (R36). -/
def execPanelDeadlineExpiry (dt : Nat) (slot : Fin 240) (s : State) : Host.Outcome State Fault Refusal :=
  event dt s (expirePanelDeadline slot)

end Sys2Proof.Machine
end

