-- ==== Sys2Proof/Machine/PowerRows.lean ====
section
/-! DEFINITION. The meanings of the commands of ignition, run-on and the resets (chapter 11). -/

namespace Sys2Proof.Machine

/-- IGN_PIN_CHANGE (R200); in reset the level is noted alone. -/
def execIgnPinChange (dt : Nat) (level : Bool) (s : State) : Host.Outcome State Fault Refusal :=
  pinEvent dt s fun s =>
    if s.resetLow then putIgnition { s.ignition with pin := level } s
    else putIgnition (s.ignition.change level s.now) s

/-- IGNITION_DEBOUNCE_END (R200 to R202). -/
def execIgnitionDebounceEnd (dt : Nat) (s : State) : Host.Outcome State Fault Refusal :=
  event dt s acceptIgnition

/-- RUN_ON_TIMER_EXPIRY (R203). -/
def execRunOnTimerExpiry (dt : Nat) (s : State) : Host.Outcome State Fault Refusal :=
  event dt s expireRunOn

/-- RESET_PIN_LOW (R206): the part is held in reset. -/
def execResetPinLow (dt : Nat) (s : State) : Host.Outcome State Fault Refusal :=
  pinEvent dt s holdReset

/-- RESET_PIN_HIGH (R206): the restart of a part held in reset. -/
def execResetPinHigh (dt : Nat) (s : State) : Host.Outcome State Fault Refusal :=
  pinEvent dt s fun s => if s.resetLow then Sys2Proof.Machine.restart s else s

/-- POWER_ON_RESET (R207). -/
def execPowerOnReset (dt : Nat) (s : State) : Host.Outcome State Fault Refusal :=
  pinEvent dt s powerOn

end Sys2Proof.Machine
end

