-- ==== Sys2Proof/Machine/RequestRows.lean ====
section
/-! DEFINITION. The meanings of the commands of the management requests: each row is the arrival of a valid
REQUEST frame that carries the request (assumption 4). A request is served at its arrival while the egress
queue holds fewer than 31 frames (R187); `serveRequest` gives its effect. -/

namespace Sys2Proof.Machine

/-- TABLE_WRITE_PORT (R1, R2). -/
def execTableWritePort (dt : Nat) (tag : Byte) (index : Nat) (entry : Option PortEntry) (s : State) :
    Host.Outcome State Fault Refusal :=
  event dt s (requestArrives tag (.tableWritePort index entry))

/-- TABLE_WRITE_MATCH (R10). -/
def execTableWriteMatch (dt : Nat) (tag : Byte) (index : Nat) (entry : Option MatchEntry) (s : State) :
    Host.Outcome State Fault Refusal :=
  event dt s (requestArrives tag (.tableWriteMatch index entry))

/-- TABLE_WRITE_SLOT (R25). -/
def execTableWriteSlot (dt : Nat) (tag : Byte) (index : Nat) (entry : Option SlotDesc) (s : State) :
    Host.Outcome State Fault Refusal :=
  event dt s (requestArrives tag (.tableWriteSlot index entry))

/-- TABLE_WRITE_SPEED (R54). -/
def execTableWriteSpeed (dt : Nat) (tag : Byte) (index : Nat) (entry : Option SpeedEntry) (s : State) :
    Host.Outcome State Fault Refusal :=
  event dt s (requestArrives tag (.tableWriteSpeed index entry))

/-- TABLE_WRITE_PULSE (R46). -/
def execTableWritePulse (dt : Nat) (tag : Byte) (index : Nat) (entry : Option PulseEntry) (s : State) :
    Host.Outcome State Fault Refusal :=
  event dt s (requestArrives tag (.tableWritePulse index entry))

/-- TABLE_WRITE_INPUT (R113). -/
def execTableWriteInput (dt : Nat) (tag : Byte) (index : Nat) (entry : Option InputEntry) (s : State) :
    Host.Outcome State Fault Refusal :=
  event dt s (requestArrives tag (.tableWriteInput index entry))

/-- TABLE_WRITE_OUTPUT (R116). -/
def execTableWriteOutput (dt : Nat) (tag : Byte) (index : Nat) (entry : Option OutputEntry) (s : State) :
    Host.Outcome State Fault Refusal :=
  event dt s (requestArrives tag (.tableWriteOutput index entry))

/-- TABLE_WRITE_GAUGE (R67, R68). -/
def execTableWriteGauge (dt : Nat) (tag : Byte) (index : Nat) (entry : Option GaugeEntry) (s : State) :
    Host.Outcome State Fault Refusal :=
  event dt s (requestArrives tag (.tableWriteGauge index entry))

/-- TABLE_WRITE_CONDITION (R85, R96). -/
def execTableWriteCondition (dt : Nat) (tag : Byte) (index : Nat) (entry : Option CondEntry) (s : State) :
    Host.Outcome State Fault Refusal :=
  event dt s (requestArrives tag (.tableWriteCondition index entry))

/-- TABLE_WRITE_TELLTALE (R98, R105). -/
def execTableWriteTelltale (dt : Nat) (tag : Byte) (index : Nat) (entry : Option TelltaleEntry) (s : State) :
    Host.Outcome State Fault Refusal :=
  event dt s (requestArrives tag (.tableWriteTelltale index entry))

/-- TABLE_WRITE_CHIME (R107). -/
def execTableWriteChime (dt : Nat) (tag : Byte) (index : Nat) (entry : Option ChimePattern) (s : State) :
    Host.Outcome State Fault Refusal :=
  event dt s (requestArrives tag (.tableWriteChime index entry))

/-- TABLE_WRITE_DOOR (R124). -/
def execTableWriteDoor (dt : Nat) (tag : Byte) (index : Nat) (entry : Option DoorEntry) (s : State) :
    Host.Outcome State Fault Refusal :=
  event dt s (requestArrives tag (.tableWriteDoor index entry))

/-- TABLE_WRITE_FAULT_CFG (R150). -/
def execTableWriteFaultCfg (dt : Nat) (tag : Byte) (index : Nat) (entry : Option FaultCfgEntry) (s : State) :
    Host.Outcome State Fault Refusal :=
  event dt s (requestArrives tag (.tableWriteFaultCfg index entry))

/-- TABLE_WRITE_SERVICE (R166). -/
def execTableWriteService (dt : Nat) (tag : Byte) (index : Nat) (entry : Option ServiceEntry) (s : State) :
    Host.Outcome State Fault Refusal :=
  event dt s (requestArrives tag (.tableWriteService index entry))

/-- TABLE_WRITE_SYSTEM (R192). -/
def execTableWriteSystem (dt : Nat) (tag : Byte) (index : Nat) (entry : Option SystemEntry) (s : State) :
    Host.Outcome State Fault Refusal :=
  event dt s (requestArrives tag (.tableWriteSystem index entry))

/-- TABLE_READ (R191). -/
def execTableRead (dt : Nat) (tag : Byte) (table : TableId) (index : Nat) (s : State) :
    Host.Outcome State Fault Refusal :=
  event dt s (requestArrives tag (.tableRead table index))

/-- START (R193). -/
def execStart (dt : Nat) (tag : Byte) (label : BitVec 32) (s : State) : Host.Outcome State Fault Refusal :=
  event dt s (requestArrives tag (.start label))

/-- STOP (R194). -/
def execStop (dt : Nat) (tag : Byte) (s : State) : Host.Outcome State Fault Refusal :=
  event dt s (requestArrives tag .stop)

/-- STATUS_READ (R195, R7). -/
def execStatusRead (dt : Nat) (tag : Byte) (s : State) : Host.Outcome State Fault Refusal :=
  event dt s (requestArrives tag .statusRead)

/-- FLAGS_CLEAR (R199). -/
def execFlagsClear (dt : Nat) (tag : Byte) (flags : BitVec 16) (s : State) : Host.Outcome State Fault Refusal :=
  event dt s (requestArrives tag (.flagsClear flags))

/-- COUNTER_READ (R195). -/
def execCounterRead (dt : Nat) (tag : Byte) (group : Nat) (first : Nat) (count : Nat) (s : State) :
    Host.Outcome State Fault Refusal :=
  event dt s (requestArrives tag (.counterRead group first count))

/-- HEARTBEAT (R195). -/
def execHeartbeat (dt : Nat) (tag : Byte) (s : State) : Host.Outcome State Fault Refusal :=
  event dt s (requestArrives tag .heartbeat)

/-- RESTART (R196). -/
def execRestart (dt : Nat) (tag : Byte) (s : State) : Host.Outcome State Fault Refusal :=
  event dt s (requestArrives tag .restart)

/-- WAKE (R196). -/
def execWake (dt : Nat) (tag : Byte) (s : State) : Host.Outcome State Fault Refusal :=
  event dt s (requestArrives tag .wake)

/-- SIGNAL_WRITE (R37). -/
def execSignalWrite (dt : Nat) (tag : Byte) (slot : Nat) (value : Int) (s : State) :
    Host.Outcome State Fault Refusal :=
  event dt s (requestArrives tag (.signalWrite slot value))

/-- SIGNAL_READ (R28). -/
def execSignalRead (dt : Nat) (tag : Byte) (slot : Nat) (s : State) : Host.Outcome State Fault Refusal :=
  event dt s (requestArrives tag (.signalRead slot))

/-- DISTANCE_READ (R64). -/
def execDistanceRead (dt : Nat) (tag : Byte) (s : State) : Host.Outcome State Fault Refusal :=
  event dt s (requestArrives tag .distanceRead)

/-- ODOMETER_SET (R65). -/
def execOdometerSet (dt : Nat) (tag : Byte) (metres : Nat) (s : State) : Host.Outcome State Fault Refusal :=
  event dt s (requestArrives tag (.odometerSet metres))

/-- TX_FRAME (R190, R21). -/
def execTxFrame (dt : Nat) (tag : Byte) (port : Nat) (format : Nat) (id : Nat) (data : List Byte) (s : State) :
    Host.Outcome State Fault Refusal :=
  event dt s (requestArrives tag (.txFrame port format id data))

/-- DOOR_REQUEST (R140). -/
def execDoorRequest (dt : Nat) (tag : Byte) (door : Nat) (action : Option DoorAction) (s : State) :
    Host.Outcome State Fault Refusal :=
  event dt s (requestArrives tag (.doorRequest door action))

/-- WARNING_ACK (R101). -/
def execWarningAck (dt : Nat) (tag : Byte) (s : State) : Host.Outcome State Fault Refusal :=
  event dt s (requestArrives tag .warningAck)

/-- CHIME (R111). -/
def execChime (dt : Nat) (tag : Byte) (pattern : Nat) (s : State) : Host.Outcome State Fault Refusal :=
  event dt s (requestArrives tag (.chime pattern))

/-- CHIME_STOP (R111). -/
def execChimeStop (dt : Nat) (tag : Byte) (s : State) : Host.Outcome State Fault Refusal :=
  event dt s (requestArrives tag .chimeStop)

/-- OUTPUT_SET (R119). -/
def execOutputSet (dt : Nat) (tag : Byte) (line : Nat) (value : Nat) (s : State) : Host.Outcome State Fault Refusal :=
  event dt s (requestArrives tag (.outputSet line value))

/-- FAULT_READ (R165). -/
def execFaultRead (dt : Nat) (tag : Byte) (selector : Option FaultSelector) (position : Nat) (s : State) :
    Host.Outcome State Fault Refusal :=
  event dt s (requestArrives tag (.faultRead selector position))

/-- FAULT_CLEAR (R162). -/
def execFaultClear (dt : Nat) (tag : Byte) (s : State) : Host.Outcome State Fault Refusal :=
  event dt s (requestArrives tag .faultClear)

end Sys2Proof.Machine
end

