-- ==== Sys2Proof/Machine/ServiceRows.lean ====
section
/-! DEFINITION. The meanings of the commands of the workshop service channel (chapter 9): a service is the
reception of its request frame on the diagnostic port (assumption 5). -/

namespace Sys2Proof.Machine

/-- IDENTIFY (R173), service 0x10. -/
def execIdentify (dt : Nat) (s : State) : Host.Outcome State Fault Refusal :=
  event dt s (receiveService [0x10])

/-- READ_FAULT_LIST (R174), service 0x11. -/
def execReadFaultList (dt : Nat) (s : State) : Host.Outcome State Fault Refusal :=
  event dt s (receiveService [0x11])

/-- READ_FAULT_RECORD (R174), service 0x12. -/
def execReadFaultRecord (dt : Nat) (position : Byte) (s : State) : Host.Outcome State Fault Refusal :=
  event dt s (receiveService [0x12, position])

/-- READ_FIRST_FAULT (R174), service 0x13. -/
def execReadFirstFault (dt : Nat) (s : State) : Host.Outcome State Fault Refusal :=
  event dt s (receiveService [0x13])

/-- READ_LIVE_FAULTS (R174), service 0x14. -/
def execReadLiveFaults (dt : Nat) (s : State) : Host.Outcome State Fault Refusal :=
  event dt s (receiveService [0x14])

/-- CLEAR_FAULTS (R174, R162), service 0x15. -/
def execClearFaults (dt : Nat) (s : State) : Host.Outcome State Fault Refusal :=
  event dt s (receiveService [0x15])

/-- READ_SIGNAL (R173), service 0x20. -/
def execReadSignal (dt : Nat) (slot : Byte) (s : State) : Host.Outcome State Fault Refusal :=
  event dt s (receiveService [0x20, slot])

/-- READ_COUNTERS (R173), service 0x21. -/
def execReadCounters (dt : Nat) (group : Byte) (first : Byte) (count : Byte) (s : State) :
    Host.Outcome State Fault Refusal :=
  event dt s (receiveService [0x21, group, first, count])

/-- CAPTURE_ARM (R178), service 0x30. -/
def execCaptureArm (dt : Nat) (ports : Byte) (filter : Byte) (postCount : Byte) (code : Byte) (s : State) :
    Host.Outcome State Fault Refusal :=
  event dt s (receiveService [0x30, ports, filter, postCount, code])

/-- CAPTURE_TRIGGER (R180), service 0x31. -/
def execCaptureTrigger (dt : Nat) (s : State) : Host.Outcome State Fault Refusal :=
  event dt s (receiveService [0x31])

/-- CAPTURE_STATUS (R182), service 0x32. -/
def execCaptureStatus (dt : Nat) (s : State) : Host.Outcome State Fault Refusal :=
  event dt s (receiveService [0x32])

/-- CAPTURE_READ (R182), service 0x33. -/
def execCaptureRead (dt : Nat) (rewind : Byte) (s : State) : Host.Outcome State Fault Refusal :=
  event dt s (receiveService [0x33, rewind])

/-- OUTPUT_TEST_START (R175), service 0x40. -/
def execOutputTestStart (dt : Nat) (kind : Byte) (index : Byte) (s : State) : Host.Outcome State Fault Refusal :=
  event dt s (receiveService [0x40, kind, index])

/-- OUTPUT_TEST_STOP (R176), service 0x41. -/
def execOutputTestStop (dt : Nat) (s : State) : Host.Outcome State Fault Refusal :=
  event dt s (receiveService [0x41])

/-- OUTPUT_TEST_DEADLINE_EXPIRY (R176). -/
def execOutputTestDeadlineExpiry (dt : Nat) (s : State) : Host.Outcome State Fault Refusal :=
  event dt s expireTest

/-- SPACING_DEADLINE_EXPIRY (R171). -/
def execSpacingDeadlineExpiry (dt : Nat) (s : State) : Host.Outcome State Fault Refusal :=
  event dt s expireSpacing

end Sys2Proof.Machine
end

