-- ==== Sys2Proof/Machine/Dispatch.lean ====
section
/-! DEFINITION. The meaning of every command: one arm for each row of spec/opcode_table.json. -/

namespace Sys2Proof.Machine

/-- The effect of a command on everything but the queue. -/
def exec (i : Instr) (s : State) : Host.Outcome State Fault Refusal :=
  match i with
  | .tableWritePort dt tag index entry => Sys2Proof.Machine.execTableWritePort dt tag index entry s
  | .tableWriteMatch dt tag index entry => Sys2Proof.Machine.execTableWriteMatch dt tag index entry s
  | .tableWriteSlot dt tag index entry => Sys2Proof.Machine.execTableWriteSlot dt tag index entry s
  | .tableWriteSpeed dt tag index entry => Sys2Proof.Machine.execTableWriteSpeed dt tag index entry s
  | .tableWritePulse dt tag index entry => Sys2Proof.Machine.execTableWritePulse dt tag index entry s
  | .tableWriteInput dt tag index entry => Sys2Proof.Machine.execTableWriteInput dt tag index entry s
  | .tableWriteOutput dt tag index entry => Sys2Proof.Machine.execTableWriteOutput dt tag index entry s
  | .tableWriteGauge dt tag index entry => Sys2Proof.Machine.execTableWriteGauge dt tag index entry s
  | .tableWriteCondition dt tag index entry => Sys2Proof.Machine.execTableWriteCondition dt tag index entry s
  | .tableWriteTelltale dt tag index entry => Sys2Proof.Machine.execTableWriteTelltale dt tag index entry s
  | .tableWriteChime dt tag index entry => Sys2Proof.Machine.execTableWriteChime dt tag index entry s
  | .tableWriteDoor dt tag index entry => Sys2Proof.Machine.execTableWriteDoor dt tag index entry s
  | .tableWriteFaultCfg dt tag index entry => Sys2Proof.Machine.execTableWriteFaultCfg dt tag index entry s
  | .tableWriteService dt tag index entry => Sys2Proof.Machine.execTableWriteService dt tag index entry s
  | .tableWriteSystem dt tag index entry => Sys2Proof.Machine.execTableWriteSystem dt tag index entry s
  | .tableRead dt tag table index => Sys2Proof.Machine.execTableRead dt tag table index s
  | .start dt tag label => Sys2Proof.Machine.execStart dt tag label s
  | .stop dt tag => Sys2Proof.Machine.execStop dt tag s
  | .statusRead dt tag => Sys2Proof.Machine.execStatusRead dt tag s
  | .flagsClear dt tag flags => Sys2Proof.Machine.execFlagsClear dt tag flags s
  | .counterRead dt tag group first count => Sys2Proof.Machine.execCounterRead dt tag group first count s
  | .heartbeat dt tag => Sys2Proof.Machine.execHeartbeat dt tag s
  | .restart dt tag => Sys2Proof.Machine.execRestart dt tag s
  | .wake dt tag => Sys2Proof.Machine.execWake dt tag s
  | .signalWrite dt tag slot value => Sys2Proof.Machine.execSignalWrite dt tag slot value s
  | .signalRead dt tag slot => Sys2Proof.Machine.execSignalRead dt tag slot s
  | .distanceRead dt tag => Sys2Proof.Machine.execDistanceRead dt tag s
  | .odometerSet dt tag metres => Sys2Proof.Machine.execOdometerSet dt tag metres s
  | .txFrame dt tag port format id data => Sys2Proof.Machine.execTxFrame dt tag port format id data s
  | .doorRequest dt tag door action => Sys2Proof.Machine.execDoorRequest dt tag door action s
  | .warningAck dt tag => Sys2Proof.Machine.execWarningAck dt tag s
  | .chime dt tag pattern => Sys2Proof.Machine.execChime dt tag pattern s
  | .chimeStop dt tag => Sys2Proof.Machine.execChimeStop dt tag s
  | .outputSet dt tag line value => Sys2Proof.Machine.execOutputSet dt tag line value s
  | .faultRead dt tag selector position => Sys2Proof.Machine.execFaultRead dt tag selector position s
  | .faultClear dt tag => Sys2Proof.Machine.execFaultClear dt tag s
  | .panelFrameReceived dt type tag payload crc => Sys2Proof.Machine.execPanelFrameReceived dt type tag payload crc s
  | .byteGapAbort dt => Sys2Proof.Machine.execByteGapAbort dt s
  | .egressFrameSent dt => Sys2Proof.Machine.execEgressFrameSent dt s
  | .panelTimerExpiry dt => Sys2Proof.Machine.execPanelTimerExpiry dt s
  | .reportTimerExpiry dt => Sys2Proof.Machine.execReportTimerExpiry dt s
  | .controllerErrorPassive dt port => Sys2Proof.Machine.execControllerErrorPassive dt port s
  | .controllerErrorActive dt port => Sys2Proof.Machine.execControllerErrorActive dt port s
  | .busOff dt port => Sys2Proof.Machine.execBusOff dt port s
  | .recoveryComplete dt port => Sys2Proof.Machine.execRecoveryComplete dt port s
  | .quietTimeExpiry dt port => Sys2Proof.Machine.execQuietTimeExpiry dt port s
  | .frameReceived dt port frame => Sys2Proof.Machine.execFrameReceived dt port frame s
  | .frameReceivedParked dt port frame => Sys2Proof.Machine.execFrameReceivedParked dt port frame s
  | .supervisionDeadlineExpiry dt entry => Sys2Proof.Machine.execSupervisionDeadlineExpiry dt entry s
  | .transmissionBegins dt port => Sys2Proof.Machine.execTransmissionBegins dt port s
  | .transmissionSuccess dt port => Sys2Proof.Machine.execTransmissionSuccess dt port s
  | .transmissionFailed dt port => Sys2Proof.Machine.execTransmissionFailed dt port s
  | .queueAgeExpiry dt port place => Sys2Proof.Machine.execQueueAgeExpiry dt port place s
  | .panelDeadlineExpiry dt slot => Sys2Proof.Machine.execPanelDeadlineExpiry dt slot s
  | .pulseLineChange dt input level => Sys2Proof.Machine.execPulseLineChange dt input level s
  | .noiseRejectionEnd dt input => Sys2Proof.Machine.execNoiseRejectionEnd dt input s
  | .gateEnd dt input => Sys2Proof.Machine.execGateEnd dt input s
  | .stuckDeadlineExpiry dt input => Sys2Proof.Machine.execStuckDeadlineExpiry dt input s
  | .mismatchTimerExpiry dt => Sys2Proof.Machine.execMismatchTimerExpiry dt s
  | .distanceTick dt => Sys2Proof.Machine.execDistanceTick dt s
  | .motionStep dt gauge => Sys2Proof.Machine.execMotionStep dt gauge s
  | .stallSense dt gauge => Sys2Proof.Machine.execStallSense dt gauge s
  | .travelDeadlineExpiry dt gauge => Sys2Proof.Machine.execTravelDeadlineExpiry dt gauge s
  | .delayDeadlineExpiry dt condition => Sys2Proof.Machine.execDelayDeadlineExpiry dt condition s
  | .bulbCheckExpiry dt => Sys2Proof.Machine.execBulbCheckExpiry dt s
  | .flashPhaseChange dt => Sys2Proof.Machine.execFlashPhaseChange dt s
  | .chimeOnTimeEnd dt => Sys2Proof.Machine.execChimeOnTimeEnd dt s
  | .chimeOffTimeEnd dt => Sys2Proof.Machine.execChimeOffTimeEnd dt s
  | .inputLineChange dt line level => Sys2Proof.Machine.execInputLineChange dt line level s
  | .debounceEnd dt line => Sys2Proof.Machine.execDebounceEnd dt line s
  | .doorDeadlineExpiry dt door => Sys2Proof.Machine.execDoorDeadlineExpiry dt door s
  | .openLoadReport dt line isOpen => Sys2Proof.Machine.execOpenLoadReport dt line isOpen s
  | .shortReport dt line => Sys2Proof.Machine.execShortReport dt line s
  | .retryDeadlineExpiry dt line => Sys2Proof.Machine.execRetryDeadlineExpiry dt line s
  | .provingDeadlineExpiry dt line => Sys2Proof.Machine.execProvingDeadlineExpiry dt line s
  | .confirmationDeadlineExpiry dt code source => Sys2Proof.Machine.execConfirmationDeadlineExpiry dt code source s
  | .identify dt => Sys2Proof.Machine.execIdentify dt s
  | .readFaultList dt => Sys2Proof.Machine.execReadFaultList dt s
  | .readFaultRecord dt position => Sys2Proof.Machine.execReadFaultRecord dt position s
  | .readFirstFault dt => Sys2Proof.Machine.execReadFirstFault dt s
  | .readLiveFaults dt => Sys2Proof.Machine.execReadLiveFaults dt s
  | .clearFaults dt => Sys2Proof.Machine.execClearFaults dt s
  | .readSignal dt slot => Sys2Proof.Machine.execReadSignal dt slot s
  | .readCounters dt group first count => Sys2Proof.Machine.execReadCounters dt group first count s
  | .captureArm dt ports filter postCount code => Sys2Proof.Machine.execCaptureArm dt ports filter postCount code s
  | .captureTrigger dt => Sys2Proof.Machine.execCaptureTrigger dt s
  | .captureStatus dt => Sys2Proof.Machine.execCaptureStatus dt s
  | .captureRead dt rewind => Sys2Proof.Machine.execCaptureRead dt rewind s
  | .outputTestStart dt kind index => Sys2Proof.Machine.execOutputTestStart dt kind index s
  | .outputTestStop dt => Sys2Proof.Machine.execOutputTestStop dt s
  | .outputTestDeadlineExpiry dt => Sys2Proof.Machine.execOutputTestDeadlineExpiry dt s
  | .spacingDeadlineExpiry dt => Sys2Proof.Machine.execSpacingDeadlineExpiry dt s
  | .ignPinChange dt level => Sys2Proof.Machine.execIgnPinChange dt level s
  | .ignitionDebounceEnd dt => Sys2Proof.Machine.execIgnitionDebounceEnd dt s
  | .runOnTimerExpiry dt => Sys2Proof.Machine.execRunOnTimerExpiry dt s
  | .resetPinLow dt => Sys2Proof.Machine.execResetPinLow dt s
  | .resetPinHigh dt => Sys2Proof.Machine.execResetPinHigh dt s
  | .powerOnReset dt => Sys2Proof.Machine.execPowerOnReset dt s
  | .panelLengthAbove120 dt length => Sys2Proof.Machine.execPanelLengthAbove120 dt length s

end Sys2Proof.Machine
end

