-- ==== Sys2Proof/Safety.lean ====
section
/-! DEFINITION. The words in which claims about the BC-460 are stated: when a management request is served at its
arrival, the state it is served in, the tables as one datum, the bounds the manual gives each collection, and the
interlocks between doors and drive. -/

namespace Sys2Proof.Machine

/-! ### Requests -/

/-- A REQUEST that arrives now is served at once: the part is ACTIVE and not held in reset, no RESTART is pending, the
ingress buffer is empty, the egress queue has room for the response, and the link is not declared lost (R187, R189,
R196). -/
def State.serving (s : State) : Bool :=
  !s.resetLow && s.isActive && !s.link.restarting && s.link.ingress.isEmpty && decide (s.link.egress.length < 31) &&
    !s.link.lost

/-- The state in which a request that arrives `dt` µs from now is served: the panel timer restarted (R189). -/
def State.noted (s : State) (dt : Nat) : State :=
  let s := s.elapse dt
  { s with link := { s.link with timer := some (s.after s.system.panelTimeout) } }

/-- A command that is no request acts as it does in ACTIVE: the part is ACTIVE and not held in reset. -/
def State.awake (s : State) : Bool := !s.resetLow && s.isActive

/-! ### Service requests -/

/-- A service request frame is received: the part is ACTIVE, not held in reset, and its diagnostic port is ONLINE or
PASSIVE (R4, R8, R9). -/
def State.onAir (s : State) : Bool := s.awake && s.ports[s.service.entry.port].open_

/-- The state in which the service channel judges a request frame that arrives `dt` µs from now: the reception is
counted, a response in flight abandoned, and the request counted (R6, R7, R169). -/
def State.asked (s : State) (dt : Nat) : State :=
  let t := abandon (countReception s.service.entry.port (s.elapse dt))
  { t with service := { t.service with served := bump32 t.service.served } }

/-! ### Faults -/

/-- The live fault set has room for another pair (R151). -/
def State.hasRoom (s : State) : Bool := decide (s.faults.live.length < 48)

/-- The live fault set holds the pair confirmed. -/
def State.isConfirmed (s : State) (code : FaultCode) (source : Option Nat) : Bool :=
  s.faults.live.any fun e => e.isPair code source && e.confirmed

/-- The live fault set keeps its bound, and holds each pair once (R151). -/
def State.liveBounded (s : State) : Bool :=
  decide (s.faults.live.length ≤ 48) && decide ((s.faults.live.map fun e => (e.code, e.source)).Nodup)

/-! ### Panel link -/

/-- The link's buffers keep their bounds: 4 frames of ingress; 32 of egress, and 32 only with an unsent report among
them (R187, R188). -/
def State.linkBounded (s : State) : Bool :=
  decide (s.link.ingress.length ≤ 4) && decide (s.link.egress.length ≤ 32) &&
    (decide (s.link.egress.length < 32) || hasUnsentReport s.link.egress)

/-! ### Transmit queues -/

/-- The keys of a queue ascend from its head (R20). -/
def ascending : List QueuedFrame → Bool
  | a :: b :: rest => decide (a.key ≤ b.key) && ascending (b :: rest)
  | _ => true

/-! ### Doors and drive -/

/-- The groups that have taken up RUN and ACTIVE between commands: all of them in RUN and ACTIVE, none otherwise
(assumption 7). -/
def State.settled (s : State) : Bool := s.stage = if s.isRun && s.isActive then 6 else 0

/-- The drive permit and the stop-brake request are what the doors give (R143, R144), and slots 249 and 250 publish
the doors and the permit (Table 2.6). -/
def State.interlocked (s : State) : Bool :=
  s.settled && s.drivePermit = s.permit && s.stopBrake = s.brakeWanted &&
    s.slots[slotDrivePermit].value = bit s.drivePermit && s.slots[slotAnyDoorOpen].value = bit s.anyDoorOpen

/-- Every OUTPUT entry keeps the safety-line rule (R116), and a line that follows DRIVE_PERMIT is on only while the
permit is 1 (R118). -/
def State.relaysSafe (s : State) : Bool :=
  allUnits 16 fun l => safetyOk l.val s.outputs[l].entry &&
    (s.outputs[l].entry.source ≠ .drivePermit || !s.outputs[l].on || s.drivePermit)

/-! ### Tables -/

/-- Everything that TABLE_WRITE writes: the entries of the fifteen tables. -/
structure Tables where
  port : List PortEntry
  matchTable : List MatchEntry
  slot : Vector SlotDesc 240
  speed : SpeedEntry
  pulse : List PulseEntry
  input : List InputEntry
  output : List OutputEntry
  gauge : List GaugeEntry
  condition : List CondEntry
  telltale : List TelltaleEntry
  chime : Vector ChimePattern 8
  door : List DoorEntry
  confirm : Vector Nat 21
  healLimit : Nat
  freezeList : Vector (Option Nat) 6
  service : ServiceEntry
  system : SystemEntry
deriving DecidableEq, Repr

def State.tables (s : State) : Tables :=
  { port := s.ports.toArray.toList.map (·.entry), matchTable := s.matchTable.toArray.toList.map (·.entry),
    slot := s.descs, speed := s.speed.entry, pulse := s.pulses.toArray.toList.map (·.entry),
    input := s.inputs.toArray.toList.map (·.entry), output := s.outputs.toArray.toList.map (·.entry),
    gauge := s.gauges.toArray.toList.map (·.entry), condition := s.conds.toArray.toList.map (·.entry),
    telltale := s.telltales.toArray.toList.map (·.entry), chime := s.chime.patterns,
    door := s.doors.toArray.toList.map (·.entry), confirm := s.faults.confirm, healLimit := s.faults.healLimit,
    freezeList := s.faults.freezeList, service := s.service.entry, system := s.system }

/-! ### Frames -/

/-- What a change of an internal slot, a condition or a line can reach: `t` differs from `s` at most in internal slots,
gauges, conditions, telltales, chimes, lines and attention flags, and in no table entry. -/
def Tell (s t : State) : Prop :=
  ∃ sl g c tt ch o l f a,
    t = { s with slots := sl, gauges := g, conds := c, telltales := tt, chime := ch, outputs := o, lamps := l,
                 flags := f, attn := a } ∧
      t.tables = s.tables ∧ ∀ k : Fin 240, t.record k = s.record k

/-- As `Tell`, and the faults and the capture buffer. -/
def Told (s t : State) : Prop :=
  ∃ sl g c tt ch o l f a fu ca,
    t = { s with slots := sl, gauges := g, conds := c, telltales := tt, chime := ch, outputs := o, lamps := l,
                 flags := f, attn := a, faults := fu, capture := ca } ∧
      t.tables = s.tables ∧ ∀ k : Fin 240, t.record k = s.record k

/-- As `Told`, and the doors, the run-on timer, the speed unit and the service channel. -/
def Moved (s t : State) : Prop :=
  ∃ sl g c tt ch o l f a fu ca d ro sL dp sb sp se,
    t = { s with slots := sl, gauges := g, conds := c, telltales := tt, chime := ch, outputs := o, lamps := l,
                 flags := f, attn := a, faults := fu, capture := ca, doors := d, runOn := ro, stopLatch := sL,
                 drivePermit := dp, stopBrake := sb, speed := sp, service := se } ∧
      t.tables = s.tables ∧ ∀ k : Fin 240, t.record k = s.record k

/-- As `Moved`, and the configurable slots with their panel deadlines. -/
def Stored (s t : State) : Prop :=
  ∃ sl g c tt ch o l f a fu ca d ro sL dp sb sp se pd,
    t = { s with slots := sl, gauges := g, conds := c, telltales := tt, chime := ch, outputs := o, lamps := l,
                 flags := f, attn := a, faults := fu, capture := ca, doors := d, runOn := ro, stopLatch := sL,
                 drivePermit := dp, stopBrake := sb, speed := sp, service := se, panelDeadlines := pd } ∧
      t.tables = s.tables

end Sys2Proof.Machine
end

