-- ==== Sys2Proof/WellFormed.lean ====
section
/-! DEFINITION. Which commands are well formed: every number fits the bytes that carry it on the panel link or on a
network (R8, R168, R190, R191), and no number stands where the same bytes would spell NONE or ANY. A command whose
numbers fit but lie out of their table's range is well formed: the part refuses it by rule. -/

namespace Sys2Proof

open Machine

/-- A number fits in `k` bytes. -/
def fitsBytes (k n : Nat) : Bool := decide (n < 256 ^ k)

/-- A field's value fits in its bytes. -/
def fitsField (z : FieldSize) (v : Int) : Bool :=
  if z.signed then decide (-(256 ^ z.bytes : Nat) ≤ 2 * v) && decide (2 * v < (256 ^ z.bytes : Nat))
  else decide (0 ≤ v) && decide (v < (256 ^ z.bytes : Nat))

/-- The values of an entry fit their fields, one by one. -/
def fitsFields : List FieldSize → List Int → Bool
  | [], [] => true
  | z :: zs, v :: vs => fitsField z v && fitsFields zs vs
  | _, _ => false

/-- A number that may be NONE does not stand at the value of `k` bytes that spells NONE. -/
def notNone (k : Nat) (n : Option Nat) : Bool :=
  match n with
  | none => true
  | some n => decide (n < 256 ^ k - 1)

/-- A source number is neither 254 (ANY) nor 255 (NONE). -/
def plainSource (s : FaultSource) : Bool :=
  match s with
  | .num n => decide (n < 254)
  | _ => true

/-! ### Entries -/

def PortEntry.fits (e : PortEntry) : Bool := fitsFields portSizes (portToFields e)

def MatchEntry.fits (e : MatchEntry) : Bool := fitsFields matchSizes (matchToFields e)

def SlotDesc.fits (e : SlotDesc) : Bool := fitsFields slotSizes (slotToFields e)

def SpeedEntry.fits (e : SpeedEntry) : Bool :=
  fitsFields speedSizes (speedToFields e) && notNone 1 e.primary && notNone 1 e.fallback

def PulseEntry.fits (e : PulseEntry) : Bool := fitsFields pulseSizes (pulseToFields e)

def InputEntry.fits (e : InputEntry) : Bool := fitsFields inputSizes (inputToFields e)

def OutputEntry.fits (e : OutputEntry) : Bool := fitsFields outputSizes (outputToFields e)

def GaugeEntry.fits (e : GaugeEntry) : Bool := fitsFields gaugeSizes (gaugeToFields e)

def CondEntry.fits (e : CondEntry) : Bool :=
  fitsFields condSizes (condToFields e) && notNone 1 e.gate && plainSource e.source

def TelltaleEntry.fits (e : TelltaleEntry) : Bool :=
  fitsFields telltaleSizes (telltaleToFields e) && notNone 1 e.chime

def ChimePattern.fits (e : ChimePattern) : Bool := fitsFields chimeSizes (chimeToFields e)

def DoorEntry.fits (e : DoorEntry) : Bool :=
  fitsFields doorSizes (doorToFields e) && notNone 1 e.closingChime && notNone 1 e.emergencyChime &&
    notNone 1 e.parkingBrake

/-- A code entry has an index from 0 to 20, the general entry the index 21. -/
def FaultCfgEntry.fits (index : Nat) (e : FaultCfgEntry) : Bool :=
  match e with
  | .code _ => decide (index ≤ 20) && fitsFields codeSizes (faultCfgToFields e)
  | .general _ freeze => decide (index = 21) && fitsFields generalSizes (faultCfgToFields e) &&
      allUnits 6 fun k => notNone 2 freeze[k]

def ServiceEntry.fits (e : ServiceEntry) : Bool := fitsFields serviceSizes (serviceToFields e)

def SystemEntry.fits (e : SystemEntry) : Bool :=
  fitsFields systemSizes (systemToFields e) && notNone 1 e.parkingBrake && notNone 1 e.stopChime

/-- A TABLE_WRITE's index fits one byte, and its entry, where it names one, fits its fields. -/
def writeFits {α : Type} (index : Nat) (fits : α → Bool) (e : Option α) : Bool :=
  fitsBytes 1 index && e.all fits

/-! ### Requests -/

/-- The requests that a payload of at most 120 bytes can spell. -/
def Request.wellFormed : Request → Bool
  | .badRequest c => fitsBytes 1 c
  | .badLength c => fitsBytes 1 c
  | .badTable c => c = 1 || c = 2
  | .tableWritePort i e => writeFits i PortEntry.fits e
  | .tableWriteMatch i e => writeFits i MatchEntry.fits e
  | .tableWriteSlot i e => writeFits i SlotDesc.fits e
  | .tableWriteSpeed i e => writeFits i SpeedEntry.fits e
  | .tableWritePulse i e => writeFits i PulseEntry.fits e
  | .tableWriteInput i e => writeFits i InputEntry.fits e
  | .tableWriteOutput i e => writeFits i OutputEntry.fits e
  | .tableWriteGauge i e => writeFits i GaugeEntry.fits e
  | .tableWriteCondition i e => writeFits i CondEntry.fits e
  | .tableWriteTelltale i e => writeFits i TelltaleEntry.fits e
  | .tableWriteChime i e => writeFits i ChimePattern.fits e
  | .tableWriteDoor i e => writeFits i DoorEntry.fits e
  | .tableWriteFaultCfg i e => writeFits i (FaultCfgEntry.fits i) e
  | .tableWriteService i e => writeFits i ServiceEntry.fits e
  | .tableWriteSystem i e => writeFits i SystemEntry.fits e
  | .tableRead _ i => fitsBytes 1 i
  | .counterRead g f c => fitsBytes 1 g && fitsBytes 1 f && fitsBytes 1 c
  | .signalWrite k v => fitsBytes 1 k && fitsField s4 v
  | .signalRead k => fitsBytes 1 k
  | .odometerSet m => fitsBytes 4 m
  | .txFrame p f i d => fitsBytes 1 p && fitsBytes 1 f && fitsBytes 4 i && decide (d.length ≤ 112)
  | .doorRequest d _ => fitsBytes 1 d
  | .chime p => fitsBytes 1 p
  | .outputSet l v => fitsBytes 1 l && fitsBytes 1 v
  | .faultRead _ n => fitsBytes 1 n
  | .start _ | .stop | .statusRead | .flagsClear _ | .heartbeat | .restart | .wake | .distanceRead | .warningAck
  | .chimeStop | .faultClear => true

/-! ### Commands -/

/-- A frame's identifier fits its format, and its data have the length its length code gives, none for a remote
frame (R8). -/
def RxFrame.wellFormed (f : RxFrame) : Bool :=
  decide (f.id ≤ f.format.maxId) && f.data.length = if f.remote then 0 else Nat.min f.lengthCode.val 8

/-- A source is one that the code's source kind numbers (Table 8.1). -/
def pairWellFormed (c : FaultCode) (source : Option Nat) : Bool :=
  match codeSources c, source with
  | none, none => true
  | some n, some k => decide (k < n)
  | _, _ => false

/-- A command is well formed. -/
def Instr.wellFormed (i : Instr) : Bool :=
  match i.request? with
  | some (_, r) => r.wellFormed
  | none =>
    match i with
    | .panelFrameReceived _ _ _ payload _ => decide (payload.length ≤ 120)
    | .panelLengthAbove120 _ length => decide (120 < length.toNat)
    | .frameReceived _ _ f => f.wellFormed
    | .frameReceivedParked _ _ f => f.wellFormed
    | .queueAgeExpiry _ _ place => decide (place < 16)
    | .confirmationDeadlineExpiry _ c source => pairWellFormed c source
    | _ => true

end Sys2Proof
end

