-- ==== Sys2Proof/Certificates/Slice0/Obligations.lean ====
section
/-! DEFINITION. The statements for the provers. Each docstring names the rules of spec/ it rests on; where a statement
says what the model chose, it names the log entry. `s.noted dt` is the state in which a request that arrives `dt` µs
from now is served, and `joinResponse tag code result data t` is `t` with that RESPONSE at the tail of the egress queue
(Safety.lean, Machine/Egress.lean). A frame clause names one of the relations of Safety.lean: `Tell s t`, `Told s t`,
`Moved s t` and `Stored s t` say that `t` is `s` but for the fields they list, with every table entry kept. -/

open Sys2Proof Sys2Proof.Machine

/-! ### Commands and requests (chapter 10) -/

/-- A step takes the command at the front of the queue and answers what `exec` makes of it with the queue's rest. The
queue is the model's own (assumption 42). -/
def Obligations.StepRunsTheFrontCommand : Prop :=
  ∀ (c : Instr) (rest : List Instr) (s : State),
    step (s.withPending (c :: rest)) = exec c (s.withPending rest)

/-- R187, R190: a request that arrives while it can be served at once is served at its arrival, and exactly one
RESPONSE with its tag and its request code joins the egress queue. The statement covers every row of the management
requests. -/
def Obligations.RequestIsServedAtArrival : Prop :=
  ∀ (i : Instr) (tag : Byte) (r : Request) (s : State), i.request? = some (tag, r) → s.serving = true →
    exec i s = .next
      (joinResponse tag (requestCode r) (serveRequest r (s.noted i.dt)).result (serveRequest r (s.noted i.dt)).data
        (serveRequest r (s.noted i.dt)).after)

/-- R185, R190, R191: the payload that spells a request fits a frame and is read back as that request, with every
field at every value its bytes admit. The bytes of the parameters are the model's choice (assumption 51), and those of
the rows rest on its reading of the tables (assumptions 28 to 31). -/
def Obligations.RequestPayloadRoundTrip : Prop :=
  ∀ (r : Request) (p : List Byte), r.wellFormed = true → requestPayload r = some p →
    parseRequest p = r ∧ p.length ≤ 120

/-- R185, R186, R187: a complete REQUEST frame with a good CRC has the effect of the request its payload spells. A bad
CRC, a frame of another type received while ACTIVE, a gap within a frame and a length above 120 each discard the frame
and increase the receive-error counter, the receiver waits for a start byte, and nothing else changes. A waiting
receiver ignores every byte but 0xA5, reads the bytes of a frame with a payload of at most 120 bytes as that frame, and
ends a frame at once at a length above 120. Which bytes spell a request is the model's choice for the parameters
(assumption 51) and rests on its reading of the tables for the rows (assumptions 28 to 31). -/
def Obligations.FramesAreServedOrCounted : Prop :=
  (∀ (r : Request) (p : List Byte) (dt : Nat) (tag : Byte) (s : State), r.wellFormed = true →
    requestPayload r = some p → s.serving = true →
    let v := (awaitStart s).noted dt
    exec (.panelFrameReceived dt 1 tag p (frameCrc 1 tag p)) s = .next
      (joinResponse tag (requestCode r) (serveRequest r v).result (serveRequest r v).data (serveRequest r v).after)) ∧
  (∀ (s : State) (dt : Nat), s.resetLow = false →
    let t : State := { s.elapse dt with
      link := { s.link with receiver := .waiting, receiveErrors := bump32 s.link.receiveErrors } }
    exec (.byteGapAbort dt) s = .next t ∧
    (∀ length : Byte, 120 < length.toNat → exec (.panelLengthAbove120 dt length) s = .next t) ∧
    (∀ (type tag : Byte) (p : List Byte) (crc : BitVec 16), crc ≠ frameCrc type tag p →
      exec (.panelFrameReceived dt type tag p crc) s = .next t) ∧
    (∀ (type tag : Byte) (p : List Byte), type ≠ 1 → s.power = .active →
      exec (.panelFrameReceived dt type tag p (frameCrc type tag p)) s = .next t)) ∧
  (∀ (b : Byte) (rest : List Byte), b ≠ 0xA5 →
    Receiver.waiting.takeAll (b :: rest) = Receiver.waiting.takeAll rest) ∧
  (∀ (type tag : Byte) (p : List Byte) (crc : BitVec 16), p.length ≤ 120 →
    Receiver.waiting.takeAll (frameBytes type tag p crc) = (.waiting, [.frame type tag p crc])) ∧
  ∀ type tag length : Byte, 120 < length.toNat →
    Receiver.waiting.takeAll [0xA5, type, tag, length] = (.waiting, [.tooLong length])

/-! ### Tables (chapter 10 and each table's chapter) -/

/-- R54, R46, R124, R166, R192, R150: a TABLE_WRITE that passes its checks replaces the whole entry and is answered OK;
a SPEED write clears the residues, and a SYSTEM write decides the attention line afresh. The other fields stay. Stated
where nothing runs that the write also touches: no response in flight (SERVICE), no output test (SYSTEM), no live entry
of the code (FAULT_CFG). -/
def Obligations.PlainTableWritesReplaceTheEntry : Prop :=
  ∀ (s : State) (dt : Nat) (tag : Byte), s.serving = true →
    (∀ e, s.mode = .setup → speedFields e = true → speedSlots e = true →
      exec (.tableWriteSpeed dt tag 0 (some e)) s = .next (joinResponse tag 1 .ok .none
        { s.noted dt with speed := { s.speed with entry := e, pulseResidue := 0, speedResidue := 0 } })) ∧
    (∀ (k : Fin 4) e, s.mode = .setup → pulseFields e = true →
      exec (.tableWritePulse dt tag k (some e)) s = .next (joinResponse tag 1 .ok .none
        { s.noted dt with pulses := vput s.pulses k { s.pulses[k] with entry := e } })) ∧
    (∀ (d : Fin 4) e, s.mode = .setup → doorFields e = true →
      exec (.tableWriteDoor dt tag d (some e)) s = .next (joinResponse tag 1 .ok .none
        { s.noted dt with doors := vput s.doors d { s.doors[d] with entry := e } })) ∧
    (∀ e, s.mode = .setup → serviceFields e = true → e.responseId ≠ e.requestId →
      s.service.response = none → exec (.tableWriteService dt tag 0 (some e)) s = .next (joinResponse tag 1 .ok .none
        { s.noted dt with service := { s.service with entry := e } })) ∧
    (∀ e, systemFields e = true → s.service.test = none →
      exec (.tableWriteSystem dt tag 0 (some e)) s = .next (joinResponse tag 1 .ok .none
        (decideAttn { s.noted dt with system := e }))) ∧
    (∀ heal freeze, generalFields heal freeze = true →
      exec (.tableWriteFaultCfg dt tag 21 (some (.general heal freeze))) s = .next (joinResponse tag 1 .ok .none
        { s.noted dt with faults := { s.faults with healLimit := heal, freezeList := freeze } })) ∧
    (∀ (c : FaultCode) ms, confirmOk c ms = true → (∀ e ∈ s.faults.live, e.code ≠ c) →
      exec (.tableWriteFaultCfg dt tag (codeNumber c) (some (.code ms))) s = .next (joinResponse tag 1 .ok .none
        { s.noted dt with faults := { s.faults with confirm := vput s.faults.confirm (codeNumber c) ms } }))

/-- R2: a PORT write that is taken replaces the record; the port takes up ONLINE or DISABLED, its queue is flushed and
counted, a running recovery or quiet time is abandoned, and PORT_OFF is cleared if the port was OFF. The other ports
and the other tables stay. -/
def Obligations.PortWriteTakesUpTheRecord : Prop :=
  ∀ (s : State) (dt : Nat) (tag : Byte) (p : Fin 3) (e : PortEntry), s.serving = true → s.mode = .setup →
    portFields e = true →
    ∃ t : State, exec (.tableWritePort dt tag p (some e)) s = .next (joinResponse tag 1 .ok .none t) ∧
      t.ports[p].entry = e ∧ t.ports[p].state = (if e.enabled then .online else .disabled) ∧
      t.ports[p].queue = [] ∧ t.ports[p].recovering = false ∧ t.ports[p].quiet = none ∧
      t.ports[p].activity = s.ports[p].activity ∧
      t.ports[p].counters =
        { s.ports[p].counters with flushed := add32 s.ports[p].counters.flushed s.ports[p].queue.length } ∧
      (∀ q, q ≠ p → t.ports[q] = s.ports[q]) ∧
      (s.ports[p].state = .off → t.isLive .portOff (some p.val) = false) ∧
      (s.ports[p].state ≠ t.ports[p].state → t.flag .portState = true) ∧
      t.tables = { s.tables with port := t.tables.port } ∧ Moved { s.noted dt with ports := t.ports } t

/-- R10, R25: a taken MATCH write replaces the entry, sets both its counters to 0 and clears FRAME_SHORT and
FRAME_MISSING of the entry; a taken SLOT write replaces the descriptor and the slot becomes EMPTY with value 0, raw 0,
the clamped mark clear, clamp count 0 and last change now. No other entry or configurable slot changes. That a moment
within a ms is stamped with the whole ms before it is the model's choice (assumption 55). -/
def Obligations.MatchAndSlotWritesStartAfresh : Prop :=
  ∀ (s : State) (dt : Nat) (tag : Byte), s.serving = true → s.mode = .setup →
    (∀ (k : Fin 128) e, matchFields e = true →
      ∃ t : State, exec (.tableWriteMatch dt tag k (some e)) s = .next (joinResponse tag 1 .ok .none t) ∧
        t.isLive .frameShort (some k.val) = false ∧ t.isLive .frameMissing (some k.val) = false ∧
        Told { s.noted dt with
          matchTable := vput s.matchTable k { s.matchTable[k] with entry := e, hits := 0, shorts := 0 } } t) ∧
    (∀ (k : Fin 240) e, slotFields e = true → slotLimits e = true →
      (e.kind = .frame → s.frameFits e = true) →
      ∃ t : State, exec (.tableWriteSlot dt tag k (some e)) s = .next (joinResponse tag 1 .ok .none t) ∧
        t.record k = { value := 0, state := .empty, raw := 0, clamped := false, clampCount := 0,
                       lastChange := (s.elapse dt).msNow } ∧
        (∀ j, j ≠ k → t.record j = s.record j) ∧ Stored { s.noted dt with descs := vput s.descs k e } t)

/-- R113, R114, R116: a taken INPUT write keeps the line's accepted level and discards a pending change; where the
line's level differs, a new pending change begins now. A taken OUTPUT write sets the line's panel value to 0, and the
lines are driven again. -/
def Obligations.LineTableWritesReplaceTheEntry : Prop :=
  ∀ (s : State) (dt : Nat) (tag : Byte), s.serving = true → s.mode = .setup →
    (∀ (l : Fin 24) e, inputFields e = true → s.functionHeld l e.function = false →
      (s.inputs[l].line = s.inputs[l].accepted →
        exec (.tableWriteInput dt tag l (some e)) s = .next (joinResponse tag 1 .ok .none
          { s.noted dt with inputs := vput s.inputs l { s.inputs[l] with entry := e, pending := none } })) ∧
      (s.inputs[l].line ≠ s.inputs[l].accepted → e.debounce ≠ 0 →
        exec (.tableWriteInput dt tag l (some e)) s = .next (joinResponse tag 1 .ok .none
          { s.noted dt with
            inputs := vput s.inputs l { s.inputs[l] with entry := e, pending := some (s.now + dt) } }))) ∧
    (∀ (l : Fin 16) e, outputFields e = true → safetyOk l e = true →
      exec (.tableWriteOutput dt tag l (some e)) s = .next (joinResponse tag 1 .ok .none
        (redrive { s.noted dt with
          outputs := vput s.outputs l { s.outputs[l] with entry := e, panelValue := false } })))

/-- R68, R96, R105, R107: the tables that may be written in RUN. A gauge enabled by a GAUGE write begins homing at
attempt 1, and one disabled is OFF unless it is in FAULT. A condition written in SETUP is OFF with both truths false.
A telltale written is DARK, or LIT_NEW where its condition is true in RUN and ACTIVE. A pattern is replaced. No other
table is written. -/
def Obligations.WarningTableWritesTakeEffect : Prop :=
  ∀ (s : State) (dt : Nat) (tag : Byte), s.serving = true →
    (∀ (g : Fin 6) e, gaugeFields e = true →
      (s.mode = .run → e.enabled = true → s.noSource e.source = false) →
      ∃ t : State, exec (.tableWriteGauge dt tag g (some e)) s = .next (joinResponse tag 1 .ok .none t) ∧
        t.gauges[g].entry = e ∧
        (s.gauges[g].entry.enabled = false → e.enabled = true →
          t.gauges[g].state = .homing ∧ t.gauges[g].attempt = 1 ∧ t.gauges[g].position = 0 ∧
            t.gauges[g].travel = some (s.now + dt + 1000 * (e.fullScale + 200))) ∧
        (s.gauges[g].entry.enabled = true → e.enabled = false → s.gauges[g].state ≠ .fault →
          t.gauges[g].state = .off) ∧
        t.tables = { s.tables with gauge := t.tables.gauge } ∧ Moved { s.noted dt with gauges := t.gauges } t) ∧
    (∀ (c : Fin 96) e, condFields e = true → s.condReferences c e = true →
      ∃ t : State, exec (.tableWriteCondition dt tag c (some e)) s = .next (joinResponse tag 1 .ok .none t) ∧
        t.conds[c].entry = e ∧
        (s.mode = .setup → s.settled = true → t.conds[c] = CondUnit.clear { s.conds[c] with entry := e }) ∧
        t.tables = { s.tables with condition := t.tables.condition } ∧
        Tell { s.noted dt with conds := vput s.conds c { s.conds[c] with entry := e } } t) ∧
    (∀ (k : Fin 64) e, telltaleFields e = true →
      ∃ t : State, exec (.tableWriteTelltale dt tag k (some e)) s = .next (joinResponse tag 1 .ok .none t) ∧
        t.telltales[k].entry = e ∧
        (∀ c : Fin 96, c.val = e.condition →
          t.telltales[k].state =
            if e.enabled && s.isRun && s.isActive && s.conds[c].isTrue then .litNew else .dark) ∧
        (∀ j, j ≠ k → t.telltales[j] = s.telltales[j]) ∧
        Tell { s.noted dt with telltales := vput s.telltales k { s.telltales[k] with entry := e } } t) ∧
    (∀ (p : Fin 8) e, chimeFields e = true →
      ∃ t : State, exec (.tableWriteChime dt tag p (some e)) s = .next (joinResponse tag 1 .ok .none t) ∧
        t.chime.patterns = vput s.chime.patterns p e ∧ t.chime.pending = s.chime.pending ∧
        Tell { s.noted dt with chime := { s.chime with patterns := vput s.chime.patterns p e } } t)

/-- R190, R191: a TABLE_WRITE that is refused changes nothing but the egress queue, whatever the table, the index and
the entry; in RUN the tables marked LOCKED refuse every write that names an entry. -/
def Obligations.RefusedTableWritesChangeNothing : Prop :=
  (∀ (r : Request) (s : State), requestCode r = 1 → (serveRequest r s).result ≠ .ok →
    (serveRequest r s).after = s ∧ (serveRequest r s).data = .none) ∧
  ∀ (s : State) (dt : Nat) (tag : Byte), s.serving = true → s.mode = .run →
    (∀ (k : Fin 3) e, exec (.tableWritePort dt tag k e) s = .next (joinResponse tag 1 .locked .none (s.noted dt))) ∧
    (∀ (k : Fin 128) e,
      exec (.tableWriteMatch dt tag k e) s = .next (joinResponse tag 1 .locked .none (s.noted dt))) ∧
    (∀ (k : Fin 240) e,
      exec (.tableWriteSlot dt tag k e) s = .next (joinResponse tag 1 .locked .none (s.noted dt))) ∧
    (∀ e, exec (.tableWriteSpeed dt tag 0 e) s = .next (joinResponse tag 1 .locked .none (s.noted dt))) ∧
    (∀ (k : Fin 4) e,
      exec (.tableWritePulse dt tag k e) s = .next (joinResponse tag 1 .locked .none (s.noted dt))) ∧
    (∀ (k : Fin 24) e,
      exec (.tableWriteInput dt tag k e) s = .next (joinResponse tag 1 .locked .none (s.noted dt))) ∧
    (∀ (k : Fin 16) e,
      exec (.tableWriteOutput dt tag k e) s = .next (joinResponse tag 1 .locked .none (s.noted dt))) ∧
    (∀ (k : Fin 4) e, exec (.tableWriteDoor dt tag k e) s = .next (joinResponse tag 1 .locked .none (s.noted dt))) ∧
    (∀ e, exec (.tableWriteService dt tag 0 e) s = .next (joinResponse tag 1 .locked .none (s.noted dt)))

/-- R191: a TABLE_READ with an index in range returns the entry as last written, followed by the dynamic state its
chapter names, in either mode, and changes nothing; an index out of range is refused BAD_INDEX. A door's deadline is
returned in ms of the present time base, which is the model's choice (assumption 52). That a moment within a ms is
stamped with the whole ms before it is the model's choice (assumption 55). -/
def Obligations.TableReadReturnsTheEntry : Prop :=
  ∀ (s : State) (dt : Nat) (tag : Byte), s.serving = true →
    (∀ (t : TableId) (index : Nat) (d : ResponseData), (s.noted dt).entryData t index = some d →
      exec (.tableRead dt tag t index) s = .next (joinResponse tag 2 .ok d (s.noted dt))) ∧
    (∀ (t : TableId) (index : Nat), (s.noted dt).entryData t index = none →
      exec (.tableRead dt tag t index) s = .next (joinResponse tag 2 .badIndex .none (s.noted dt))) ∧
    (∀ p : Fin 3, s.entryData .port p = some (.portEntry s.ports[p].entry)) ∧
    (∀ e : Fin 128, s.entryData .matchTable e =
      some (.matchEntry s.matchTable[e].entry s.matchTable[e].hits s.matchTable[e].shorts)) ∧
    (∀ k : Fin 240, s.entryData .slot k = some (.slotEntry s.descs[k])) ∧
    s.entryData .speed 0 = some (.speedEntry s.speed.entry) ∧
    (∀ i : Fin 4, s.entryData .pulse i = some (.pulseEntry s.pulses[i].entry)) ∧
    (∀ l : Fin 24, s.entryData .input l =
      some (.inputEntry s.inputs[l].entry s.inputs[l].active s.inputs[l].pending.isSome)) ∧
    (∀ k : Fin 8, s.entryData .output k = some (.outputEntry s.outputs[lineOfLamp k].entry s.outputs[lineOfLamp k].on
      (some s.lamps[k].protection.name))) ∧
    (∀ l : Fin 16, 8 ≤ l.val →
      s.entryData .output l = some (.outputEntry s.outputs[l].entry s.outputs[l].on none)) ∧
    (∀ g : Fin 6, s.entryData .gauge g = some (.gaugeEntry s.gauges[g].entry)) ∧
    (∀ k : Fin 64, s.entryData .telltale k =
      some (.telltaleEntry s.telltales[k].entry s.telltales[k].state (s.presentation k))) ∧
    (∀ p : Fin 8, s.entryData .chime p = some (.chimeEntry s.chime.patterns[p])) ∧
    (∀ d : Fin 4, s.entryData .door d = some (.doorEntry s.doors[d].entry
      { state := s.doors[d].state, released := s.doors[d].released, openCommand := s.doors[d].openCommand,
        deadline := s.doors[d].deadline.map s.msOf, reversals := s.doors[d].reversals, cycles := s.doors[d].cycles,
        obstructions := s.doors[d].obstructions, refused := s.doors[d].refused })) ∧
    (∀ c : Fin 96, s.entryData .condition c =
      some (.conditionEntry s.conds[c].entry s.conds[c].state s.conds[c].comparison)) ∧
    (∀ n : Fin 21, s.entryData .faultCfg n = some (.faultCfgEntry (.code s.faults.confirm[n]))) ∧
    s.entryData .faultCfg 21 = some (.faultCfgEntry (.general s.faults.healLimit s.faults.freezeList)) ∧
    s.entryData .service 0 = some (.serviceEntry s.service.entry) ∧
    s.entryData .system 0 = some (.systemEntry s.system) ∧ s.entryData .system 1 = none ∧
    s.entryData .slot 256 = none ∧ s.entryData .faultCfg 22 = none

/-- R193, R18, R43, R105, R143: START in SETUP with every table consistent is taken: the part is in RUN with the label,
each enabled supervised entry AWAITING, every slot that is not an input's EMPTY, and the drive permit what the doors
give; an enabled telltale that was DARK is LIT_NEW where its condition is true once the doors have been derived (stated
with the ignition off, where no bulb check begins). That a telltale lights by its condition as it stands then, and that
the model's stage is at its settled value, is the model's choice (assumption 7). A failing START check is answered
CHECK_FAILED with the entry, and in RUN START is refused WRONG_MODE, and nothing changes. That a moment within a ms is
stamped with the whole ms before it is the model's choice (assumption 55). -/
def Obligations.StartTakesUpRun : Prop :=
  ∀ (s : State) (dt : Nat) (tag : Byte) (label : BitVec 32), s.serving = true →
    (s.mode = .setup → s.startCheck = none →
      ∃ t : State, exec (.start dt tag label) s = .next (joinResponse tag 3 .ok .none t) ∧
        t.mode = .run ∧ t.power = .active ∧ t.label = label ∧ t.tables = s.tables ∧ t.settled = true ∧
        t.drivePermit = t.permit ∧ t.link = (s.noted dt).link ∧ t.ports = s.ports ∧ t.inputs = s.inputs ∧
        t.ignition = s.ignition ∧ t.cycles = s.cycles ∧ t.speed.total = s.speed.total ∧ t.speed.delta = s.speed.delta ∧
        t.base = s.base ∧ t.direct = s.direct ∧
        (∀ e : Fin 128, t.matchTable[e].supervision =
          if s.matchTable[e].entry.enabled && s.matchTable[e].entry.timeout != 0 then
            .awaiting (s.now + dt + 1000 * s.matchTable[e].entry.timeout)
          else .none) ∧
        (∀ k : Fin 240, s.descs[k].kind ≠ .input →
          t.record k = { value := 0, state := .empty, raw := 0, clamped := false, clampCount := 0,
                         lastChange := (s.elapse dt).msNow }) ∧
        (s.ignition.accepted = true → t.bulb = some (s.now + dt + 1000 * s.system.bulbTime)) ∧
        (s.ignition.accepted = false → ∀ (k : Fin 64) (c : Fin 96), s.telltales[k].entry.condition = c.val →
          s.telltales[k].state = .dark → t.telltales[k].state =
            if s.telltales[k].entry.enabled && t.conds[c].isTrue then .litNew else .dark)) ∧
    (∀ table index, s.mode = .setup → s.startCheck = some (table, index) →
      exec (.start dt tag label) s =
        .next (joinResponse tag 3 .checkFailed (.checkFailed table index) (s.noted dt))) ∧
    (s.mode = .run → exec (.start dt tag label) s = .next (joinResponse tag 3 .wrongMode .none (s.noted dt)))

/-- R194 and the STOP rules it gathers (R18, R43, R47, R97, R105, R112, R119, R146): STOP in RUN is taken: the part is
in SETUP, no entry is supervised, every configurable slot is EMPTY, no pulse is measured, every condition OFF, every
telltale DARK, every door DISABLED with released and open command 0, no chime pending, every line off, the drive
permit and the stop-brake request 0. The tables are kept. In SETUP STOP is refused WRONG_MODE. -/
def Obligations.StopLeavesRun : Prop :=
  ∀ (s : State) (dt : Nat) (tag : Byte), s.serving = true →
    (s.mode = .run →
      ∃ t : State, exec (.stop dt tag) s = .next (joinResponse tag 4 .ok .none t) ∧
        t.mode = .setup ∧ t.power = .active ∧ t.tables = s.tables ∧ t.link = (s.noted dt).link ∧
        (∀ e : Fin 128, t.matchTable[e].supervision = .none) ∧
        (∀ k : Fin 240, (t.record k).state = .empty ∧ (t.record k).value = 0) ∧
        (∀ i : Fin 4, t.pulses[i].meas = none) ∧
        (∀ c : Fin 96, t.conds[c].state = .off ∧ t.conds[c].deadline = none) ∧
        (∀ k : Fin 64, t.telltales[k].state = .dark) ∧
        (∀ d : Fin 4, t.doors[d].state = .disabled ∧ t.doors[d].released = false ∧
          t.doors[d].openCommand = false ∧ t.doors[d].cycles = s.doors[d].cycles) ∧
        t.chime.grant = none ∧ (∀ r : Fin 70, t.chime.pending[r] = none) ∧
        (∀ l : Fin 16, t.outputs[l].on = false) ∧
        t.bulb = none ∧ t.stopLatch = false ∧ t.drivePermit = false ∧ t.stopBrake = false ∧ t.label = s.label ∧
        t.ports = s.ports ∧ t.inputs = s.inputs ∧ t.ignition = s.ignition ∧ t.cycles = s.cycles ∧
        t.speed.total = s.speed.total ∧ t.speed.delta = s.speed.delta ∧ t.base = s.base ∧ t.direct = s.direct) ∧
    (s.mode = .setup → exec (.stop dt tag) s = .next (joinResponse tag 4 .wrongMode .none (s.noted dt)))

/-- R195, R7, R199, R196: STATUS_READ reports and clears the activity indications; FLAGS_CLEAR clears the flags its
set names and decides the attention line afresh, and is refused BAD_FIELD with a bit above 11 set; HEARTBEAT, and WAKE
while ACTIVE, are answered OK and change nothing. The counts of the ingress buffer and of the egress queue that the
status carries are those after the request has left the buffer and before its response joins (assumption 38). -/
def Obligations.StatusAndFlagRequests : Prop :=
  ∀ (s : State) (dt : Nat) (tag : Byte), s.serving = true →
    exec (.statusRead dt tag) s = .next (joinResponse tag 5 .ok (.status (s.noted dt).status)
      { s.noted dt with ports := vmap (fun u => { u with activity := false }) s.ports }) ∧
    (∀ f : BitVec 16, f.extractLsb' 12 4 = 0 →
      exec (.flagsClear dt tag f) s =
        .next (joinResponse tag 6 .ok (.flags (s.flags &&& ~~~(f.setWidth 12)))
          (decideAttn { s.noted dt with flags := s.flags &&& ~~~(f.setWidth 12) }))) ∧
    (∀ f : BitVec 16, f.extractLsb' 12 4 ≠ 0 →
      exec (.flagsClear dt tag f) s = .next (joinResponse tag 6 .badField .none (s.noted dt))) ∧
    exec (.heartbeat dt tag) s = .next (joinResponse tag 8 .ok .none (s.noted dt)) ∧
    exec (.wake dt tag) s = .next (joinResponse tag 0x0A .ok .none (s.noted dt))

/-- R195 (Table 10.6a), R28, R165: the reading requests return the counters of a group, a slot's record and the fault
memory, first fault and live faults, without change. A group above 5, a range of MATCH counters that is empty, longer
than 14 entries or past entry 127, and a selector outside the four are refused BAD_FIELD, and a slot or position out of
range BAD_INDEX. That a position is judged whatever the selector, and before it, is the model's reading (assumption
26); that a LIST of 24 or more records and a LIVE of 17 or more entries are each one RESPONSE with every item is its
choice (assumption 50). That a moment within a ms is stamped with the whole ms before it is the model's choice
(assumption 55). -/
def Obligations.ReadingRequestsChangeNothing : Prop :=
  ∀ (s : State) (dt : Nat) (tag : Byte), s.serving = true →
    (∀ first count, exec (.counterRead dt tag 0 first count) s =
      .next (joinResponse tag 7 .ok (.counters s.portCounters) (s.noted dt))) ∧
    (∀ first count, 1 ≤ count → count ≤ 14 → first + count ≤ 128 →
      exec (.counterRead dt tag 1 first count) s = .next
        (joinResponse tag 7 .ok (.matchCounters first count (s.matchCounters first count)) (s.noted dt))) ∧
    (∀ first count, count = 0 ∨ 14 < count ∨ 128 < first + count →
      exec (.counterRead dt tag 1 first count) s =
        .next (joinResponse tag 7 .badField .none (s.noted dt))) ∧
    (∀ first count, exec (.counterRead dt tag 2 first count) s =
      .next (joinResponse tag 7 .ok (.counters s.doorCounters) (s.noted dt))) ∧
    (∀ first count, exec (.counterRead dt tag 3 first count) s =
      .next (joinResponse tag 7 .ok (.counters [s.service.served, s.service.completed, s.service.abandoned])
        (s.noted dt))) ∧
    (∀ first count, exec (.counterRead dt tag 4 first count) s =
      .next (joinResponse tag 7 .ok (.counters [s.link.receiveErrors, s.link.ingressOverflow, s.link.forwardDrops,
        s.link.reportOverrun, s.link.linkLosses]) (s.noted dt))) ∧
    (∀ first count, exec (.counterRead dt tag 5 first count) s =
      .next (joinResponse tag 7 .ok (.counters [s.faults.liveOverflow, s.faults.memoryOverflow]) (s.noted dt))) ∧
    (∀ group first count, 5 < group → exec (.counterRead dt tag group first count) s =
      .next (joinResponse tag 7 .badField .none (s.noted dt))) ∧
    (∀ k : Fin 256, exec (.signalRead dt tag k) s =
      .next (joinResponse tag 0x11 .ok (.slotRecord k s.slots[k]) (s.noted dt))) ∧
    (∀ k, 256 ≤ k →
      exec (.signalRead dt tag k) s = .next (joinResponse tag 0x11 .badIndex .none (s.noted dt))) ∧
    (∀ p : Fin 40, exec (.faultRead dt tag (some .list) p) s =
      .next (joinResponse tag 0x30 .ok (.faultList s.faultItems s.faults.memoryOverflow) (s.noted dt))) ∧
    (∀ p : Fin 40, exec (.faultRead dt tag (some .record) p) s =
      .next (joinResponse tag 0x30 .ok (.faultRecord s.faults.memory[p]) (s.noted dt))) ∧
    (∀ p : Fin 40, exec (.faultRead dt tag (some .latch) p) s =
      .next (joinResponse tag 0x30 .ok (.firstFault s.faults.latch) (s.noted dt))) ∧
    (∀ p : Fin 40, exec (.faultRead dt tag (some .live) p) s =
      .next (joinResponse tag 0x30 .ok (.liveFaults s.liveItems s.faults.liveOverflow) (s.noted dt))) ∧
    (∀ p : Fin 40, exec (.faultRead dt tag none p) s =
      .next (joinResponse tag 0x30 .badField .none (s.noted dt))) ∧
    (∀ (selector : Option FaultSelector) (p : Nat), 40 ≤ p → exec (.faultRead dt tag selector p) s =
      .next (joinResponse tag 0x30 .badIndex .none (s.noted dt)))

/-- R64, R65: DISTANCE_READ returns the delta and the total and empties the delta; ODOMETER_SET in SETUP, not below
what fault memory holds, sets the total, clears the delta and both residues and publishes TOTAL_DISTANCE, and in RUN
it is refused WRONG_MODE. -/
def Obligations.DistanceRequests : Prop :=
  ∀ (s : State) (dt : Nat) (tag : Byte), s.serving = true →
    exec (.distanceRead dt tag) s = .next (joinResponse tag 0x12 .ok (.distance s.speed.delta s.speed.total)
      { s.noted dt with speed := { s.speed with delta := 0 } }) ∧
    (∀ metres, s.mode = .setup → s.belowMemory metres = false →
      ∃ t : State, exec (.odometerSet dt tag metres) s = .next (joinResponse tag 0x13 .ok (.total metres) t) ∧
        t.slots[slotTotalDistance].value = (metres / 100 : Nat) ∧
        Tell { s.noted dt with
          speed := { s.speed with total := metres, delta := 0, pulseResidue := 0, speedResidue := 0 } } t) ∧
    (∀ metres, s.mode = .setup → s.belowMemory metres = true →
      exec (.odometerSet dt tag metres) s = .next (joinResponse tag 0x13 .badField .none (s.noted dt))) ∧
    (∀ metres, s.mode = .run →
      exec (.odometerSet dt tag metres) s = .next (joinResponse tag 0x13 .wrongMode .none (s.noted dt)))

/-- R196, R206: RESTART is answered OK; at the departure of that response the part restarts: SETUP and ACTIVE, label 0,
every table at its value after restart, the live set and the link's queues empty, and the retained area kept, every
record INACTIVE. A RESET pin that returns high restarts the part in the same way. -/
def Obligations.RestartKeepsTheRetainedArea : Prop :=
  (∀ (s : State) (dt : Nat) (tag : Byte), s.serving = true →
    exec (.restart dt tag) s = .next (joinResponse tag 9 .ok .none
      { s.noted dt with link := { (s.noted dt).link with restarting := true } })) ∧
  ∀ (s : State) (dt : Nat) (c : Instr),
    (c = .resetPinHigh dt ∧ s.resetLow = true) ∨
      (c = .egressFrameSent dt ∧ s.awake = true ∧ s.link.restarting = true ∧
        ∃ tag rest, s.link.egress = .response tag 9 .ok .none :: rest) →
    ∃ t : State, exec c s = .next t ∧ t.mode = .setup ∧ t.power = .active ∧ t.label = 0 ∧
      t.resetLow = false ∧ t.tables = State.reset.tables ∧ t.base = t.now ∧ t.link.egress = [] ∧ t.link.ingress = [] ∧
      t.faults.live = [] ∧ t.link.restarting = false ∧ t.ports = State.reset.ports ∧
      t.matchTable = State.reset.matchTable ∧ t.gauges = State.reset.gauges ∧ t.conds = State.reset.conds ∧
      t.telltales = State.reset.telltales ∧ t.outputs = State.reset.outputs ∧ t.chime = State.reset.chime ∧
      t.service = State.reset.service ∧ t.capture = State.reset.capture ∧ t.drivePermit = false ∧
      t.stopBrake = false ∧
      t.speed.total = s.speed.total ∧ t.speed.delta = s.speed.delta ∧ t.cycles = s.cycles ∧
      t.faults.memory = inactiveMemory s.faults.memory ∧ t.faults.latch = s.faults.latch ∧
      t.faults.memoryOverflow = s.faults.memoryOverflow ∧
      (∀ d : Fin 4, t.doors[d].cycles = s.doors[d].cycles ∧ t.doors[d].obstructions = s.doors[d].obstructions) ∧
      t.flags = (if s.flag .retainedLost then 256 else 0) ∧
      t.slots[slotTotalDistance].value = (s.speed.total / 100 : Nat) ∧ t.slots[slotIgnitionCycles].value = s.cycles

/-- R206, R207: a RESET pin that is low holds the part with every line off and ATTN released; a power-on reset clears
the retained area and sets RETAINED_LOST, which asserts ATTN. -/
def Obligations.ResetPinAndPowerOn : Prop :=
  ∀ (s : State) (dt : Nat),
    exec (.resetPinLow dt) s = .next { s.elapse dt with
      resetLow := true, attn := false, outputs := vmap (fun u => { u with on := false }) s.outputs } ∧
    ∃ t : State, exec (.powerOnReset dt) s = .next t ∧ t.mode = .setup ∧ t.power = .active ∧
      t.tables = State.reset.tables ∧ t.speed.total = 0 ∧ t.speed.delta = 0 ∧ t.cycles = 0 ∧
      t.faults = State.reset.faults ∧ (∀ d : Fin 4, t.doors[d].cycles = 0 ∧ t.doors[d].obstructions = 0) ∧
      t.flags = 256 ∧ (s.resetLow = false → t.attn = true)

/-- R5, R8, R80, R115, R145, R196, R201, R202, R204, R205: a valid WAKE in PARKED wakes the part, and its response OK is
the first frame of the egress queue; the mode and the tables are kept, the time base starts again, every enabled gauge
begins homing, and with the ignition off the run-on timer starts. Any other valid request in PARKED is discarded. A
frame received on an enabled, wake-enabled port is counted, sets the activity indication, wakes the part and is not
handled further; on another port it changes nothing. An accepted ignition on wakes the part and is an ignition-on
event; an accepted change of a door's emergency or closed input wakes it, and in RUN every enabled door is derived from
the levels as they then stand; a change accepted on any other line is no more than accepted. -/
def Obligations.WakeSourcesWakeAParkedPart : Prop :=
  (∀ (s : State) (dt : Nat) (tag : Byte), s.resetLow = false → s.power = .parked →
    (∃ t : State, exec (.wake dt tag) s = .next t ∧ t.power = .active ∧ t.mode = s.mode ∧ t.tables = s.tables ∧
      t.base = s.now + dt ∧ t.link.egress = [.response tag 0x0A .ok .none] ∧ t.link.ingress = [] ∧
      t.link.timer = some (s.now + dt + 1000 * s.system.panelTimeout) ∧
      (∀ g : Fin 6, s.gauges[g].entry.enabled = true → t.gauges[g].state = .homing ∧ t.gauges[g].attempt = 1) ∧
      (s.ignition.accepted = false → t.runOn ≠ none) ∧ t.label = s.label ∧ t.ignition = s.ignition ∧
      t.cycles = s.cycles ∧ t.ports = s.ports ∧ t.inputs = s.inputs ∧ t.speed.total = s.speed.total ∧
      t.speed.delta = s.speed.delta) ∧
    (∀ (i : Instr) (r : Request), i.request? = some (tag, r) → r ≠ .wake →
      exec i s = .next (s.elapse i.dt))) ∧
  (∀ (s : State) (dt : Nat) (p : Fin 3) (f : RxFrame), s.resetLow = false → s.power = .parked →
    (s.ports[p].entry.enabled = true → s.ports[p].entry.wakeEnabled = true →
      ∃ t : State, exec (.frameReceivedParked dt p f) s = .next t ∧ t.power = .active ∧ t.mode = s.mode ∧
        t.base = s.now + dt ∧ t.ports = vput s.ports p { s.ports[p] with
          activity := true, counters := { s.ports[p].counters with
            received := bump32 s.ports[p].counters.received } } ∧
        (∀ e : Fin 128, t.matchTable[e].hits = s.matchTable[e].hits) ∧ t.service.served = s.service.served ∧
        t.tables = s.tables ∧ t.label = s.label ∧ t.ignition = s.ignition ∧ t.cycles = s.cycles ∧
        t.inputs = s.inputs ∧ t.speed.total = s.speed.total ∧ t.speed.delta = s.speed.delta) ∧
    ((s.ports[p].entry.enabled && s.ports[p].entry.wakeEnabled) = false →
      exec (.frameReceivedParked dt p f) s = .next (s.elapse dt))) ∧
  (∀ (s : State) (dt start : Nat), s.resetLow = false → s.power = .parked → s.ignition.first = true →
    s.ignition.accepted = false → s.ignition.pending = some start → start + 50000 ≤ s.now + dt →
    ∃ t : State, exec (.ignitionDebounceEnd dt) s = .next t ∧ t.power = .active ∧ t.mode = s.mode ∧
      t.base = s.now + dt ∧
      t.ignition = { s.ignition with accepted := true, pending := none, first := true, offHold := none } ∧
      t.slots[slotIgnition].value = 1 ∧ t.cycles = bump16 s.cycles ∧ t.runOn = none ∧
      (s.mode = .run → t.bulb = some (s.now + dt + 1000 * s.system.bulbTime)) ∧
      (∀ g : Fin 6, s.gauges[g].entry.enabled = true → t.gauges[g].state = .homing ∧ t.gauges[g].attempt = 1) ∧
      t.link.egress = [] ∧ t.link.ingress = [] ∧ t.tables = s.tables ∧ t.label = s.label ∧ t.ports = s.ports ∧
      t.inputs = s.inputs ∧ t.speed.total = s.speed.total ∧ t.speed.delta = s.speed.delta) ∧
  ∀ (s : State) (dt start : Nat) (l : Fin 24), s.resetLow = false → s.power = .parked →
    s.inputs[l].pending = some start → start + 1000 * s.inputs[l].entry.debounce ≤ s.now + dt →
    let inputs := vput s.inputs l { s.inputs[l] with accepted := !s.inputs[l].accepted, pending := none }
    (∀ d, (s.inputs[l].entry.function = .door .emergency d ∨ s.inputs[l].entry.function = .door .closed d) →
      ∃ t : State, exec (.debounceEnd dt l) s = .next t ∧ t.power = .active ∧ t.mode = s.mode ∧ t.base = s.now + dt ∧
        t.inputs = inputs ∧
        (s.mode = .run → ∀ d : Fin 4, s.doors[d].entry.enabled = true →
          t.doors[d].state = (t.readLevels d).derived ∧ t.doors[d].released = false ∧
            t.doors[d].openCommand = false) ∧
        t.link.egress = [] ∧ t.link.ingress = [] ∧ t.tables = s.tables ∧ t.label = s.label ∧ t.ports = s.ports ∧
        t.ignition = s.ignition ∧ t.cycles = s.cycles ∧ t.speed.total = s.speed.total ∧
        t.speed.delta = s.speed.delta) ∧
    ((∀ d, s.inputs[l].entry.function ≠ .door .emergency d ∧ s.inputs[l].entry.function ≠ .door .closed d) →
      exec (.debounceEnd dt l) s = .next { s.elapse dt with inputs := inputs })

/-- R188, R187, R185: the link sends the bytes of the egress queue's head. A frame whose payload is at most 120 bytes
is sent so that a waiting receiver reads it with the frame's type, tag and payload and its CRC; a RESPONSE carries its
request's code, the number of its result (Table 10.3) and its data, and a FORWARD the port, the format, the identifier,
the length and the data. At the end of its last byte the head leaves the queue; a request that waits in the ingress
buffer is then served if fewer than 31 frames are left. The bytes of a response's data that no rule lays out are the
model's choice (assumption 6), and a signed value is sent in two's complement by its choice too (assumption 56). -/
def Obligations.EgressHeadLeaves : Prop :=
  (∀ f : EgressFrame, f.payload.length ≤ 120 →
    Receiver.waiting.takeAll f.bytes = (.waiting, [.frame f.type f.tag f.payload (frameCrc f.type f.tag f.payload)])) ∧
  (∀ (tag : Byte) (code : Nat) (r : Result) (d : ResponseData) (p : Fin 3) (f : Frame) (x : Report),
    (EgressFrame.response tag code r d).type = 2 ∧ (EgressFrame.report tag x).type = 3 ∧
    (EgressFrame.forward tag p f).type = 4 ∧
    (EgressFrame.response tag code r d).payload = [byteOf code, byteOf r.number] ++ d.bytes ∧
    (EgressFrame.report tag x).payload = x.payload ∧
    (EgressFrame.forward tag p f).payload =
      [byteOf p.val, byteOf (formatNumber f.format)] ++ be 4 f.id ++ [byteOf f.data.length] ++ f.data) ∧
  [Result.ok, .badRequest, .badLength, .badTable, .badIndex, .badField, .reference, .locked, .wrongMode, .checkFailed,
    .queueFull, .notNow].map Result.number = List.range 12 ∧
  ∀ (s : State) (dt : Nat) (h : EgressFrame) (rest : List EgressFrame), s.awake = true →
    s.link.egress = h :: rest → s.link.restarting = false →
    s.sending = some h.bytes ∧
    (s.link.ingress = [] →
      exec (.egressFrameSent dt) s = .next { s.elapse dt with link := { s.link with egress := rest } }) ∧
    (∀ f : IngressFrame, s.link.ingress = [f] → rest.length < 31 →
      let v : State := { s.elapse dt with link := { s.link with egress := rest, ingress := [] } }
      exec (.egressFrameSent dt) s = .next
        (joinResponse f.tag (requestCode f.request) (serveRequest f.request v).result
          (serveRequest f.request v).data (serveRequest f.request v).after))

/-- R197, R185, R188: at the report timer's expiry a REPORT is built with the next sequence tag; it joins at the tail,
or takes the place of the unsent one, which is counted; the next deadline is the expired one + the report period. A
report's payload is 106 bytes (Table 10.7). That the head, whose sending has begun, is not unsent is the model's
reading (assumption 13). That a signed value is sent in two's complement is the model's choice (assumption 56). -/
def Obligations.ReportJoinsOrReplaces : Prop :=
  (∀ r : Report, r.payload.length = 106) ∧
  ∀ (s : State) (dt due : Nat), s.resetLow = false → s.link.reportTimer = some due → due ≤ s.now + dt →
    (hasUnsentReport s.link.egress = false →
      exec (.reportTimerExpiry dt) s = .next { s.elapse dt with link := { s.link with
        reportTimer := some (due + 1000 * s.system.reportPeriod), reportSeq := s.link.reportSeq + 1,
        egress := s.link.egress ++ [.report s.link.reportSeq (s.elapse dt).report] } }) ∧
    (hasUnsentReport s.link.egress = true →
      exec (.reportTimerExpiry dt) s = .next { s.elapse dt with link := { s.link with
        reportTimer := some (due + 1000 * s.system.reportPeriod), reportSeq := s.link.reportSeq + 1,
        reportOverrun := bump32 s.link.reportOverrun,
        egress := replaceReport (.report s.link.reportSeq (s.elapse dt).report) s.link.egress } })

/-- R189, R123: at the panel timer's expiry the link is declared lost: slot 251 is 1, the loss is counted, DIRECT set
and the fault raised where the live set has room; the next valid REQUEST restores it: slot 251 is 0, the fault is
cleared, DIRECT cleared and the timer set. -/
def Obligations.PanelLossAndRestoration : Prop :=
  (∀ (s : State) (dt due : Nat), s.awake = true → s.link.timer = some due → due ≤ s.now + dt →
    ∃ t : State, exec (.panelTimerExpiry dt) s = .next t ∧ t.slots[slotPanelLinkLost].value = 1 ∧
      (s.hasRoom = true → t.isLive .panelLinkLost none = true) ∧
      Told { s.elapse dt with direct := true, link := { s.link with
        lost := true, timer := none, linkLosses := bump32 s.link.linkLosses } } t) ∧
  (∀ (s : State) (dt : Nat) (tag : Byte), s.awake = true → s.link.lost = true → s.link.restarting = false →
    s.link.ingress = [] → s.link.egress.length < 31 →
    ∃ t : State, exec (.heartbeat dt tag) s = .next (joinResponse tag 8 .ok .none t) ∧
      t.slots[slotPanelLinkLost].value = 0 ∧ t.isLive .panelLinkLost none = false ∧
      Told { s.noted dt with direct := false, link := { (s.noted dt).link with lost := false } } t)

/-! ### The signal store (chapter 2) -/

/-- R33, R36, R37: a SIGNAL_WRITE in RUN to a slot with source kind PANEL is taken: the slot is VALID with the value
limited to its min and max, raw is the value as sent, the clamped mark says whether it was limited, and the panel
deadline is set where the slot has a panel timeout. The response carries the stored value. No other configurable slot
changes. In SETUP it is refused WRONG_MODE, and a slot of another kind or out of range BAD_INDEX. -/
def Obligations.SignalWriteStoresTheLimitedValue : Prop :=
  ∀ (s : State) (dt : Nat) (tag : Byte) (v : Int), s.serving = true →
    (∀ k : Fin 240, s.mode = .run → s.descs[k].kind = .panel →
      let w := if v < s.descs[k].min then s.descs[k].min else if s.descs[k].max < v then s.descs[k].max else v
      ∃ t : State, exec (.signalWrite dt tag k v) s = .next (joinResponse tag 0x10 .ok (.stored w) t) ∧
        (t.record k).value = w ∧ (t.record k).state = .valid ∧ (t.record k).raw = v ∧
        (t.record k).clamped = decide (w ≠ v) ∧
        (t.record k).clampCount =
          (if w = v then (s.record k).clampCount else bump16 (s.record k).clampCount) ∧
        t.panelDeadlines[k] =
          (if s.descs[k].panelTimeout = 0 then s.panelDeadlines[k]
           else some (s.now + dt + 1000 * s.descs[k].panelTimeout)) ∧
        t.isLive .panelSignalStale (some k.val) = false ∧
        (∀ j, j ≠ k → t.record j = s.record j ∧ t.panelDeadlines[j] = s.panelDeadlines[j]) ∧
        Stored (s.noted dt) t) ∧
    (∀ k, s.mode = .setup →
      exec (.signalWrite dt tag k v) s = .next (joinResponse tag 0x10 .wrongMode .none (s.noted dt))) ∧
    (∀ k : Fin 240, s.mode = .run → s.descs[k].kind ≠ .panel →
      exec (.signalWrite dt tag k v) s = .next (joinResponse tag 0x10 .badIndex .none (s.noted dt))) ∧
    (∀ k, s.mode = .run → 240 ≤ k →
      exec (.signalWrite dt tag k v) s = .next (joinResponse tag 0x10 .badIndex .none (s.noted dt)))

/-- R27, R30 and 00_scope.md 6.5: the raw pattern of a LITTLE descriptor is the field of `length` bits at the start bit
in the number that the data spell with the first byte least significant; that of a BIG descriptor is the field that
begins, most significant first, at the start bit, in the number that the data spell with the first byte most
significant. A division is rounded to the nearest integer, halves away from zero. -/
def Obligations.ExtractionAndRounding : Prop :=
  (∀ (d : SlotDesc) (data : List Byte), 1 ≤ d.length → fitsLength d data.length = true →
    (d.order = .little →
      rawPattern d data = unbe data.reverse / 2 ^ d.startBit % 2 ^ d.length) ∧
    (d.order = .big →
      rawPattern d data = unbe data /
        2 ^ (8 * data.length - (8 * (d.startBit / 8) + (7 - d.startBit % 8)) - d.length) % 2 ^ d.length)) ∧
  ∀ (a : Int) (d : Nat), 0 < d →
    2 * (a - roundDiv a d * d).natAbs ≤ d ∧
      (2 * (a - roundDiv a d * d).natAbs = d → a.natAbs ≤ (roundDiv a d * d).natAbs)

/-- R19, R35, R36: a supervised entry whose deadline expires is MISSING, FRAME_MISSING of it is raised where the live
set has room, and each FRAME slot sourced from it that was VALID becomes STALE with its value, or SUBSTITUTED with its
default. A panel deadline that expires raises PANEL_SIGNAL_STALE and makes a VALID slot STALE or SUBSTITUTED in the
same way. -/
def Obligations.SilenceMakesSlotsStale : Prop :=
  (∀ (s : State) (dt due : Nat) (e : Fin 128), s.awake = true →
    (s.matchTable[e].supervision = .awaiting due ∨ s.matchTable[e].supervision = .present due) →
    due ≤ s.now + dt →
    ∃ t : State, exec (.supervisionDeadlineExpiry dt e) s = .next t ∧
      (s.hasRoom = true → t.isLive .frameMissing (some e.val) = true) ∧
      (∀ k : Fin 240, s.descs[k].kind = .frame → s.descs[k].sourceEntry = e.val → (s.record k).state = .valid →
        (s.descs[k].policy = .hold → (t.record k).state = .stale ∧ (t.record k).value = (s.record k).value) ∧
        (s.descs[k].policy = .default →
          (t.record k).state = .substituted ∧ (t.record k).value = s.descs[k].default)) ∧
      (∀ k : Fin 240, ¬(s.descs[k].kind = .frame ∧ s.descs[k].sourceEntry = e.val) → t.record k = s.record k) ∧
      Stored { s.elapse dt with
        matchTable := vput s.matchTable e { s.matchTable[e] with supervision := .missing } } t) ∧
  (∀ (s : State) (dt due : Nat) (k : Fin 240), s.awake = true → s.panelDeadlines[k] = some due →
    due ≤ s.now + dt →
    ∃ t : State, exec (.panelDeadlineExpiry dt k) s = .next t ∧ t.panelDeadlines[k] = none ∧
      (s.hasRoom = true → t.isLive .panelSignalStale (some k.val) = true) ∧
      ((s.record k).state = .valid → s.descs[k].policy = .hold →
        (t.record k).state = .stale ∧ (t.record k).value = (s.record k).value) ∧
      ((s.record k).state = .valid → s.descs[k].policy = .default →
        (t.record k).state = .substituted ∧ (t.record k).value = s.descs[k].default) ∧
      (∀ j, j ≠ k → t.record j = s.record j ∧ t.panelDeadlines[j] = s.panelDeadlines[j]) ∧
      Stored (s.elapse dt) t)

/-! ### Network ports and classification (chapter 1) -/

/-- R3, R4: an ONLINE port whose controller becomes error-passive is PASSIVE, and ONLINE again when it becomes
error-active; each change sets PORT_STATE. At bus-off an open port is OFF with its queue flushed and counted, its
recovery running and PORT_OFF raised where the live set has room, and a response in flight on it is abandoned. A
recovery complete starts the quiet time, at whose expiry the port is ONLINE and PORT_OFF cleared. -/
def Obligations.ControllerStatesMoveThePort : Prop :=
  ∀ (s : State) (dt : Nat) (p : Fin 3), s.awake = true →
    (s.ports[p].state = .online → exec (.controllerErrorPassive dt p) s = .next
      (setFlag .portState { s.elapse dt with ports := vput s.ports p { s.ports[p] with state := .passive } })) ∧
    (s.ports[p].state = .passive → exec (.controllerErrorActive dt p) s = .next
      (setFlag .portState { s.elapse dt with ports := vput s.ports p { s.ports[p] with state := .online } })) ∧
    (s.ports[p].open_ = true →
      ∃ t : State, exec (.busOff dt p) s = .next t ∧ t.ports[p].state = .off ∧ t.ports[p].queue = [] ∧
        t.ports[p].recovering = true ∧ t.ports[p].quiet = none ∧ t.ports[p].entry = s.ports[p].entry ∧
        t.ports[p].counters =
          { s.ports[p].counters with flushed := add32 s.ports[p].counters.flushed s.ports[p].queue.length } ∧
        (∀ q, q ≠ p → t.ports[q] = s.ports[q]) ∧
        (s.hasRoom = true → t.isLive .portOff (some p.val) = true) ∧
        (s.service.entry.port = p → t.service.response = none) ∧ Moved { s.elapse dt with ports := t.ports } t) ∧
    (s.ports[p].state = .off → s.ports[p].recovering = true → s.ports[p].entry.quietTime ≠ 0 →
      exec (.recoveryComplete dt p) s = .next { s.elapse dt with
        ports := vput s.ports p { s.ports[p] with
          recovering := false, quiet := some (s.now + dt + 1000 * s.ports[p].entry.quietTime) } }) ∧
    (∀ due, s.ports[p].state = .off → s.ports[p].quiet = some due → due ≤ s.now + dt →
      ∃ t : State, exec (.quietTimeExpiry dt p) s = .next t ∧
        t.isLive .portOff (some p.val) = false ∧ t.flag .portState = true ∧
        Told { s.elapse dt with
          ports := vput s.ports p { s.ports[p] with state := .online, recovering := false, quiet := none } } t)

/-- R6, R7, R8, R11 to R15, R30, R31: a data frame received on an open port in RUN and not diverted is counted and sets
the activity indication. Taken by an entry, the first that matches, it increases that entry's hits, and its shorts if
it is shorter than the minimum length; a good one makes a supervised entry PRESENT and, where the entry decodes, gives
each FRAME slot sourced from it the pattern as raw and VALID with the scaled and limited value, or NOT_AVAILABLE or
SENDER_ERROR with its value kept where a reserved pattern says so. It is forwarded to the ports of the forward set but
its own, whose queues it joins or is counted as overflow, and to PANEL, where it joins the egress queue below 28 frames
or is counted as dropped. Taken by none, it is counted as unmatched, and the port's default action follows. A remote
frame is counted and goes no further. -/
def Obligations.ReceivedFramesAreClassified : Prop :=
  ∀ (s : State) (dt : Nat) (p : Fin 3) (f : RxFrame), s.awake = true → s.ports[p].open_ = true →
    (f.remote = true → exec (.frameReceived dt p f) s = .next { s.elapse dt with
      ports := vput s.ports p { s.ports[p] with
        activity := true, counters := { s.ports[p].counters with
          received := bump32 s.ports[p].counters.received,
          remoteIgnored := bump32 s.ports[p].counters.remoteIgnored } } }) ∧
    (f.remote = false → s.mode = .run → s.diverts p (takenFrame f) = false →
      (∀ e : Fin 128, entryTakes s.matchTable[e].entry p (takenFrame f) = true →
        (∀ j, j < e → entryTakes s.matchTable[j].entry p (takenFrame f) = false) →
        let x := s.matchTable[e].entry
        let data := (takenFrame f).data
        let good := x.decode = true ∧ x.minLength ≤ data.length
        let queued : QueuedFrame := { frame := takenFrame f, key := arbitrationKey (takenFrame f), joined := s.now + dt,
                                      origin := .forward, onBus := false }
        let forwarded : EgressFrame := .forward s.link.forwardSeq p (takenFrame f)
        ∃ t : State, exec (.frameReceived dt p f) s = .next t ∧
          t.ports[p] = { s.ports[p] with
            activity := true, counters := { s.ports[p].counters with
              received := bump32 s.ports[p].counters.received } } ∧
          t.matchTable[e].hits = bump32 s.matchTable[e].hits ∧
          t.matchTable[e].shorts =
            (if (takenFrame f).data.length < s.matchTable[e].entry.minLength then bump32 s.matchTable[e].shorts
             else s.matchTable[e].shorts) ∧
          t.matchTable[e].supervision =
            (if (takenFrame f).data.length < s.matchTable[e].entry.minLength ∨
                s.matchTable[e].supervision = .none then s.matchTable[e].supervision
             else .present (s.now + dt + 1000 * s.matchTable[e].entry.timeout)) ∧
          (∀ j, j ≠ e → t.matchTable[j] = s.matchTable[j]) ∧ t.tables = s.tables ∧
          (good → ∀ k : Fin 240, s.descs[k].kind = .frame → s.descs[k].sourceEntry = e.val →
            let d := s.descs[k]
            let pattern := rawPattern d data
            let v := scaled d (readPattern d pattern)
            let reserved : Prop := d.reserved = true ∧ 2 ≤ d.length
            (t.record k).raw = pattern ∧
            (reserved → pattern = 2 ^ d.length - 1 →
              (t.record k).state = .notAvailable ∧ (t.record k).value = (s.record k).value) ∧
            (reserved → pattern = 2 ^ d.length - 2 →
              (t.record k).state = .senderError ∧ (t.record k).value = (s.record k).value) ∧
            (¬(reserved ∧ (pattern = 2 ^ d.length - 1 ∨ pattern = 2 ^ d.length - 2)) →
              (t.record k).state = .valid ∧ (t.record k).value = limited d v ∧
                (t.record k).clamped = decide (limited d v ≠ v))) ∧
          (∀ k : Fin 240, ¬(good ∧ s.descs[k].kind = .frame ∧ s.descs[k].sourceEntry = e.val) →
            t.record k = s.record k) ∧
          (∀ q : Fin 3, q ≠ p →
            (x.forward.ports.has q = false → t.ports[q] = s.ports[q]) ∧
            (x.forward.ports.has q = true → s.ports[q].open_ = true → s.ports[q].queue.length < 16 →
              t.ports[q] = { s.ports[q] with queue := joinQueue queued s.ports[q].queue }) ∧
            (x.forward.ports.has q = true → (s.ports[q].open_ = false ∨ 16 ≤ s.ports[q].queue.length) →
              t.flag .txDrop = true ∧ t.ports[q] = { s.ports[q] with
                counters := { s.ports[q].counters with overflow := bump32 s.ports[q].counters.overflow } })) ∧
          (x.forward.panel = false → t.link = s.link) ∧
          (x.forward.panel = true → s.link.egress.length < 28 → t.link = { s.link with
            forwardSeq := s.link.forwardSeq + 1, egress := s.link.egress ++ [forwarded] }) ∧
          (x.forward.panel = true → 28 ≤ s.link.egress.length → t.flag .txDrop = true ∧ t.link = { s.link with
            forwardSeq := s.link.forwardSeq + 1, forwardDrops := bump32 s.link.forwardDrops }) ∧
          Stored { s.elapse dt with ports := t.ports, matchTable := t.matchTable, link := t.link } t) ∧
      ((∀ e : Fin 128, entryTakes s.matchTable[e].entry p (takenFrame f) = false) →
        ∃ t : State, exec (.frameReceived dt p f) s = .next t ∧
          t.ports = vput s.ports p { s.ports[p] with
            activity := true, counters := { s.ports[p].counters with
              received := bump32 s.ports[p].counters.received,
              unmatched := bump32 s.ports[p].counters.unmatched } } ∧
          t = { s.elapse dt with ports := t.ports, link := t.link, capture := t.capture, flags := t.flags,
                                 attn := t.attn } ∧
          (s.ports[p].entry.defaultAction = .drop → t.link = s.link) ∧
          (s.ports[p].entry.defaultAction = .panel → s.link.egress.length < 28 → t.link = { s.link with
            forwardSeq := s.link.forwardSeq + 1,
            egress := s.link.egress ++ [.forward s.link.forwardSeq p (takenFrame f)] }) ∧
          (s.ports[p].entry.defaultAction = .panel → 28 ≤ s.link.egress.length →
            t.flag .txDrop = true ∧ t.link = { s.link with
              forwardSeq := s.link.forwardSeq + 1, forwardDrops := bump32 s.link.forwardDrops })))

/-- R20, R21, R190: a TX_FRAME in RUN to a port that is ONLINE or PASSIVE with fewer than 16 frames queued joins the
queue, in ascending key after the frames of equal key, and is answered OK; otherwise it is counted in the overflow
counter and answered QUEUE_FULL. Joining keeps a queue in ascending key, and adds one frame to it and nothing else. -/
def Obligations.TxFrameJoinsTheQueue : Prop :=
  (∀ (s : State) (dt : Nat) (tag : Byte) (p : Fin 3) (f : Format) (id : Nat) (data : List Byte),
    s.serving = true → s.mode = .run → id ≤ f.maxId → data.length ≤ 8 →
    let frame : Frame := { format := f, id := id, data := data }
    (s.ports[p].open_ = true → s.ports[p].queue.length < 16 →
      exec (.txFrame dt tag p (formatNumber f) id data) s = .next (joinResponse tag 0x14 .ok .none
        { s.noted dt with ports := vput s.ports p { s.ports[p] with
          queue := joinQueue { frame := frame, key := arbitrationKey frame, joined := s.now + dt, origin := .panel,
                               onBus := false } s.ports[p].queue } })) ∧
    ((s.ports[p].open_ = false ∨ 16 ≤ s.ports[p].queue.length) →
      exec (.txFrame dt tag p (formatNumber f) id data) s = .next (joinResponse tag 0x14 .queueFull .none
        { s.noted dt with ports := vput s.ports p { s.ports[p] with
          counters := { s.ports[p].counters with overflow := bump32 s.ports[p].counters.overflow } } }))) ∧
  (∀ (q : QueuedFrame) (l : List QueuedFrame), ascending l = true →
    ascending (joinQueue q l) = true ∧
      joinQueue q l = l.filter (fun h => decide (h.key ≤ q.key)) ++ q :: l.filter (fun h => decide (q.key < h.key)))

/-- R22, R23: the head's transmission begins while none is on the bus; at success the frame leaves the queue and is
counted; at a failure it waits again, or leaves at once, counted as expired, if its age has reached the maximum; a
waiting head whose age has reached it leaves the queue and is counted as expired. Stated for a head that is no segment
of a response. -/
def Obligations.TransmissionsLeaveTheQueue : Prop :=
  ∀ (s : State) (dt : Nat) (p : Fin 3) (h : QueuedFrame) (rest : List QueuedFrame), s.awake = true →
    s.ports[p].open_ = true → s.ports[p].queue = h :: rest → (h.origin = .panel ∨ h.origin = .forward) →
    (∀ q ∈ rest, q.onBus = false) →
    let u := s.ports[p]
    let old : Prop := h.joined + 1000 * u.entry.maxAge ≤ s.now + dt
    (h.onBus = false → exec (.transmissionBegins dt p) s = .next
      { s.elapse dt with ports := vput s.ports p { u with queue := { h with onBus := true } :: rest } }) ∧
    (h.onBus = true → exec (.transmissionSuccess dt p) s = .next
      { s.elapse dt with ports := vput s.ports p { u with
        queue := rest, counters := { u.counters with transmitted := bump32 u.counters.transmitted } } }) ∧
    (h.onBus = true → ¬old → exec (.transmissionFailed dt p) s = .next
      { s.elapse dt with ports := vput s.ports p { u with queue := { h with onBus := false } :: rest } }) ∧
    (h.onBus = true → old → exec (.transmissionFailed dt p) s = .next
      { s.elapse dt with ports := vput s.ports p { u with
        queue := rest, counters := { u.counters with expired := bump32 u.counters.expired } } }) ∧
    (h.onBus = false → old → exec (.queueAgeExpiry dt p 0) s = .next
      { s.elapse dt with ports := vput s.ports p { u with
        queue := rest, counters := { u.counters with expired := bump32 u.counters.expired } } })

/-! ### Pulse inputs, speed and distance (chapter 3) -/

/-- R48, R49: a level that differs from the accepted one begins a pending change now, and the return to the accepted
level discards it; a pending change that has lasted the noise rejection time is accepted as an edge stamped with its
beginning, which a FREQUENCY input counts if it has the entry's polarity. Stated for P1 to P3, whose edges count no
distance. R61, R63: such an edge of P0 counts besides, where the distance source is PULSE_P0: it adds 1,000 to the
residue, and a metre for every pulses-per-km of it to the total and the delta together, below the saturation of the
total; with the other source, or the other polarity, it counts no distance. -/
def Obligations.PulseEdgesAreAcceptedAfterNoiseRejection : Prop :=
  (∀ (s : State) (dt : Nat) (i : Fin 4) (m : PulseMeas), s.awake = true → i ≠ 0 → s.pulses[i].meas = some m →
    (∀ level, level ≠ m.accepted → m.pending = none → s.pulses[i].entry.noise ≠ 0 →
      exec (.pulseLineChange dt i level) s = .next { s.elapse dt with pulses := vput s.pulses i { s.pulses[i] with
        line := level, meas := some { m with pending := some (s.now + dt) } } }) ∧
    (exec (.pulseLineChange dt i m.accepted) s = .next { s.elapse dt with pulses := vput s.pulses i { s.pulses[i] with
      line := m.accepted, meas := some { m with pending := none } } }) ∧
    (∀ start, m.pending = some start → start + s.pulses[i].entry.noise ≤ s.now + dt →
      s.pulses[i].entry.mode = .frequency →
      exec (.noiseRejectionEnd dt i) s = .next { s.elapse dt with pulses := vput s.pulses i { s.pulses[i] with
        meas := some
          (if countsEdge s.pulses[i].entry (!m.accepted) then
            { m with accepted := !m.accepted, pending := none, count := m.count + 1,
                     lastEdge := BitVec.ofNat 32 start }
           else { m with accepted := !m.accepted, pending := none }) } })) ∧
  ∀ (s : State) (dt start : Nat) (m : PulseMeas), s.awake = true → s.pulses[(0 : Fin 4)].meas = some m →
    m.pending = some start → start + s.pulses[(0 : Fin 4)].entry.noise ≤ s.now + dt →
    s.pulses[(0 : Fin 4)].entry.mode = .frequency →
    let counted : Bool := countsEdge s.pulses[(0 : Fin 4)].entry (!m.accepted)
    let pulses := vput s.pulses 0 { s.pulses[(0 : Fin 4)] with
      meas := some
        (if counted then
          { m with accepted := !m.accepted, pending := none, count := m.count + 1, lastEdge := BitVec.ofNat 32 start }
         else { m with accepted := !m.accepted, pending := none }) }
    let residue := s.speed.pulseResidue + 1000
    let metres := residue / s.speed.entry.pulsesPerKm
    (counted = true → s.speed.entry.source = .pulseP0 → s.speed.total + metres ≤ 4294967295 →
      ∃ t : State, exec (.noiseRejectionEnd dt 0) s = .next t ∧
        (0 < metres → t.slots[slotTotalDistance].value = ((s.speed.total + metres) / 100 : Nat)) ∧
        Tell { s.elapse dt with pulses := pulses, speed := { s.speed with
          total := s.speed.total + metres, delta := s.speed.delta + metres,
          pulseResidue := residue % s.speed.entry.pulsesPerKm } } t) ∧
    ((counted = false ∨ s.speed.entry.source = .speedSlot) →
      exec (.noiseRejectionEnd dt 0) s = .next { s.elapse dt with pulses := pulses })

/-- R50, R53, R38: at a gate's end with n edges counted and a reference, the result is n × 10^9 ÷ the interval in mHz,
rounded and at most 10,000,000, the last edge becomes the reference, and the next gate follows without gap; every
PULSE slot of the input's frequency takes the scaled result. A stuck deadline raises PULSE_STUCK where the live set has
room, clears the reference and delivers 10,000 or 0 by the accepted level. R52: an accepted edge of a DUTY input starts
the stuck deadline anew at 2 × max-period from its stamp and clears PULSE_STUCK; one of the other polarity is noted,
and one of the chosen polarity becomes the reference and, with an edge of each polarity before it, closes a period: one
within its limits delivers duty = high time × 10,000 ÷ period, rounded, and clears PULSE_RANGE; another is delivered as
a sender error, which keeps the value, and raises PULSE_RANGE where the live set has room. Stated for P1 to P3. -/
def Obligations.PulseResultsAreDelivered : Prop :=
  (∀ (s : State) (dt due : Nat) (i : Fin 4) (m : PulseMeas), s.awake = true → s.pulses[i].meas = some m →
    (∀ r : Stamp, m.gateDeadline = some due → due ≤ s.now + dt → m.count ≠ 0 → m.reference = some r →
      let interval := if m.lastEdge = r then 1 else (m.lastEdge - r).toNat
      let result := Nat.min (roundDivNat (m.count * 1000000000) interval) 10000000
      ∃ t : State, exec (.gateEnd dt i) s = .next t ∧
        t.pulses = vput s.pulses i { s.pulses[i] with meas := some { m with
          count := 0, reference := some m.lastEdge, result := some result,
          gateDeadline := some (due + 1000 * s.pulses[i].entry.gate) } } ∧
        (∀ k : Fin 240, s.descs[k].kind = .pulse → s.descs[k].pulse = i.val → s.descs[k].quantity = .frequency →
          (t.record k).state = .valid ∧ (t.record k).raw = result ∧
            (t.record k).value = limited s.descs[k] (scaled s.descs[k] result)) ∧
        Stored { s.elapse dt with pulses := t.pulses } t) ∧
    (m.stuckDeadline = some due → due ≤ s.now + dt →
      ∃ t : State, exec (.stuckDeadlineExpiry dt i) s = .next t ∧
        t.pulses = vput s.pulses i { s.pulses[i] with meas := some { m with
          reference := none, stuckDeadline := none } } ∧
        (t.faults.live.length < 48 → t.isLive .pulseStuck (some i.val) = true) ∧
        (∀ k : Fin 240, s.descs[k].kind = .pulse → s.descs[k].pulse = i.val → s.descs[k].quantity = .duty →
          (t.record k).state = .valid ∧ (t.record k).raw = if m.accepted then 10000 else 0) ∧
        Stored { s.elapse dt with pulses := t.pulses } t)) ∧
  ∀ (s : State) (dt start : Nat) (i : Fin 4) (m : PulseMeas), s.awake = true → i ≠ 0 → s.pulses[i].meas = some m →
    m.pending = some start → start + s.pulses[i].entry.noise ≤ s.now + dt → s.pulses[i].entry.mode = .duty →
    let e := s.pulses[i].entry
    let stamp : Stamp := BitVec.ofNat 32 start
    let level := !m.accepted
    let noted : PulseMeas :=
      { m with accepted := level, pending := none, stuckDeadline := some (start + 2 * e.maxPeriod) }
    let pulses (n : PulseMeas) := vput s.pulses i { s.pulses[i] with meas := some n }
    (countsEdge e level = false → ∃ t : State, exec (.noiseRejectionEnd dt i) s = .next t ∧
      t.isLive .pulseStuck (some i.val) = false ∧
      Told { s.elapse dt with pulses := pulses { noted with opposite := some stamp } } t) ∧
    (countsEdge e level = true → (m.reference = none ∨ m.opposite = none) →
      ∃ t : State, exec (.noiseRejectionEnd dt i) s = .next t ∧ t.isLive .pulseStuck (some i.val) = false ∧
        Told { s.elapse dt with pulses := pulses { noted with reference := some stamp } } t) ∧
    (∀ r o : Stamp, countsEdge e level = true → m.reference = some r → m.opposite = some o →
      let span (b a : Stamp) : Nat := if b = a then 1 else (b - a).toNat
      let period := span stamp r
      let high := if e.polarity = .rising then span o r else span stamp o
      let duty := roundDivNat (high * 10000) period
      ∃ t : State, exec (.noiseRejectionEnd dt i) s = .next t ∧
        t.pulses = pulses { noted with reference := some stamp } ∧ t.isLive .pulseStuck (some i.val) = false ∧
        (e.minPeriod ≤ period ∧ period ≤ e.maxPeriod → t.isLive .pulseRange (some i.val) = false) ∧
        (¬(e.minPeriod ≤ period ∧ period ≤ e.maxPeriod) → t.faults.live.length < 48 →
          t.isLive .pulseRange (some i.val) = true) ∧
        (∀ k : Fin 240, s.descs[k].kind = .pulse → s.descs[k].pulse = i.val → s.descs[k].quantity = .duty →
          if e.minPeriod ≤ period ∧ period ≤ e.maxPeriod then
            (t.record k).state = .valid ∧ (t.record k).raw = duty ∧
              (t.record k).value = limited s.descs[k] (scaled s.descs[k] duty)
          else (t.record k).state = .senderError ∧ (t.record k).value = (s.record k).value) ∧
        Stored { s.elapse dt with pulses := t.pulses } t)

/-- R56, R57, R58, R59: a selection takes the primary slot's speed, limited to 0 to 30,000, while that slot is usable,
else the fallback's, else holds VEHICLE_SPEED STALE; SPEED_SOURCE is 0, 1 or 2, SPEED_PRIMARY_LOST is live at source 1
and SPEED_LOST at source 2 with a primary configured, where the live set has room, and STANDSTILL is 1 while the speed
is VALID and below the threshold. The mismatch timer starts where both are usable and further apart than both limits,
and stops, with SPEED_MISMATCH cleared, where they are not. A selection is made when the host writes the primary slot.
At the mismatch timer's expiry the timer is none and SPEED_MISMATCH is raised where the live set has room. R62, R63: a
distance tick with VEHICLE_SPEED VALID adds the speed to the residue and a metre for every 3,600 of it, to the total
and the delta together, below the saturation of the total; the next tick is 100 ms later. -/
def Obligations.SpeedTimersExpire : Prop :=
  (∀ (s : State) (k : Nat), s.speedReading none = none ∧
    ((s.slot k).state.usable = false → s.speedReading (some k) = none) ∧
    ((s.slot k).state.usable = true → ∃ n : Nat, s.speedReading (some k) = some n ∧
      (n : Int) = if (s.slot k).value < 0 then 0 else if 30000 < (s.slot k).value then 30000 else (s.slot k).value)) ∧
  (∀ s : State, s.isActive = true → 2 ≤ s.stage →
    let e := s.speed.entry
    let p := s.speedReading e.primary
    let f := s.speedReading e.fallback
    let t := select s
    let apart (a b : Nat) : Prop :=
      e.mismatchLimit < distance a b ∧ a * e.mismatchPercent < 100 * distance a b
    Moved s t ∧
    (∀ v : Nat, (p = some v ∨ (p = none ∧ f = some v)) →
      t.slots[slotVehicleSpeed].value = v ∧ t.slots[slotVehicleSpeed].state = .valid ∧
        t.slots[slotSpeedSource].value = (if p.isSome then 0 else 1) ∧
        t.slots[slotStandstill].value = (if v < e.standstill then 1 else 0) ∧
        t.isLive .speedLost none = false ∧ (p.isSome = true → t.isLive .speedPrimaryLost none = false) ∧
        (p = none → s.hasRoom = true → t.isLive .speedPrimaryLost none = true)) ∧
    (p = none → f = none →
      t.slots[slotVehicleSpeed].value = s.slots[slotVehicleSpeed].value ∧
        t.slots[slotVehicleSpeed].state = .stale ∧ t.slots[slotSpeedSource].value = 2 ∧
        t.slots[slotStandstill].value = 0 ∧ t.isLive .speedPrimaryLost none = false ∧
        (e.primary = none → t.isLive .speedLost none = false) ∧
        (e.primary.isSome = true → s.hasRoom = true → t.isLive .speedLost none = true)) ∧
    ((¬∃ a b : Nat, p = some a ∧ f = some b ∧ apart a b) →
      t.speed.mismatch = none ∧ t.isLive .speedMismatch none = false) ∧
    (∀ a b : Nat, p = some a → f = some b → apart a b →
      ((s.speed.mismatch.isSome = true ∨ s.isLive .speedMismatch none = true) →
        t.speed.mismatch = s.speed.mismatch) ∧
      (s.speed.mismatch = none → s.isLive .speedMismatch none = false → e.mismatchTime ≠ 0 →
        t.speed.mismatch = some (s.now + 1000 * e.mismatchTime)))) ∧
  (∀ (s : State) (dt : Nat) (tag : Byte) (k : Fin 240) (v : Int), s.serving = true → s.mode = .run →
    s.settled = true → s.descs[k].kind = .panel → s.speed.entry.primary = some k.val →
    let w := limited s.descs[k] v
    ¬((s.record k).value = w ∧ (s.record k).state = .valid) →
    ∃ t : State, exec (.signalWrite dt tag k v) s = .next (joinResponse tag 0x10 .ok (.stored w) t) ∧
      t.slots[slotVehicleSpeed].value = (if w < 0 then 0 else if 30000 < w then 30000 else w) ∧
      t.slots[slotVehicleSpeed].state = .valid ∧ t.slots[slotSpeedSource].value = 0 ∧ Stored (s.noted dt) t) ∧
  ∀ (s : State) (dt due : Nat), s.awake = true → due ≤ s.now + dt →
    (s.speed.mismatch = some due →
      ∃ t : State, exec (.mismatchTimerExpiry dt) s = .next t ∧
        (s.hasRoom = true → t.isLive .speedMismatch none = true) ∧
        Told { s.elapse dt with speed := { s.speed with mismatch := none } } t) ∧
    (∀ v : Nat, s.speed.tick = some due → s.slots[slotVehicleSpeed].state = .valid →
      s.slots[slotVehicleSpeed].value = v →
      let metres := (s.speed.speedResidue + v) / 3600
      s.speed.total + metres ≤ 4294967295 →
      ∃ t : State, exec (.distanceTick dt) s = .next t ∧
        (0 < metres → t.slots[slotTotalDistance].value = ((s.speed.total + metres) / 100 : Nat)) ∧
        Tell { s.elapse dt with speed := { s.speed with
          total := s.speed.total + metres, delta := s.speed.delta + metres,
          speedResidue := (s.speed.speedResidue + v) % 3600, tick := some (due + 100000) } } t)

/-! ### Gauges (chapter 4) -/

/-- R75, R77, R78: a motion step moves a TRACKING gauge toward its target by at most the slew limit, and the next is
1 ms later; a stall completes homing at position 0; a travel deadline begins the next of three attempts, and after the
third the gauge is in FAULT, GAUGE_FAULT is set and GAUGE_HOME raised where the live set has room. R82: during a sweep
the steps move the pointer toward the sweep target, which turns between 0 and full scale as it is reached. R77: a stall
in any other state than HOMING is ignored. -/
def Obligations.GaugesHomeAndTrack : Prop :=
  ∀ (s : State) (dt due : Nat) (g : Fin 6), s.awake = true →
    let u := s.gauges[g]
    (u.state = .tracking → u.sweep = none → u.motion = some due → due ≤ s.now + dt →
      exec (.motionStep dt g) s = .next { s.elapse dt with gauges := vput s.gauges g { u with
        position :=
          if u.position ≤ u.target then Nat.min (u.position + u.entry.slew) u.target
          else Nat.max (u.position - u.entry.slew) u.target,
        motion := some (due + 1000) } }) ∧
    (∀ aim, u.state = .tracking → u.sweep = some aim → u.motion = some due → due ≤ s.now + dt →
      let p := if u.position ≤ aim then Nat.min (u.position + u.entry.slew) aim
        else Nat.max (u.position - u.entry.slew) aim
      exec (.motionStep dt g) s = .next { s.elapse dt with gauges := vput s.gauges g { u with
        position := p,
        sweep := some (if p = aim then (if aim = 0 then u.entry.fullScale else 0) else aim),
        motion := some (due + 1000) } }) ∧
    (u.state ≠ .homing → exec (.stallSense dt g) s = .next (s.elapse dt)) ∧
    (u.state = .homing → exec (.stallSense dt g) s = .next { s.elapse dt with gauges := vput s.gauges g { u with
      state := .tracking, position := 0, attempt := 0, travel := none, motion := some (s.now + dt + 1000) } }) ∧
    (u.state = .homing → u.travel = some due → due ≤ s.now + dt → u.attempt < 3 →
      exec (.travelDeadlineExpiry dt g) s = .next { s.elapse dt with gauges := vput s.gauges g { u with
        attempt := u.attempt + 1, travel := some (s.now + dt + 1000 * (u.entry.fullScale + 200)) } }) ∧
    (u.state = .homing → u.travel = some due → due ≤ s.now + dt → 3 ≤ u.attempt →
      ∃ t : State, exec (.travelDeadlineExpiry dt g) s = .next t ∧ t.gauges[g].state = .fault ∧
        t.gauges[g].travel = none ∧ t.flag .gaugeFault = true ∧
        (s.hasRoom = true → t.isLive .gaugeHome (some g.val) = true) ∧ Told (s.elapse dt) t)

/-! ### Conditions, telltales, chimes and lines (chapters 5 and 6) -/

/-- R90, R91 (Table 5.3): the comparison truth by comparator on a usable slot, with hysteresis from the truth held
before, by policy on a slot that is not usable, and by the live set for FAULT_ACTIVE. R93 (Table 5.4): the moves of a
condition whose raw truth changes, and none where it does not. R89: where the host's write of a slot changes it, an
enabled, ungated condition that reads the slot is evaluated. R92, R93, R95, R99: a delay deadline that expires makes an
ARMING condition ON and a RELEASING one OFF, without a deadline. Of every enabled telltale of a condition that comes on,
DARK and LATCHED become LIT_NEW; of one that falls, LIT_NEW becomes LATCHED or DARK by its latch and LIT_ACKED becomes
DARK; no other state of theirs changes. The enabled conditions it gates then have the raw truth their comparison has, or
false. A condition without a deadline is not moved. The delays are stated for a condition that does not gate itself,
which the table refuses (R86). -/
def Obligations.ConditionsAreEvaluatedAndDelayed : Prop :=
  (∀ (s : State) (u : CondUnit),
    let e := u.entry
    let r := s.slot e.slot
    (r.state.usable = true →
      (e.comparator = .above → s.comparison u =
        if u.comparison then decide (e.threshold - e.hysteresis < r.value) else decide (e.threshold < r.value)) ∧
      (e.comparator = .below → s.comparison u =
        if u.comparison then decide (r.value < e.threshold + e.hysteresis) else decide (r.value < e.threshold)) ∧
      (e.comparator = .equal → s.comparison u = decide (r.value = e.threshold)) ∧
      (e.comparator = .notEqual → s.comparison u = decide (r.value ≠ e.threshold)) ∧
      (e.comparator = .notUsable → s.comparison u = false) ∧
      (e.comparator = .anyBits → (s.comparison u = true ↔
        ∃ b, b < 32 ∧ (BitVec.ofInt 32 r.value).getLsbD b = true ∧ e.mask.testBit b = true))) ∧
    (r.state.usable = false →
      (e.comparator = .notUsable → s.comparison u = true) ∧
      (e.comparator ≠ .notUsable → e.comparator ≠ .faultActive →
        (e.policy = .isFalse → s.comparison u = false) ∧ (e.policy = .isTrue → s.comparison u = true) ∧
        (e.policy = .hold → s.comparison u = u.comparison))) ∧
    (e.comparator = .faultActive → (s.comparison u = true ↔ ∃ x ∈ s.faults.live, x.code = e.code ∧
      (e.source = .any ∨ (e.source = .none ∧ x.source = none) ∨ ∃ n, e.source = .num n ∧ x.source = some n)))) ∧
  (∀ (s : State) (u : CondUnit),
    u.move u.raw s = u ∧
    (u.raw = false →
      (u.state = .off → u.entry.onDelay = 0 → u.move true s = { u with raw := true, state := .on, deadline := none }) ∧
      (u.state = .off → u.entry.onDelay ≠ 0 → u.move true s =
        { u with raw := true, state := .arming, deadline := some (s.now + 1000 * u.entry.onDelay) }) ∧
      (u.state = .releasing → u.move true s = { u with raw := true, state := .on, deadline := none })) ∧
    (u.raw = true →
      (u.state = .arming → u.move false s = { u with raw := false, state := .off, deadline := none }) ∧
      (u.state = .on → u.entry.offDelay = 0 →
        u.move false s = { u with raw := false, state := .off, deadline := none }) ∧
      (u.state = .on → u.entry.offDelay ≠ 0 → u.move false s =
        { u with raw := false, state := .releasing, deadline := some (s.now + 1000 * u.entry.offDelay) }))) ∧
  (∀ (s : State) (dt : Nat) (tag : Byte) (k : Fin 240) (v : Int) (c : Fin 96), s.serving = true → s.mode = .run →
    s.settled = true → s.descs[k].kind = .panel → s.conds[c].entry.enabled = true → s.conds[c].entry.slot = k.val →
    s.conds[c].entry.comparator ≠ .faultActive → s.conds[c].entry.gate = none →
    let w := limited s.descs[k] v
    ¬((s.record k).value = w ∧ (s.record k).state = .valid) →
    ∃ t : State, exec (.signalWrite dt tag k v) s = .next (joinResponse tag 0x10 .ok (.stored w) t) ∧
      t.conds[c] =
        { s.conds[c] with comparison := t.comparison s.conds[c] }.move (t.comparison s.conds[c]) (s.elapse dt) ∧
      (t.record k).value = w ∧ (t.record k).state = .valid ∧ Stored (s.noted dt) t) ∧
  (∀ (s : State) (dt : Nat) (c : Fin 96), s.awake = true → s.conds[c].deadline = none →
    exec (.delayDeadlineExpiry dt c) s = .next (s.elapse dt)) ∧
  ∀ (s : State) (dt due : Nat) (c : Fin 96), s.awake = true → s.mode = .run → s.settled = true →
    s.conds[c].entry.gate ≠ some c.val → s.conds[c].deadline = some due → due ≤ s.now + dt →
    (s.conds[c].state = .arming →
      ∃ t : State, exec (.delayDeadlineExpiry dt c) s = .next t ∧
        t.conds[c] = { s.conds[c] with state := .on, deadline := none } ∧
        (∀ k : Fin 64, s.telltales[k].entry.enabled = true → s.telltales[k].entry.condition = c.val →
          t.telltales[k].state =
            if s.telltales[k].state = .dark ∨ s.telltales[k].state = .latched then .litNew
            else s.telltales[k].state) ∧
        (∀ g : Fin 96, s.conds[g].entry.enabled = true → s.conds[g].entry.gate = some c.val →
          t.conds[g].raw = t.conds[g].comparison) ∧ Tell (s.elapse dt) t) ∧
    (s.conds[c].state = .releasing →
      ∃ t : State, exec (.delayDeadlineExpiry dt c) s = .next t ∧
        t.conds[c] = { s.conds[c] with state := .off, deadline := none } ∧
        (∀ k : Fin 64, s.telltales[k].entry.enabled = true → s.telltales[k].entry.condition = c.val →
          t.telltales[k].state =
            if s.telltales[k].state = .litNew then (if s.telltales[k].entry.latch then .latched else .dark)
            else if s.telltales[k].state = .litAcked then .dark else s.telltales[k].state) ∧
        (∀ g : Fin 96, s.conds[g].entry.enabled = true → s.conds[g].entry.gate = some c.val →
          t.conds[g].raw = false) ∧ Tell (s.elapse dt) t)

/-- R102 (Table 5.8), R103: what a telltale shows, and when it is lit. R117 (Table 6.6): the value of each source. In
RUN and ACTIVE a line is active while the output test holds it on, or its source, its direct source while DIRECT holds,
has value 1 under NORMAL or 0 under INVERTED; in SETUP and in PARKED it is inactive. R102, R103, R104, R117: after a
phase change of the flash generator every relay line is at the level of its source under its polarity, and every lamp
line too while its protection is NORMAL; the bulb check's expiry ends it, and BULB_CHECK is 0. The demand is stated
with the model's stage at its settled value (assumption 7). -/
def Obligations.LinesFollowTheirSources : Prop :=
  (∀ (s : State) (k : Fin 64),
    let u := s.telltales[k]
    let e := (s.now - s.flashOrigin) / 1000
    s.lit k =
      if s.service.test.map (·.unit) = some (.telltale k) then decide (e % 400 < 200)
      else if s.bulb ≠ none ∧ u.entry.bulbCheck = true then true
      else if u.state = .dark ∨ u.entry.enabled = false then false
      else if u.state = .litAcked ∨ u.entry.show_ = .steady then true
      else if u.entry.show_ = .slowFlash then decide (e % 1000 < 500) else decide (e % 400 < 200)) ∧
  (∀ (s : State) (l : Fin 16),
    s.sourceValue l .off = false ∧ s.sourceValue l .on = true ∧
    (∀ k : Fin 64, s.sourceValue l (.telltale k) = s.lit k) ∧
    (∀ c : Fin 96, s.sourceValue l (.condition c) = true ↔
      s.conds[c].state = .on ∨ s.conds[c].state = .releasing) ∧
    (s.sourceValue l .anyStopLit = true ↔ ∃ k : Fin 64, s.telltales[k].entry.cls = .stop ∧ s.lit k = true) ∧
    (∀ d : Fin 4, s.sourceValue l (.doorRelease d) = s.doors[d].released ∧
      s.sourceValue l (.doorOpen d) = s.doors[d].openCommand) ∧
    s.sourceValue l .drivePermit = s.drivePermit ∧ s.sourceValue l .stopBrakeRequest = s.stopBrake ∧
    (s.sourceValue l .chimeActive = true ↔ s.chime.grant ≠ none) ∧
    s.sourceValue l .panel = s.outputs[l].panelValue) ∧
  (∀ (s : State) (l : Fin 16), s.settled = true →
    let e := s.outputs[l].entry
    let source := if s.direct then e.direct else e.source
    (s.mode = .run → s.power = .active → (s.lineActive l = true ↔
      (∃ k : Fin 8, l = lineOfLamp k ∧ s.service.test.map (·.unit) = some (.line k)) ∨
      (e.polarity = .normal ∧ s.sourceValue l source = true) ∨
      (e.polarity = .inverted ∧ s.sourceValue l source = false))) ∧
    (s.mode = .setup ∨ s.power = .parked → s.lineActive l = false)) ∧
  (∀ (s : State) (dt : Nat), s.awake = true →
    ∃ t : State, exec (.flashPhaseChange dt) s = .next t ∧
      (∀ l : Fin 16, t.outputs[l].entry = s.outputs[l].entry ∧
        t.outputs[l].panelValue = s.outputs[l].panelValue) ∧
      (∀ l : Fin 16, 8 ≤ l.val → t.outputs[l].on = (s.elapse dt).lineActive l) ∧
      (∀ k : Fin 8, t.outputs[lineOfLamp k].on =
        ((s.elapse dt).lineActive (lineOfLamp k) && decide (s.lamps[k].protection = .normal))) ∧
      { t with outputs := s.outputs, lamps := s.lamps } = s.elapse dt) ∧
  (∀ (s : State) (dt due : Nat), s.awake = true → s.bulb = some due → due ≤ s.now + dt →
    ∃ t : State, exec (.bulbCheckExpiry dt) s = .next t ∧ t.slots[slotBulbCheck].value = 0 ∧
      Tell { s.elapse dt with bulb := none } t)

/-- R99, R100, R101: WARNING_ACK acts on the highest class present among the enabled telltales in LIT_NEW or LATCHED:
LIT_NEW becomes LIT_ACKED and LATCHED becomes DARK; the response carries the class and the number of telltales changed.
With none present it changes nothing. -/
def Obligations.WarningAckActsOnTheHighestClass : Prop :=
  ∀ (s : State) (dt : Nat) (tag : Byte), s.serving = true →
    (s.ackClass = none →
      exec (.warningAck dt tag) s = .next (joinResponse tag 0x21 .ok (.acknowledged none 0) (s.noted dt))) ∧
    (∀ c, s.ackClass = some c →
      ∃ t : State, exec (.warningAck dt tag) s =
          .next (joinResponse tag 0x21 .ok (.acknowledged (some c) (s.ackMembers c).length) t) ∧
        (∀ k : Fin 64, t.telltales[k] =
          if s.telltales[k].entry.enabled && s.telltales[k].entry.cls = c &&
              (s.telltales[k].state = .litNew || s.telltales[k].state = .latched) then
            { s.telltales[k] with state := if s.telltales[k].state = .litNew then .litAcked else .dark }
          else s.telltales[k]) ∧
        t.flag .telltale = true ∧ t.conds = s.conds ∧ Tell (s.noted dt) t)

/-- R108, R109, R111: CHIME in RUN places the host's request for the pattern; CHIME_STOP withdraws it, and with nothing
pending changes nothing. The grant the arbiter chooses is the pending request of the highest priority, the lowest
requester among equals; it chooses none exactly when no request is pending, and CHM is then silent. -/
def Obligations.ChimeRequestsAreArbitrated : Prop :=
  (∀ (s : State) (dt : Nat) (tag : Byte), s.serving = true →
    (∀ p, p ≤ 7 → s.mode = .run →
      ∃ t : State, exec (.chime dt tag p) s =
          .next (joinResponse tag 0x22 .ok (.granted (t.chime.grant.map (·.requester))) t) ∧
        t.chime.pending = vput s.chime.pending panelRequester (some p) ∧
        t.chime.grant.map (·.requester) = t.bestRequest.map (·.1) ∧ Tell (s.noted dt) t) ∧
    (∀ p, p ≤ 7 → s.mode = .setup →
      exec (.chime dt tag p) s = .next (joinResponse tag 0x22 .wrongMode .none (s.noted dt))) ∧
    (∀ p, 8 ≤ p → exec (.chime dt tag p) s = .next (joinResponse tag 0x22 .badField .none (s.noted dt))) ∧
    (∃ t : State, exec (.chimeStop dt tag) s = .next (joinResponse tag 0x23 .ok .none t) ∧
      t.chime.pending = vput s.chime.pending panelRequester none ∧
      (s.chime.pending[panelRequester] ≠ none →
        t.chime.grant.map (·.requester) = t.bestRequest.map (·.1) ∧ (t.bestRequest = none → t.chm = none)) ∧
      Tell (s.noted dt) t) ∧
    (s.chime.pending[panelRequester] = none →
      exec (.chimeStop dt tag) s = .next (joinResponse tag 0x23 .ok .none (s.noted dt)))) ∧
  (∀ s : State, s.bestRequest = none ↔ ∀ r : Fin 70, s.chime.pending[r] = none) ∧
  ∀ (s : State) (r : Fin 70) (p : Nat), s.bestRequest = some (r, p) →
    s.chime.pending[r] = some p ∧
      ∀ (j : Fin 70) (q : Nat), s.chime.pending[j] = some q → j ≠ r →
        (s.pattern q).priority < (s.pattern p).priority ∨
          ((s.pattern q).priority = (s.pattern p).priority ∧ r < j)

/-- R110: at the end of the on-time CHM is silent for the off-time; at the end of the off-time the next cycle begins,
and a finite pattern that has played its last cycle completes and its request leaves the set. That the new part of the
cycle is timed from the moment of the change and not from the deadline is the model's reading (assumption 40). -/
def Obligations.ChimeCyclesPlay : Prop :=
  ∀ (s : State) (dt p : Nat) (g : Grant), s.awake = true → s.chime.grant = some g → g.deadline ≤ s.now + dt →
    s.chime.pending[g.requester] = some p →
    (g.sounding = true → exec (.chimeOnTimeEnd dt) s = .next { s.elapse dt with chime := { s.chime with
      grant := some { g with sounding := false, deadline := s.now + dt + 1000 * (s.pattern p).offTime } } }) ∧
    (g.sounding = false → ((s.pattern p).repeats = 0 ∨ 2 ≤ g.left) →
      exec (.chimeOffTimeEnd dt) s = .next { s.elapse dt with chime := { s.chime with
        grant := some { g with sounding := true, left := g.left - 1,
                               deadline := s.now + dt + 1000 * (s.pattern p).onTime } } }) ∧
    (g.sounding = false → (s.pattern p).repeats ≠ 0 → g.left ≤ 1 →
      ∃ t : State, exec (.chimeOffTimeEnd dt) s = .next t ∧
        t.chime.pending = vput s.chime.pending g.requester none ∧ Tell (s.elapse dt) t)

/-- R114, R115, R142: a level that differs from the accepted one begins a pending change, the return discards it, and a
change that has lasted its debounce is accepted; an UNUSED line's change goes no further, and a STOP_REQUEST press in
RUN sets the latch and writes STOP_REQUESTED 1. R39, R100: an ACK_BUTTON press acknowledges the highest class; a GENERIC
change is stored in RUN in every INPUT slot of the line; in SETUP a change of a door's line, like a release of a button,
is no more than accepted. R129 to R136 (Table 7.3): the door's switches move it in RUN, with the deadline of the state
it enters; the closed switch falling on a door neither released nor commanded raises DOOR_FORCED; CLOSING completes a
cycle and clears the open command; an obstruction reverses a CLOSING door, and one reversal too many holds it open and
raises DOOR_OBSTRUCTED; both end switches active take it to FAULT; a door in FAULT, and one whose emergency input is
released, is derived from its switches; the emergency input takes it to EMERGENCY. -/
def Obligations.InputLinesAreDebounced : Prop :=
  (∀ (s : State) (dt : Nat) (l : Fin 24), s.awake = true →
    let u := s.inputs[l]
    (∀ level, level ≠ u.accepted → u.pending = none → u.entry.debounce ≠ 0 →
      exec (.inputLineChange dt l level) s = .next { s.elapse dt with
        inputs := vput s.inputs l { u with line := level, pending := some (s.now + dt) } }) ∧
    exec (.inputLineChange dt l u.accepted) s = .next { s.elapse dt with
      inputs := vput s.inputs l { u with line := u.accepted, pending := none } } ∧
    (∀ start, u.pending = some start → start + 1000 * u.entry.debounce ≤ s.now + dt →
      u.entry.function = .unused →
      exec (.debounceEnd dt l) s = .next { s.elapse dt with
        inputs := vput s.inputs l { u with accepted := !u.accepted, pending := none } }) ∧
    (∀ start, u.pending = some start → start + 1000 * u.entry.debounce ≤ s.now + dt →
      u.entry.function = .stopRequest → u.entry.polarity = .activeHigh → u.accepted = false → s.mode = .run →
      ∃ t : State, exec (.debounceEnd dt l) s = .next t ∧
        t.stopLatch = true ∧ (s.stopLatch = false → t.slots[slotStopRequested].value = 1) ∧ t.doors = s.doors ∧
        Moved { s.elapse dt with inputs := vput s.inputs l { u with accepted := true, pending := none } } t)) ∧
  (∀ (s : State) (dt start : Nat) (l : Fin 24), s.awake = true → s.inputs[l].pending = some start →
    start + 1000 * s.inputs[l].entry.debounce ≤ s.now + dt →
    let u := s.inputs[l]
    let active := if u.entry.polarity = .activeHigh then !u.accepted else u.accepted
    let v : State :=
      { s.elapse dt with inputs := vput s.inputs l { u with accepted := !u.accepted, pending := none } }
    (u.entry.function = .ackButton → (active = false ∨ s.ackClass = none) →
      exec (.debounceEnd dt l) s = .next v) ∧
    (∀ c, u.entry.function = .ackButton → active = true → s.ackClass = some c →
      ∃ t : State, exec (.debounceEnd dt l) s = .next t ∧
        (∀ k : Fin 64, t.telltales[k] =
          if s.telltales[k].entry.enabled && s.telltales[k].entry.cls = c &&
              (s.telltales[k].state = .litNew || s.telltales[k].state = .latched) then
            { s.telltales[k] with state := if s.telltales[k].state = .litNew then .litAcked else .dark }
          else s.telltales[k]) ∧ Tell v t) ∧
    (u.entry.function = .stopRequest → active = false → exec (.debounceEnd dt l) s = .next v) ∧
    (u.entry.function = .generic → s.mode = .run →
      ∃ t : State, exec (.debounceEnd dt l) s = .next t ∧
        (∀ k : Fin 240, s.descs[k].kind = .input → s.descs[k].line = l.val →
          (t.record k).state = .valid ∧ (t.record k).raw = (if active then 1 else 0) ∧
            (t.record k).value = limited s.descs[k] (scaled s.descs[k] (if active then 1 else 0))) ∧
        (∀ k : Fin 240, ¬(s.descs[k].kind = .input ∧ s.descs[k].line = l.val) → t.record k = s.record k) ∧
        Stored v t) ∧
    (s.mode = .setup → u.entry.function ≠ .ackButton → exec (.debounceEnd dt l) s = .next v)) ∧
  (∀ (s : State) (x : DoorUnit) (st : DoorState),
    let y := x.enter st s
    y.state = st ∧ y.entry = x.entry ∧
    (st = .opening → y.deadline = some (s.now + 1000 * x.entry.openMax)) ∧
    (st = .closing → y.deadline = some (s.now + 1000 * x.entry.closeMax)) ∧
    (st = .unlocked → y.deadline = if x.released then none else some (s.now + 1000 * x.entry.closeMax)) ∧
    (st ≠ .opening → st ≠ .closing → st ≠ .unlocked → y.deadline = none) ∧
    y.reversals = (if st = .closedLocked then 0 else x.reversals) ∧
    ((st = .fault ∨ st = .emergency) → y.released = false ∧ y.openCommand = false) ∧
    (st ≠ .fault → st ≠ .emergency → y.released = x.released ∧ y.openCommand = x.openCommand)) ∧
  ∀ (s : State) (dt start : Nat) (l : Fin 24) (d : Fin 4) (f : DoorFunction), s.awake = true → s.mode = .run →
    s.inputs[l].entry.function = .door f d.val → s.inputs[l].pending = some start →
    start + 1000 * s.inputs[l].entry.debounce ≤ s.now + dt →
    let u := s.inputs[l]
    let active := if u.entry.polarity = .activeHigh then !u.accepted else u.accepted
    let v : State :=
      { s.elapse dt with inputs := vput s.inputs l { u with accepted := !u.accepted, pending := none } }
    let x := s.doors[d]
    let L := x.levels.set f active
    let go (st : DoorState) : DoorUnit := { x with levels := L }.enter st (s.elapse dt)
    let becomes (t : State) (y : DoorUnit) : Prop :=
      t.doors[d] = y ∧ (∀ j, j ≠ d → t.doors[j] = s.doors[j]) ∧ t.slots[slotDoorState d].value = y.state.code ∧
        t.flag .door = true ∧ Moved v t
    let clash : Prop := L.closed = true ∧ L.openEnd = true
    let moving : Prop := x.state ≠ .disabled ∧ x.state ≠ .emergency ∧ x.state ≠ .fault
    (∀ st, ¬clash →
      ((x.state = .closedLocked ∧ f = .locked ∧ active = false ∧ st = .unlocked) ∨
        (x.state = .unlocked ∧ f = .locked ∧ active = true ∧ L.closed = true ∧ st = .closedLocked) ∨
        ((x.state = .closedLocked ∨ x.state = .unlocked) ∧ f = .closed ∧ active = false ∧ st = .opening) ∨
        (x.state = .opening ∧ f = .openEnd ∧ active = true ∧ st = .opened) ∨
        (x.state = .opening ∧ f = .closed ∧ active = true ∧ L.locked = true ∧ st = .closedLocked) ∨
        (x.state = .opening ∧ f = .closed ∧ active = true ∧ L.locked = false ∧ st = .unlocked) ∨
        (x.state = .opened ∧ f = .openEnd ∧ active = false ∧ st = .closing) ∨
        (x.state = .closing ∧ f = .openEnd ∧ active = true ∧ st = .opened) ∨
        (x.state = .closing ∧ f = .closed ∧ active = true ∧ L.locked = false ∧ st = .unlocked)) →
      ∃ t : State, exec (.debounceEnd dt l) s = .next t ∧ becomes t (go st) ∧
        (st = .opened → t.stopLatch = false) ∧
        (st = .opening → x.released = false → x.openCommand = false → s.hasRoom = true →
          t.isLive .doorForced (some d.val) = true)) ∧
    (¬clash → x.state = .closing → f = .closed → active = true → L.locked = true →
      ∃ t : State, exec (.debounceEnd dt l) s = .next t ∧
        becomes t { go .closedLocked with cycles := bump32 x.cycles, openCommand := false }) ∧
    (¬clash → x.state = .closing → f = .obstruction → active = true →
      let y : DoorUnit :=
        { go .opening with reversals := bump8 x.reversals, obstructions := bump32 x.obstructions }
      let held : Prop := x.entry.reversalLimit < bump8 x.reversals
      ∃ t : State, exec (.debounceEnd dt l) s = .next t ∧
        (¬held → becomes t y) ∧
        (held → becomes t { y with released := false, openCommand := true } ∧
          (s.hasRoom = true → t.isLive .doorObstructed (some d.val) = true))) ∧
    (clash → moving → f ≠ .emergency → f ≠ .releaseRequest → f ≠ .openRequest → f ≠ .closeRequest →
      ∃ t : State, exec (.debounceEnd dt l) s = .next t ∧ becomes t (go .fault) ∧
        (s.hasRoom = true → t.isLive .doorSwitchConflict (some d.val) = true)) ∧
    (x.state = .fault → L.closed ≠ L.openEnd → (f = .closed ∨ f = .locked ∨ f = .openEnd) →
      ∃ t : State, exec (.debounceEnd dt l) s = .next t ∧ becomes t (go L.derived) ∧
        t.isLive .doorOpenTimeout (some d.val) = false ∧ t.isLive .doorCloseTimeout (some d.val) = false ∧
        t.isLive .doorSwitchConflict (some d.val) = false) ∧
    (f = .emergency → active = true → x.state ≠ .emergency → x.state ≠ .disabled →
      ∃ t : State, exec (.debounceEnd dt l) s = .next t ∧ becomes t (go .emergency) ∧
        (s.hasRoom = true → t.isLive .doorEmergency (some d.val) = true)) ∧
    (f = .emergency → active = false → x.state = .emergency →
      ∃ t : State, exec (.debounceEnd dt l) s = .next t ∧ becomes t (go L.derived) ∧
        t.isLive .doorEmergency (some d.val) = false) ∧
    (x.state = .disabled → f ≠ .releaseRequest → f ≠ .openRequest → f ≠ .closeRequest →
      exec (.debounceEnd dt l) s = .next { v with doors := vput s.doors d { x with levels := L } })

/-- R119: OUTPUT_SET to a line one of whose sources is PANEL sets its panel value, and the lines are driven again; the
response carries the line's drive state. A line routed to no PANEL source is refused BAD_INDEX, a value above 1
BAD_FIELD. -/
def Obligations.OutputSetDrivesPanelLines : Prop :=
  ∀ (s : State) (dt : Nat) (tag : Byte) (l : Fin 16), s.serving = true →
    (∀ v, v ≤ 1 → (s.outputs[l].entry.source = .panel ∨ s.outputs[l].entry.direct = .panel) →
      ∃ t : State, exec (.outputSet dt tag l v) s = .next (joinResponse tag 0x24 .ok (.drive t.outputs[l].on) t) ∧
        t.outputs[l].panelValue = decide (v = 1) ∧
        (∀ j, j ≠ l → t.outputs[j].panelValue = s.outputs[j].panelValue) ∧
        (8 ≤ l.val → t.outputs[l].on = t.lineActive l) ∧
        { t with outputs := s.outputs, lamps := s.lamps } = s.noted dt) ∧
    (∀ v, v ≤ 1 → s.outputs[l].entry.source ≠ .panel → s.outputs[l].entry.direct ≠ .panel →
      exec (.outputSet dt tag l v) s = .next (joinResponse tag 0x24 .badIndex .none (s.noted dt))) ∧
    (∀ v, 2 ≤ v → exec (.outputSet dt tag l v) s = .next (joinResponse tag 0x24 .badField .none (s.noted dt)))

/-- R121, R122: an open load raises LAMP_OPEN, and its end clears it. A short on a lamp line that is on switches it off:
RETRY_WAIT for 1,000 ms after the first and second short, LOCKED_OUT after the third, and LAMP_SHORT is raised where
the live set has room. A retry makes the line NORMAL again, and a proving time with the line still on clears
LAMP_SHORT. -/
def Obligations.LampLinesAreProtected : Prop :=
  ∀ (s : State) (dt due : Nat) (k : Fin 8), s.awake = true →
    let u := s.lamps[k]
    (∃ t : State, exec (.openLoadReport dt k true) s = .next t ∧ t.lamps[k].openLoad = true ∧
      (s.hasRoom = true → t.isLive .lampOpen (some k.val) = true) ∧ Told (s.elapse dt) t) ∧
    (∃ t : State, exec (.openLoadReport dt k false) s = .next t ∧ t.lamps[k].openLoad = false ∧
      t.isLive .lampOpen (some k.val) = false ∧ Told (s.elapse dt) t) ∧
    (u.protection = .normal → s.outputs[lineOfLamp k].on = true →
      ∃ t : State, exec (.shortReport dt k) s = .next t ∧ t.outputs[lineOfLamp k].on = false ∧
        t.lamps[k].shorts = u.shorts + 1 ∧
        t.lamps[k].protection =
          (if u.shorts < 2 then .retryWait (s.now + dt + 1000000) else .lockedOut) ∧
        (s.hasRoom = true → t.isLive .lampShort (some k.val) = true) ∧ Told (s.elapse dt) t) ∧
    (u.protection = .retryWait due → due ≤ s.now + dt →
      ∃ t : State, exec (.retryDeadlineExpiry dt k) s = .next t ∧ t.lamps[k].protection = .normal ∧
        t.lamps[k].shorts = u.shorts ∧ { t with outputs := s.outputs, lamps := s.lamps } = s.elapse dt) ∧
    (u.protection = .normal → s.outputs[lineOfLamp k].on = true → u.proving = some due → due ≤ s.now + dt →
      ∃ t : State, exec (.provingDeadlineExpiry dt k) s = .next t ∧ t.isLive .lampShort (some k.val) = false ∧
        t.lamps[k].protection = .normal ∧ Told (s.elapse dt) t)

/-! ### Doors (chapter 7) -/

/-- R138, R139, R140: RELEASE and OPEN of an enabled door in RUN are taken while VEHICLE_SPEED is usable and not above
the release speed, the door is in none of EMERGENCY, FAULT and DISABLED, and its parking-brake slot is NONE or holds a
usable value other than 0; RELEASE sets released, OPEN both fields. Otherwise they are refused NOT_NOW and counted.
CLOSE clears both in any state but DISABLED. The response carries the door's state and fields, and no other door
changes. A press of a door's button is judged by the same rule (R115, R140); a release of it changes no more than the
level noted. The buttons are stated where the door's end switches are not both active. -/
def Obligations.DoorRequestsAreJudged : Prop :=
  (∀ (s : State) (dt : Nat) (tag : Byte) (d : Fin 4), s.serving = true → s.mode = .run →
    s.doors[d].entry.enabled = true →
    let u := s.doors[d]
    (s.grantsDoor d = true →
      (∃ t : State, exec (.doorRequest dt tag d (some .release)) s =
          .next (joinResponse tag 0x20 .ok (.door u.state true u.openCommand) t) ∧
        t.doors[d].released = true ∧ t.doors[d].openCommand = u.openCommand ∧ t.doors[d].state = u.state ∧
        (∀ j, j ≠ d → t.doors[j] = s.doors[j]) ∧ Moved (s.noted dt) t) ∧
      (∃ t : State, exec (.doorRequest dt tag d (some .open_)) s =
          .next (joinResponse tag 0x20 .ok (.door u.state true true) t) ∧
        t.doors[d].released = true ∧ t.doors[d].openCommand = true ∧ t.doors[d].state = u.state ∧
        (∀ j, j ≠ d → t.doors[j] = s.doors[j]) ∧ Moved (s.noted dt) t)) ∧
    (s.grantsDoor d = false → ∀ a : DoorAction, a ≠ .close →
      exec (.doorRequest dt tag d (some a)) s = .next (joinResponse tag 0x20 .notNow .none
        { s.noted dt with doors := vput s.doors d { u with refused := bump32 u.refused } })) ∧
    (u.state ≠ .disabled →
      ∃ t : State, exec (.doorRequest dt tag d (some .close)) s =
          .next (joinResponse tag 0x20 .ok (.door u.state false false) t) ∧
        t.doors[d].released = false ∧ t.doors[d].openCommand = false ∧ t.doors[d].state = u.state ∧
        (∀ j, j ≠ d → t.doors[j] = s.doors[j]) ∧ Moved (s.noted dt) t)) ∧
  ∀ (s : State) (dt start : Nat) (l : Fin 24) (d : Fin 4) (f : DoorFunction), s.awake = true → s.mode = .run →
    s.inputs[l].entry.function = .door f d.val → s.inputs[l].pending = some start →
    start + 1000 * s.inputs[l].entry.debounce ≤ s.now + dt →
    (f = .releaseRequest ∨ f = .openRequest ∨ f = .closeRequest) →
    (s.doors[d].levels.closed && s.doors[d].levels.openEnd) = false →
    let u := s.inputs[l]
    let active := if u.entry.polarity = .activeHigh then !u.accepted else u.accepted
    let v : State :=
      { s.elapse dt with inputs := vput s.inputs l { u with accepted := !u.accepted, pending := none } }
    let x : DoorUnit := { s.doors[d] with levels := s.doors[d].levels.set f active }
    (active = false → exec (.debounceEnd dt l) s = .next { v with doors := vput s.doors d x }) ∧
    (active = true → f ≠ .closeRequest → s.grantsDoor d = true →
      ∃ t : State, exec (.debounceEnd dt l) s = .next t ∧ t.doors[d].state = x.state ∧ t.doors[d].released = true ∧
        t.doors[d].openCommand = (if f = .openRequest then true else x.openCommand) ∧
        (∀ j, j ≠ d → t.doors[j] = s.doors[j]) ∧ Moved v t) ∧
    (active = true → f ≠ .closeRequest → s.grantsDoor d = false → exec (.debounceEnd dt l) s = .next
      { v with doors := vput s.doors d { x with refused := bump32 x.refused } }) ∧
    (active = true → f = .closeRequest → x.state ≠ .disabled →
      ∃ t : State, exec (.debounceEnd dt l) s = .next t ∧ t.doors[d].state = x.state ∧ t.doors[d].released = false ∧
        t.doors[d].openCommand = false ∧ (∀ j, j ≠ d → t.doors[j] = s.doors[j]) ∧ Moved v t)

/-- R134, R137: a door deadline that expires takes an OPENING, CLOSING or UNLOCKED door to FAULT with released and open
command 0 and no deadline, its state is published, DOOR set and the drive permit 0; the timeout fault of its state,
where it is not yet live, is raised and confirmed at once if the live set has room (its confirm time is 0, Table 8.2).
No other door changes. -/
def Obligations.DoorDeadlineTakesTheDoorToFault : Prop :=
  ∀ (s : State) (dt due : Nat) (d : Fin 4), s.awake = true → s.doors[d].deadline = some due →
    due ≤ s.now + dt → (s.doors[d].state = .opening ∨ s.doors[d].state = .closing ∨ s.doors[d].state = .unlocked) →
    let code : FaultCode := if s.doors[d].state = .opening then .doorOpenTimeout else .doorCloseTimeout
    ∃ t : State, exec (.doorDeadlineExpiry dt d) s = .next t ∧ t.doors[d].state = .fault ∧
      t.doors[d].released = false ∧ t.doors[d].openCommand = false ∧ t.doors[d].deadline = none ∧
      (∀ j, j ≠ d → t.doors[j] = s.doors[j]) ∧ t.slots[slotDoorState d].value = 6 ∧ t.flag .door = true ∧
      t.drivePermit = false ∧
      (s.confirmTime code = 0 → s.faults.live.length < 48 → s.isLive code (some d.val) = false →
        t.isConfirmed code (some d.val) = true) ∧ Moved (s.elapse dt) t

/-! ### Faults (chapter 8) -/

/-- R154, R155, R157, R160: a confirmation deadline that expires confirms its live entry, and the pair is stored ACTIVE
where fault memory holds the pair or has an empty position; the first-fault latch is filled if it is empty, and
FAULT_CONFIRMED is set. The live set keeps its pairs. R158: a pair that full memory does not hold takes the place of
the INACTIVE record of no higher severity that has the lowest severity, then the highest heal count, then the oldest
first ignition cycle, then the lowest position; with none, of the ACTIVE record of lower severity that has the lowest
severity, then the oldest first ignition cycle, then the lowest position; with none, it is not stored, which is counted
and sets FAULT_MEMORY_FULL. No other record changes. R180: the confirmation triggers an ARMED capture buffer whose
trigger code is the pair's, and no other. -/
def Obligations.ConfirmationStoresThePair : Prop :=
  ∀ (s : State) (dt due : Nat) (e : LiveEntry), s.awake = true → e ∈ s.faults.live → e.confirmed = false →
    e.deadline = some due → due ≤ s.now + dt →
    ∃ t : State, exec (.confirmationDeadlineExpiry dt e.code e.source) s = .next t ∧
      t.isConfirmed e.code e.source = true ∧ t.flag .faultConfirmed = true ∧ t.faults.latch ≠ none ∧
      (s.faults.latch ≠ none → t.faults.latch = s.faults.latch) ∧
      t.faults.live.map (fun x => (x.code, x.source)) = s.faults.live.map (fun x => (x.code, x.source)) ∧
      ((s.recordAt e.code e.source).isSome ∨ s.emptyPosition.isSome →
        ∃ p : Fin 40, ∃ r, t.faults.memory[p] = some r ∧ r.code = e.code ∧ r.source = e.source ∧
          r.active = true ∧ r.heal = 0) ∧ Told (s.elapse dt) t ∧
      (s.capture.state = .armed → s.capture.code = some e.code →
        t.capture = { s.capture with state := .triggered, triggerPending := true }) ∧
      ((s.capture.state ≠ .armed ∨ s.capture.code ≠ some e.code) → t.capture = s.capture) ∧
      (s.recordAt e.code e.source = none → s.emptyPosition = none →
        let sev := codeSeverity e.code
        let healed (r : FaultRecord) : Prop := r.active = false ∧ r.severity ≤ sev
        let lesser (r : FaultRecord) : Prop := r.active = true ∧ r.severity < sev
        let older (p q : Fin 40) (a b : FaultRecord) : Prop :=
          a.firstCycle < b.firstCycle ∨ (a.firstCycle = b.firstCycle ∧ p < q)
        let replaced (p : Fin 40) : Prop :=
          t.faults.memory = vput s.faults.memory p (some (s.newRecord e.code e.source)) ∧
            t.faults.memoryOverflow = s.faults.memoryOverflow
        (∀ (p : Fin 40) a, s.faults.memory[p] = some a → healed a →
          (∀ (q : Fin 40) b, s.faults.memory[q] = some b → healed b → q ≠ p →
            a.severity < b.severity ∨ (a.severity = b.severity ∧
              (b.heal < a.heal ∨ (b.heal = a.heal ∧ older p q a b)))) → replaced p) ∧
        ((∀ (q : Fin 40) b, s.faults.memory[q] = some b → ¬healed b) →
          (∀ (p : Fin 40) a, s.faults.memory[p] = some a → lesser a →
            (∀ (q : Fin 40) b, s.faults.memory[q] = some b → lesser b → q ≠ p →
              a.severity < b.severity ∨ (a.severity = b.severity ∧ older p q a b)) → replaced p) ∧
          ((∀ (q : Fin 40) b, s.faults.memory[q] = some b → ¬lesser b) →
            t.faults.memory = s.faults.memory ∧ t.faults.memoryOverflow = bump16 s.faults.memoryOverflow ∧
              t.flag .faultMemoryFull = true)))

/-- R162, R174: FAULT_CLEAR with STANDSTILL 1 and the parking brake applied is taken: where no live entry's code is
confirmed at once, every position of fault memory is empty, the latch and the memory overflow counter cleared, and
every live entry unconfirmed and timed anew; the response carries the number of records removed. Otherwise it is
refused NOT_NOW and changes nothing. CLEAR_FAULTS follows the same rule, and sets SERVICE_CLEAR when taken. -/
def Obligations.FaultClearsEmptyTheMemory : Prop :=
  (∀ (s : State) (dt : Nat) (tag : Byte), s.serving = true →
    (s.clearAllowed = true → (∀ e ∈ s.faults.live, s.confirmTime e.code ≠ 0) →
      exec (.faultClear dt tag) s = .next (joinResponse tag 0x31 .ok (.removed s.recordCount)
        { s.noted dt with faults := { s.faults with
          memory := Vector.replicate 40 none, latch := none, memoryOverflow := 0,
          live := s.faults.live.map fun e => { e with
            confirmed := false, since := s.now + dt,
            deadline := some (s.now + dt + 1000 * s.confirmTime e.code) } } })) ∧
    (s.clearAllowed = false →
      exec (.faultClear dt tag) s = .next (joinResponse tag 0x31 .notNow .none (s.noted dt)))) ∧
  ∀ (s : State) (dt : Nat), s.onAir = true →
    (s.clearAllowed = true →
      exec (.clearFaults dt) s = .next (beginResponse 0x15 (message .done [byteOf s.recordCount])
        (setFlag .serviceClear (clearMemory (s.asked dt))))) ∧
    (s.clearAllowed = false →
      exec (.clearFaults dt) s = .next (beginResponse 0x15 (message .notNow []) (s.asked dt)))

/-! ### The service channel and the capture buffer (chapter 9) -/

/-- R169, R173, R174: the reading services are answered DONE with their payloads, and change nothing but what taking a
request changes; a record position out of range is BAD_PARAMETER, an empty one and an empty latch NOT_PRESENT. A group
of counters above 2, and a range of MATCH counters that is empty, longer than 47 entries or past entry 127, are
BAD_PARAMETER. That the confirmed byte of a live fault is 1 or 0 is the model's choice (assumption 53). That a moment
within a ms is stamped with the whole ms before it is the model's choice (assumption 55). That a signed value is sent
in two's complement is the model's choice (assumption 56). -/
def Obligations.ServiceReadsAnswer : Prop :=
  ∀ (s : State) (dt : Nat), s.onAir = true →
    let t := s.asked dt
    exec (.identify dt) s = .next (beginResponse 0x10
      (message .done (be 2 460 ++ [Config.revision] ++ be 1 s.mode.number ++ be 4 s.label.toNat)) t) ∧
    (∃ payload, payload = (List.finRange 40).flatMap (fun p => match s.faults.memory[p] with
          | some r => [byteOf p.val, byteOf (codeNumber r.code).val, sourceByte r.source, boolByte r.active,
              byteOf r.occurrences]
          | none => []) ++ be 2 s.faults.memoryOverflow ∧
      exec (.readFaultList dt) s = .next (beginResponse 0x11 (message .done payload) t)) ∧
    (∀ p : Byte, 40 ≤ p.toNat →
      exec (.readFaultRecord dt p) s = .next (beginResponse 0x12 (message .badParameter []) t)) ∧
    (∀ p : Fin 40, s.faults.memory[p] = none →
      exec (.readFaultRecord dt (byteOf p)) s = .next (beginResponse 0x12 (message .notPresent []) t)) ∧
    (∀ (p : Fin 40) r, s.faults.memory[p] = some r →
      exec (.readFaultRecord dt (byteOf p)) s = .next (beginResponse 0x12 (message .done (recordBytes p r)) t)) ∧
    (s.faults.latch = none →
      exec (.readFirstFault dt) s = .next (beginResponse 0x13 (message .notPresent []) t)) ∧
    (∀ f, s.faults.latch = some f → exec (.readFirstFault dt) s = .next (beginResponse 0x13
      (message .done ([byteOf (codeNumber f.code).val, sourceByte f.source] ++ be 4 f.distance ++ be 2 f.cycle)) t)) ∧
    exec (.readLiveFaults dt) s = .next (beginResponse 0x14
      (message .done (s.faults.live.flatMap s.liveBytes ++ be 2 s.faults.liveOverflow)) t) ∧
    (∀ k : Byte, exec (.readSignal dt k) s = .next (beginResponse 0x20
      (message .done (k :: beInt 4 (s.slot k.toNat).value ++ [byteOf (s.slot k.toNat).state.number])) t)) ∧
    (∀ first count : Byte, 1 ≤ count.toNat → count.toNat ≤ 47 → first.toNat + count.toNat ≤ 128 →
      exec (.readCounters dt 2 first count) s = .next (beginResponse 0x21 (message .done
        ([first, count] ++ (s.matchCounters first.toNat count.toNat).flatMap (be 4))) t)) ∧
    (∀ first count : Byte, count.toNat = 0 ∨ 47 < count.toNat ∨ 128 < first.toNat + count.toNat →
      exec (.readCounters dt 2 first count) s = .next (beginResponse 0x21 (message .badParameter []) t)) ∧
    (∀ first count : Byte, exec (.readCounters dt 0 first count) s =
      .next (beginResponse 0x21 (message .done (t.portCounters.flatMap (be 4))) t)) ∧
    (∀ group first count : Byte, 3 ≤ group.toNat → exec (.readCounters dt group first count) s =
      .next (beginResponse 0x21 (message .badParameter []) t)) ∧
    (∀ first count : Byte, exec (.readCounters dt 1 first count) s =
      .next (beginResponse 0x21 (message .done (s.doorCounters.flatMap (be 4))) t))

/-- R178, R180, R182: CAPTURE_ARM with its parameters in range empties the ring and arms the buffer; a trigger makes an
ARMED buffer TRIGGERED with its trigger point pending; CAPTURE_STATUS reports the status; CAPTURE_READ of a FROZEN
buffer returns at most 16 records from the cursor, or from the first with the rewind mark, and moves the cursor. R16,
R177, R179, R181: a data frame offered to an ARMED or TRIGGERED buffer on a port of its set, and with the capture flag
where the filter is FLAGGED, joins the ring, in place of the oldest record of a full one; in TRIGGERED the first such
record is the trigger point, each later one counts the post count down, and the buffer is FROZEN, with CAPTURE_FROZEN
set, when none is left to record. A frame that does not qualify changes nothing of the buffer. Recording is stated for
a frame received in SETUP, and in RUN, for a frame that an entry takes, in a buffer without a trigger code. That a
moment within a ms is stamped with the whole ms before it is the model's choice (assumption 55). -/
def Obligations.CaptureServicesMoveTheBuffer : Prop :=
  (∀ (s : State) (dt : Nat), s.onAir = true →
    (∀ (ports filter post b : Byte) (code : Option FaultCode), 1 ≤ ports.toNat → ports.toNat ≤ 7 →
      filter.toNat ≤ 1 → triggerCode? b = some code →
      let c : CaptureUnit :=
        { state := .armed, ports := portSetOf ports, flagged := decide (filter = 1), postCount := post.toNat,
          code := code, remaining := post.toNat, triggerPending := false, ring := [], cursor := 0 }
      exec (.captureArm dt ports filter post b) s = .next (beginResponse 0x30
        (message .done ({ s with capture := c } : State).captureStatus) { s.asked dt with capture := c })) ∧
    (∀ (ports filter post b : Byte),
      (ports = 0 ∨ 8 ≤ ports.toNat ∨ 2 ≤ filter.toNat ∨ (21 ≤ b.toNat ∧ b.toNat ≤ 254)) →
      exec (.captureArm dt ports filter post b) s =
        .next (beginResponse 0x30 (message .badParameter []) (s.asked dt))) ∧
    (s.capture.state = .armed →
      let c : CaptureUnit := { s.capture with state := .triggered, triggerPending := true }
      exec (.captureTrigger dt) s = .next (beginResponse 0x31
        (message .done ({ s with capture := c } : State).captureStatus) { s.asked dt with capture := c })) ∧
    (s.capture.state ≠ .armed →
      exec (.captureTrigger dt) s =
        .next (beginResponse 0x31 (message .wrongState s.captureStatus) (s.asked dt))) ∧
    exec (.captureStatus dt) s = .next (beginResponse 0x32 (message .done s.captureStatus) (s.asked dt)) ∧
    (∀ rewind : Byte, rewind.toNat ≤ 1 → s.capture.state = .frozen →
      let start := if rewind = 1 then 0 else s.capture.cursor
      let records := (s.capture.ring.drop start).take 16
      exec (.captureRead dt rewind) s = .next (beginResponse 0x33
        (message .done (byteOf records.length :: captureList s.capture.ring.length start records))
        { s.asked dt with capture := { s.capture with cursor := start + records.length } })) ∧
    (∀ rewind : Byte, rewind.toNat ≤ 1 → s.capture.state ≠ .frozen →
      exec (.captureRead dt rewind) s = .next (beginResponse 0x33 (message .wrongState []) (s.asked dt)))) ∧
  (∀ (s : State) (dt : Nat) (p : Fin 3) (f : RxFrame), s.awake = true → s.ports[p].open_ = true → f.remote = false →
    s.mode = .setup → s.diverts p (takenFrame f) = false →
    let v : State := { s.elapse dt with ports := vput s.ports p { s.ports[p] with
      activity := true, counters := { s.ports[p].counters with received := bump32 s.ports[p].counters.received } } }
    let c := s.capture
    let joined (trigger : Bool) : List CaptureRecord :=
      let r : CaptureRecord :=
        { port := p, frame := takenFrame f, time := (s.elapse dt).msNow, entry := none, trigger := trigger }
      if c.ring.length < 256 then c.ring ++ [r] else c.ring.drop 1 ++ [r]
    ((c.state = .idle ∨ c.state = .frozen ∨ c.ports.has p = false ∨ c.flagged = true) →
      exec (.frameReceived dt p f) s = .next v) ∧
    (c.ports.has p = true → c.flagged = false →
      (c.state = .armed →
        exec (.frameReceived dt p f) s = .next { v with capture := { c with ring := joined false } }) ∧
      (c.state = .triggered → c.triggerPending = true → c.remaining ≠ 0 →
        exec (.frameReceived dt p f) s =
          .next { v with capture := { c with ring := joined true, triggerPending := false } }) ∧
      (c.state = .triggered → c.triggerPending = true → c.remaining = 0 →
        exec (.frameReceived dt p f) s = .next (setFlag .captureFrozen
          { v with capture := { c with ring := joined true, triggerPending := false, state := .frozen } })) ∧
      (c.state = .triggered → c.triggerPending = false → 2 ≤ c.remaining →
        exec (.frameReceived dt p f) s =
          .next { v with capture := { c with ring := joined false, remaining := c.remaining - 1 } }) ∧
      (c.state = .triggered → c.triggerPending = false → c.remaining ≤ 1 →
        exec (.frameReceived dt p f) s = .next (setFlag .captureFrozen
          { v with capture := { c with ring := joined false, remaining := 0, state := .frozen } })))) ∧
  ∀ (s : State) (dt : Nat) (p : Fin 3) (f : RxFrame) (e : Fin 128), s.awake = true → s.ports[p].open_ = true →
    f.remote = false → s.mode = .run → s.diverts p (takenFrame f) = false →
    entryTakes s.matchTable[e].entry p (takenFrame f) = true →
    (∀ j, j < e → entryTakes s.matchTable[j].entry p (takenFrame f) = false) →
    s.capture.state = .armed → s.capture.code = none → s.capture.ports.has p = true → s.capture.ring.length < 256 →
    let r : CaptureRecord :=
      { port := p, frame := takenFrame f, time := (s.elapse dt).msNow, entry := some e.val, trigger := false }
    ((s.capture.flagged = false ∨ s.matchTable[e].entry.capture = true) →
      ∃ t : State, exec (.frameReceived dt p f) s = .next t ∧
        t.capture = { s.capture with ring := s.capture.ring ++ [r] }) ∧
    (s.capture.flagged = true → s.matchTable[e].entry.capture = false →
      ∃ t : State, exec (.frameReceived dt p f) s = .next t ∧ t.capture = s.capture)

/-- R175, R176: OUTPUT_TEST_START of a unit in range, in RUN with ignition on, at standstill and with the parking
brake applied, starts a test of 30,000 ms, ending one that runs, and sets OUTPUT_TEST; a gauge must be TRACKING and
its sweep begins at sweep target 0. Otherwise it is answered BAD_PARAMETER, NOT_NOW or WRONG_STATE. OUTPUT_TEST_STOP
and the test deadline end the test. -/
def Obligations.OutputTestsStartAndEnd : Prop :=
  (∀ (s : State) (dt : Nat), s.onAir = true →
    (∀ (kind index : Byte) (u : TestUnit), s.testUnit? kind index = some u → s.startConditions = true →
      s.canTest u = true →
      ∃ t : State, exec (.outputTestStart dt kind index) s = .next (beginResponse 0x40 (message .done u.bytes) t) ∧
        t.service.test = some { unit := u, deadline := s.now + dt + 30000000 } ∧
        (∀ g, u = .gauge g → t.gauges[g].sweep = some 0) ∧
        t.flag .outputTest = true ∧ Moved (s.asked dt) t) ∧
    (∀ (kind index : Byte), s.testUnit? kind index = none →
      exec (.outputTestStart dt kind index) s =
        .next (beginResponse 0x40 (message .badParameter []) (s.asked dt))) ∧
    (∀ (kind index : Byte) (u : TestUnit), s.testUnit? kind index = some u → s.startConditions = false →
      exec (.outputTestStart dt kind index) s = .next (beginResponse 0x40 (message .notNow []) (s.asked dt))) ∧
    (∀ (kind index : Byte) (u : TestUnit), s.testUnit? kind index = some u → s.startConditions = true →
      s.canTest u = false →
      exec (.outputTestStart dt kind index) s =
        .next (beginResponse 0x40 (message .wrongState []) (s.asked dt))) ∧
    (s.service.test = none →
      exec (.outputTestStop dt) s = .next (beginResponse 0x41 (message .done [0, 0, 0]) (s.asked dt))) ∧
    (∀ x, s.service.test = some x →
      ∃ t : State, exec (.outputTestStop dt) s = .next (beginResponse 0x41 (message .done (1 :: x.unit.bytes)) t) ∧
        t.service.test = none ∧ t.flag .outputTest = true ∧ Moved (s.asked dt) t)) ∧
  (∀ (s : State) (dt : Nat) (x : OutputTest), s.resetLow = false → s.service.test = some x →
    x.deadline ≤ s.now + dt →
    ∃ t : State, exec (.outputTestDeadlineExpiry dt) s = .next t ∧ t.service = { s.service with test := none } ∧
      t.flag .outputTest = true ∧ Moved (s.elapse dt) t)

/-- R170: a message of 3 to 384 bytes is cut into n segments, n its length ÷ 6 rounded up and between 1 and 64. The
response frame of segment k carries the service code, a sequence byte with the index k and the more-follows mark for
every segment before the last, and the message bytes 6k to 6k + 5, or those that remain. The segments put together are
the message. -/
def Obligations.SegmentsCarryTheMessage : Prop :=
  ∀ (code : Byte) (msg : List Byte), 3 ≤ msg.length → msg.length ≤ 384 →
    let n := (msg.length + 5) / 6
    1 ≤ n ∧ n ≤ 64 ∧ (List.range n).flatMap (fun k => (segmentData code msg k).drop 2) = msg ∧
      ∀ k, k < n →
        segmentData code msg k =
          [code, BitVec.ofNat 8 (k + if k + 1 < n then 128 else 0)] ++ (msg.drop (6 * k)).take 6 ∧
        (segmentData code msg k).length ≤ 8 ∧ (k + 1 < n → (segmentData code msg k).length = 8)

/-- R171: at the end of the spacing the next segment of the response in flight is offered to the diagnostic port, and
while that port takes it the response is QUEUED with the next index. R171, R172: when its current segment has been
transmitted, the spacing to the next segment begins, or, after the last, the response is complete and counted; when
that segment expires in the queue, the response is abandoned and counted. A segment of a response no longer in flight
changes nothing of the service channel. -/
def Obligations.SpacingSendsTheNextSegment : Prop :=
  (∀ (s : State) (dt due : Nat) (r : Response), s.awake = true → s.service.response = some r →
    r.phase = .spacing due → due ≤ s.now + dt → s.ports[s.service.entry.port].open_ = true →
    s.ports[s.service.entry.port].queue.length < 16 →
    let p := s.service.entry.port
    let frame : Frame :=
      { format := s.service.entry.format, id := s.service.entry.responseId,
        data := segmentData r.code r.message (r.index + 1) }
    exec (.spacingDeadlineExpiry dt) s = .next { s.elapse dt with
      service := { s.service with response := some { r with index := r.index + 1, phase := .queued } },
      ports := vput s.ports p { s.ports[p] with
        queue := joinQueue { frame := frame, key := arbitrationKey frame, joined := s.now + dt,
                             origin := .service r.serial, onBus := false } s.ports[p].queue } }) ∧
  ∀ (s : State) (dt : Nat) (p : Fin 3) (h : QueuedFrame) (rest : List QueuedFrame) (serial : Nat), s.awake = true →
    s.ports[p].queue = h :: rest → h.origin = .service serial →
    let u := s.ports[p]
    let sent : State := { s.elapse dt with ports := vput s.ports p { u with
      queue := rest, counters := { u.counters with transmitted := bump32 u.counters.transmitted } } }
    let aged : State := { s.elapse dt with ports := vput s.ports p { u with
      queue := rest, counters := { u.counters with expired := bump32 u.counters.expired } } }
    let old : Prop := h.joined + 1000 * u.entry.maxAge ≤ s.now + dt
    (∀ r : Response, s.service.response = some r → r.serial = serial → r.phase = .queued →
      (h.onBus = true → 6 * (r.index + 1) < r.message.length →
        exec (.transmissionSuccess dt p) s = .next { sent with service := { s.service with
          response := some { r with phase := .spacing (s.now + dt + 1000 * s.service.entry.spacing) } } }) ∧
      (h.onBus = true → r.message.length ≤ 6 * (r.index + 1) →
        exec (.transmissionSuccess dt p) s = .next { sent with service := { s.service with
          response := none, completed := bump32 s.service.completed } }) ∧
      (h.onBus = false → old → exec (.queueAgeExpiry dt p 0) s = .next { aged with service := { s.service with
        response := none, abandoned := bump32 s.service.abandoned } })) ∧
    ((∀ r : Response, s.service.response = some r → r.serial ≠ serial) →
      (h.onBus = true → exec (.transmissionSuccess dt p) s = .next sent) ∧
      (h.onBus = false → old → exec (.queueAgeExpiry dt p 0) s = .next aged))

/-! ### Ignition and power (chapter 11) -/

/-- R200, R201, R202: a change of the IGN pin begins a pending change; one that has lasted 50 ms while ACTIVE is
accepted. On: IGNITION is 1, IGNITION_CYCLES is increased, the run-on timer is stopped and every lamp line is NORMAL
with short count 0. Off: IGNITION is 0, the bulb check is ended and the run-on timer starts. The return of the pin to
the accepted level discards the change. The first level accepted after a reset is published and is no such event: on
changes nothing else, and off starts the run-on timer. The state after each is stated, and no order of its acts. That
before the first accepted level no rule with ignition off applies is the model's reading (assumption 22). -/
def Obligations.IgnitionEventsTakeEffect : Prop :=
  (∀ (s : State) (dt start : Nat), s.awake = true → s.ignition.first = false → s.ignition.accepted = false →
    (s.ignition.pending = some start → start + 50000 ≤ s.now + dt →
      ∃ t : State, exec (.ignitionDebounceEnd dt) s = .next t ∧ t.slots[slotIgnition].value = 1 ∧
        Tell { s.elapse dt with ignition := { s.ignition with
          accepted := true, pending := none, first := true, offHold := none } } t) ∧
    (s.ignition.pending = none → s.ignition.offHold = some start → start + 50000 ≤ s.now + dt →
      ∃ t : State, exec (.ignitionDebounceEnd dt) s = .next t ∧ t.slots[slotIgnition].value = 0 ∧
        Tell { s.elapse dt with
          ignition := { s.ignition with first := true, offHold := none },
          runOn := some (s.now + dt + 1000 * (1000 * s.system.runOnTime)) } t)) ∧
  ∀ (s : State) (dt start : Nat), s.awake = true → s.ignition.first = true →
    (exec (.ignPinChange dt s.ignition.accepted) s = .next { s.elapse dt with ignition := { s.ignition with
      pin := s.ignition.accepted, pending := none, offHold := none } }) ∧
    (∀ level, level ≠ s.ignition.accepted → s.ignition.pending = none →
      exec (.ignPinChange dt level) s = .next { s.elapse dt with ignition := { s.ignition with
        pin := level, pending := some (s.now + dt), offHold := none } }) ∧
    (s.ignition.accepted = false → s.ignition.pending = some start → start + 50000 ≤ s.now + dt →
      ∃ t : State, exec (.ignitionDebounceEnd dt) s = .next t ∧ t.ignition.accepted = true ∧
        t.ignition.pending = none ∧ t.slots[slotIgnition].value = 1 ∧ t.cycles = bump16 s.cycles ∧
        t.slots[slotIgnitionCycles].value = bump16 s.cycles ∧ t.runOn = none ∧
        (∀ k : Fin 8, t.lamps[k].protection = .normal ∧ t.lamps[k].shorts = 0) ∧
        t.faults.memory = vmap (healRecord s.faults.healLimit) s.faults.memory ∧
        (s.mode = .run → t.bulb = some (s.now + dt + 1000 * s.system.bulbTime)) ∧
        Moved { s.elapse dt with ignition := t.ignition, cycles := t.cycles, bulb := t.bulb } t) ∧
    (s.ignition.accepted = true → s.ignition.pending = some start → start + 50000 ≤ s.now + dt →
      ∃ t : State, exec (.ignitionDebounceEnd dt) s = .next t ∧ t.ignition.accepted = false ∧
        t.ignition.pending = none ∧ t.slots[slotIgnition].value = 0 ∧ t.service.test = none ∧
        (∀ g : Fin 6, s.gauges[g].entry.enabled = true → s.gauges[g].state ≠ .off → t.gauges[g].target = 0) ∧
        t.runOn = some (s.now + dt + 1000 * (1000 * s.system.runOnTime)) ∧
        Moved { s.elapse dt with ignition := t.ignition, bulb := none } t)

/-- R203 (Table 11.1): at the run-on timer's expiry the part parks if every door is DISABLED, CLOSED_LOCKED or FAULT, no
response is in flight and no output test runs: PARKED with its mode and tables kept, every condition OFF, every
telltale DARK, no chime pending, every line off, the live set and the link's queues empty, the drive permit and
the stop-brake request 0 and ATTN released. Otherwise the timer is restarted. -/
def Obligations.RunOnExpiryParksOrRestarts : Prop :=
  ∀ (s : State) (dt due : Nat), s.awake = true → s.runOn = some due → due ≤ s.now + dt →
    (s.mayPark = true → s.link.restarting = false →
      ∃ t : State, exec (.runOnTimerExpiry dt) s = .next t ∧ t.power = .parked ∧ t.mode = s.mode ∧
        t.tables = s.tables ∧ t.runOn = none ∧ (∀ p : Fin 3, t.ports[p].queue = []) ∧
        (∀ i : Fin 4, t.pulses[i].meas = none) ∧ t.slots[slotVehicleSpeed].state = .stale ∧
        t.slots[slotStandstill].value = 0 ∧ (∀ c : Fin 96, t.conds[c].state = .off) ∧
        (∀ k : Fin 64, t.telltales[k].state = .dark) ∧ (∀ r : Fin 70, t.chime.pending[r] = none) ∧
        (∀ l : Fin 16, t.outputs[l].on = false) ∧
        (∀ d : Fin 4, t.doors[d].state = s.doors[d].state ∧ t.doors[d].released = false) ∧
        t.drivePermit = false ∧ t.stopBrake = false ∧ t.faults.live = [] ∧
        t.faults.memory = inactiveMemory s.faults.memory ∧ t.link.egress = [] ∧ t.link.ingress = [] ∧
        t.link.timer = none ∧ t.link.reportTimer = none ∧ t.attn = false ∧
        (s.direct = true → s.link.lost = true → t.direct = false) ∧
        t.capture = s.capture ∧ t.service = s.service ∧ t.label = s.label ∧ t.ignition = s.ignition ∧
        t.cycles = s.cycles ∧ t.inputs = s.inputs ∧ t.speed.total = s.speed.total ∧ t.speed.delta = s.speed.delta ∧
        (∀ k : Fin 240, t.record k = s.record k)) ∧
    (s.mayPark = false → exec (.runOnTimerExpiry dt) s = .next
      { s.elapse dt with runOn := some (s.now + dt + 1000 * (1000 * s.system.runOnTime)) })

/-! ### Invariants and whole-machine rules -/

/-- Every command takes its time and leaves the queue of waiting commands to the step (assumption 1). -/
def Obligations.CommandsTakeTheirTime : Prop :=
  ∀ (c : Instr) (s t : State), exec c s = .next t → t.now = s.now + c.dt ∧ t.pending = s.pending

/-- R191, R193, R194, R203, R205: no table entry is changed by any command but a TABLE_WRITE and what restarts the
part: a RESET pin that returns high, a power-on reset and the departure of a RESTART's response. A PANEL_FRAME_RECEIVED
is covered unless its payload carries the request code of a TABLE_WRITE. Stated for a part with nothing waiting in its
ingress buffer and no restart pending. -/
def Obligations.TablesChangeByWritesAndResetsOnly : Prop :=
  ∀ (c : Instr) (s t : State), exec c s = .next t → s.link.ingress = [] → s.link.restarting = false →
    (∀ tag r, c.request? = some (tag, r) → requestCode r ≠ 1) →
    (∀ dt type tag p crc, c = .panelFrameReceived dt type tag p crc → requestCode (parseRequest p) ≠ 1) →
    (∀ dt, c ≠ .resetPinHigh dt ∧ c ≠ .powerOnReset dt) → t.tables = s.tables

/-- R143, R144 and Table 2.6: every command keeps the interlocks: the drive permit and the stop-brake request are what
the doors, the speed, the mode and the power state give, and slots 249 and 250 publish them. That slot 249 follows the
doors at park too is the model's reading (assumption 20); the interlocks hold the model's stage at its settled value
(assumption 7). -/
def Obligations.InterlocksAreKept : Prop :=
  ∀ (c : Instr) (s t : State), s.interlocked = true → exec c s = .next t → t.interlocked = true

/-- R116, R118, R143: every command keeps this too: a line that follows DRIVE_PERMIT is on only while the permit is 1,
and so only in RUN and ACTIVE with every enabled door CLOSED_LOCKED and not released. -/
def Obligations.PermitLinesAreOnOnlyWithThePermit : Prop :=
  ∀ (c : Instr) (s t : State), s.interlocked = true → s.relaysSafe = true → exec c s = .next t →
    t.relaysSafe = true ∧
      ∀ l : Fin 16, t.outputs[l].entry.source = .drivePermit → t.outputs[l].on = true →
        t.mode = .run ∧ t.power = .active ∧
          ∀ d : Fin 4, t.doors[d].entry.enabled = true →
            t.doors[d].state = .closedLocked ∧ t.doors[d].released = false

/-- R187, R188, R20, R21: every command keeps these bounds: the ingress buffer holds at most 4 frames, the egress queue
at most 32, and 32 only with an unsent report among them; a transmit queue holds at most 16, in ascending key. -/
def Obligations.QueuesKeepTheirBounds : Prop :=
  (∀ (c : Instr) (s t : State), s.linkBounded = true → exec c s = .next t → t.linkBounded = true) ∧
  ∀ (c : Instr) (s t : State),
    (∀ p : Fin 3, s.ports[p].queue.length ≤ 16 ∧ ascending s.ports[p].queue = true) → exec c s = .next t →
      ∀ p : Fin 3, t.ports[p].queue.length ≤ 16 ∧ ascending t.ports[p].queue = true

/-- R151: the live fault set holds at most 48 entries, no two with one code and source, and every command keeps it
so. -/
def Obligations.LiveFaultSetKeepsItsBound : Prop :=
  ∀ (c : Instr) (s t : State), s.liveBounded = true → exec c s = .next t → t.liveBounded = true

/-- R206: while the RESET pin is low only time passes and the pins' levels are noted: the mode, the tables, the
retained distance, the faults and the link stay, and every line stays off. That a command which arrives then is lost,
and that the pins' levels are noted, is the model's reading (assumption 36). -/
def Obligations.HeldInResetNothingActs : Prop :=
  ∀ (c : Instr) (s t : State), s.resetLow = true → exec c s = .next t →
    (∀ dt, c ≠ .resetPinHigh dt ∧ c ≠ .powerOnReset dt) →
    t.resetLow = true ∧ t.mode = s.mode ∧ t.tables = s.tables ∧ t.speed = s.speed ∧ t.faults = s.faults ∧
      t.link = s.link ∧ t.doors = s.doors ∧ t.slots = s.slots ∧ t.ports = s.ports ∧
      ((∀ l : Fin 16, s.outputs[l].on = false) → ∀ l : Fin 16, t.outputs[l].on = false)

/-- The state after a power-on reset meets every invariant above, and is what R207 and the tables give: SETUP, ACTIVE,
RETAINED_LOST set, VEHICLE_SPEED STALE, SPEED_SOURCE 2, every door DISABLED. The pins' levels are the model's choice
(assumption 8), and nothing here rests on them. -/
def Obligations.ResetMeetsTheInvariants : Prop :=
  State.reset.interlocked = true ∧ State.reset.relaysSafe = true ∧ State.reset.linkBounded = true ∧
    State.reset.liveBounded = true ∧ (∀ p : Fin 3, State.reset.ports[p].queue = []) ∧
    State.reset.mode = .setup ∧ State.reset.power = .active ∧ State.reset.flag .retainedLost = true ∧
    State.reset.attn = true ∧ State.reset.slots[slotVehicleSpeed].state = .stale ∧
    State.reset.slots[slotSpeedSource].value = 2 ∧ (∀ d : Fin 4, State.reset.doors[d].state = .disabled) ∧
    State.reset.speed.total = 0 ∧ State.reset.pending = []
end

