-- ==== Sys2Proof/Laws/State.lean ====
section
/-! SUPPORT. What each named update of the state does to each field: one lemma per field per update. -/

namespace Sys2Proof.Machine

variable (s : State)

/-! ### State.elapse -/

@[simp] theorem State.elapse_now (dt : Nat) : (s.elapse dt).now = s.now + dt := rfl
@[simp] theorem State.elapse_base (dt : Nat) : (s.elapse dt).base = s.base := rfl
@[simp] theorem State.elapse_pending (dt : Nat) : (s.elapse dt).pending = s.pending := rfl
@[simp] theorem State.elapse_stage (dt : Nat) : (s.elapse dt).stage = s.stage := rfl
@[simp] theorem State.elapse_resetLow (dt : Nat) : (s.elapse dt).resetLow = s.resetLow := rfl
@[simp] theorem State.elapse_mode (dt : Nat) : (s.elapse dt).mode = s.mode := rfl
@[simp] theorem State.elapse_power (dt : Nat) : (s.elapse dt).power = s.power := rfl
@[simp] theorem State.elapse_label (dt : Nat) : (s.elapse dt).label = s.label := rfl
@[simp] theorem State.elapse_ignition (dt : Nat) : (s.elapse dt).ignition = s.ignition := rfl
@[simp] theorem State.elapse_cycles (dt : Nat) : (s.elapse dt).cycles = s.cycles := rfl
@[simp] theorem State.elapse_runOn (dt : Nat) : (s.elapse dt).runOn = s.runOn := rfl
@[simp] theorem State.elapse_ports (dt : Nat) : (s.elapse dt).ports = s.ports := rfl
@[simp] theorem State.elapse_matchTable (dt : Nat) : (s.elapse dt).matchTable = s.matchTable := rfl
@[simp] theorem State.elapse_descs (dt : Nat) : (s.elapse dt).descs = s.descs := rfl
@[simp] theorem State.elapse_slots (dt : Nat) : (s.elapse dt).slots = s.slots := rfl
@[simp] theorem State.elapse_panelDeadlines (dt : Nat) : (s.elapse dt).panelDeadlines = s.panelDeadlines := rfl
@[simp] theorem State.elapse_pulses (dt : Nat) : (s.elapse dt).pulses = s.pulses := rfl
@[simp] theorem State.elapse_speed (dt : Nat) : (s.elapse dt).speed = s.speed := rfl
@[simp] theorem State.elapse_gauges (dt : Nat) : (s.elapse dt).gauges = s.gauges := rfl
@[simp] theorem State.elapse_conds (dt : Nat) : (s.elapse dt).conds = s.conds := rfl
@[simp] theorem State.elapse_telltales (dt : Nat) : (s.elapse dt).telltales = s.telltales := rfl
@[simp] theorem State.elapse_flashOrigin (dt : Nat) : (s.elapse dt).flashOrigin = s.flashOrigin := rfl
@[simp] theorem State.elapse_bulb (dt : Nat) : (s.elapse dt).bulb = s.bulb := rfl
@[simp] theorem State.elapse_chime (dt : Nat) : (s.elapse dt).chime = s.chime := rfl
@[simp] theorem State.elapse_inputs (dt : Nat) : (s.elapse dt).inputs = s.inputs := rfl
@[simp] theorem State.elapse_outputs (dt : Nat) : (s.elapse dt).outputs = s.outputs := rfl
@[simp] theorem State.elapse_lamps (dt : Nat) : (s.elapse dt).lamps = s.lamps := rfl
@[simp] theorem State.elapse_direct (dt : Nat) : (s.elapse dt).direct = s.direct := rfl
@[simp] theorem State.elapse_doors (dt : Nat) : (s.elapse dt).doors = s.doors := rfl
@[simp] theorem State.elapse_stopLatch (dt : Nat) : (s.elapse dt).stopLatch = s.stopLatch := rfl
@[simp] theorem State.elapse_drivePermit (dt : Nat) : (s.elapse dt).drivePermit = s.drivePermit := rfl
@[simp] theorem State.elapse_stopBrake (dt : Nat) : (s.elapse dt).stopBrake = s.stopBrake := rfl
@[simp] theorem State.elapse_faults (dt : Nat) : (s.elapse dt).faults = s.faults := rfl
@[simp] theorem State.elapse_service (dt : Nat) : (s.elapse dt).service = s.service := rfl
@[simp] theorem State.elapse_capture (dt : Nat) : (s.elapse dt).capture = s.capture := rfl
@[simp] theorem State.elapse_link (dt : Nat) : (s.elapse dt).link = s.link := rfl
@[simp] theorem State.elapse_system (dt : Nat) : (s.elapse dt).system = s.system := rfl
@[simp] theorem State.elapse_flags (dt : Nat) : (s.elapse dt).flags = s.flags := rfl
@[simp] theorem State.elapse_attn (dt : Nat) : (s.elapse dt).attn = s.attn := rfl

/-! ### State.withPending -/

@[simp] theorem State.withPending_now (q : List Instr) : (s.withPending q).now = s.now := rfl
@[simp] theorem State.withPending_base (q : List Instr) : (s.withPending q).base = s.base := rfl
@[simp] theorem State.withPending_pending (q : List Instr) : (s.withPending q).pending = q := rfl
@[simp] theorem State.withPending_stage (q : List Instr) : (s.withPending q).stage = s.stage := rfl
@[simp] theorem State.withPending_resetLow (q : List Instr) : (s.withPending q).resetLow = s.resetLow := rfl
@[simp] theorem State.withPending_mode (q : List Instr) : (s.withPending q).mode = s.mode := rfl
@[simp] theorem State.withPending_power (q : List Instr) : (s.withPending q).power = s.power := rfl
@[simp] theorem State.withPending_label (q : List Instr) : (s.withPending q).label = s.label := rfl
@[simp] theorem State.withPending_ignition (q : List Instr) : (s.withPending q).ignition = s.ignition := rfl
@[simp] theorem State.withPending_cycles (q : List Instr) : (s.withPending q).cycles = s.cycles := rfl
@[simp] theorem State.withPending_runOn (q : List Instr) : (s.withPending q).runOn = s.runOn := rfl
@[simp] theorem State.withPending_ports (q : List Instr) : (s.withPending q).ports = s.ports := rfl
@[simp] theorem State.withPending_matchTable (q : List Instr) : (s.withPending q).matchTable = s.matchTable := rfl
@[simp] theorem State.withPending_descs (q : List Instr) : (s.withPending q).descs = s.descs := rfl
@[simp] theorem State.withPending_slots (q : List Instr) : (s.withPending q).slots = s.slots := rfl
@[simp] theorem State.withPending_panelDeadlines (q : List Instr) :
    (s.withPending q).panelDeadlines = s.panelDeadlines := rfl
@[simp] theorem State.withPending_pulses (q : List Instr) : (s.withPending q).pulses = s.pulses := rfl
@[simp] theorem State.withPending_speed (q : List Instr) : (s.withPending q).speed = s.speed := rfl
@[simp] theorem State.withPending_gauges (q : List Instr) : (s.withPending q).gauges = s.gauges := rfl
@[simp] theorem State.withPending_conds (q : List Instr) : (s.withPending q).conds = s.conds := rfl
@[simp] theorem State.withPending_telltales (q : List Instr) : (s.withPending q).telltales = s.telltales := rfl
@[simp] theorem State.withPending_flashOrigin (q : List Instr) : (s.withPending q).flashOrigin = s.flashOrigin := rfl
@[simp] theorem State.withPending_bulb (q : List Instr) : (s.withPending q).bulb = s.bulb := rfl
@[simp] theorem State.withPending_chime (q : List Instr) : (s.withPending q).chime = s.chime := rfl
@[simp] theorem State.withPending_inputs (q : List Instr) : (s.withPending q).inputs = s.inputs := rfl
@[simp] theorem State.withPending_outputs (q : List Instr) : (s.withPending q).outputs = s.outputs := rfl
@[simp] theorem State.withPending_lamps (q : List Instr) : (s.withPending q).lamps = s.lamps := rfl
@[simp] theorem State.withPending_direct (q : List Instr) : (s.withPending q).direct = s.direct := rfl
@[simp] theorem State.withPending_doors (q : List Instr) : (s.withPending q).doors = s.doors := rfl
@[simp] theorem State.withPending_stopLatch (q : List Instr) : (s.withPending q).stopLatch = s.stopLatch := rfl
@[simp] theorem State.withPending_drivePermit (q : List Instr) : (s.withPending q).drivePermit = s.drivePermit := rfl
@[simp] theorem State.withPending_stopBrake (q : List Instr) : (s.withPending q).stopBrake = s.stopBrake := rfl
@[simp] theorem State.withPending_faults (q : List Instr) : (s.withPending q).faults = s.faults := rfl
@[simp] theorem State.withPending_service (q : List Instr) : (s.withPending q).service = s.service := rfl
@[simp] theorem State.withPending_capture (q : List Instr) : (s.withPending q).capture = s.capture := rfl
@[simp] theorem State.withPending_link (q : List Instr) : (s.withPending q).link = s.link := rfl
@[simp] theorem State.withPending_system (q : List Instr) : (s.withPending q).system = s.system := rfl
@[simp] theorem State.withPending_flags (q : List Instr) : (s.withPending q).flags = s.flags := rfl
@[simp] theorem State.withPending_attn (q : List Instr) : (s.withPending q).attn = s.attn := rfl

/-! ### State.noted -/

@[simp] theorem State.noted_now (dt : Nat) : (s.noted dt).now = s.now + dt := rfl
@[simp] theorem State.noted_base (dt : Nat) : (s.noted dt).base = s.base := rfl
@[simp] theorem State.noted_pending (dt : Nat) : (s.noted dt).pending = s.pending := rfl
@[simp] theorem State.noted_stage (dt : Nat) : (s.noted dt).stage = s.stage := rfl
@[simp] theorem State.noted_resetLow (dt : Nat) : (s.noted dt).resetLow = s.resetLow := rfl
@[simp] theorem State.noted_mode (dt : Nat) : (s.noted dt).mode = s.mode := rfl
@[simp] theorem State.noted_power (dt : Nat) : (s.noted dt).power = s.power := rfl
@[simp] theorem State.noted_label (dt : Nat) : (s.noted dt).label = s.label := rfl
@[simp] theorem State.noted_ignition (dt : Nat) : (s.noted dt).ignition = s.ignition := rfl
@[simp] theorem State.noted_cycles (dt : Nat) : (s.noted dt).cycles = s.cycles := rfl
@[simp] theorem State.noted_runOn (dt : Nat) : (s.noted dt).runOn = s.runOn := rfl
@[simp] theorem State.noted_ports (dt : Nat) : (s.noted dt).ports = s.ports := rfl
@[simp] theorem State.noted_matchTable (dt : Nat) : (s.noted dt).matchTable = s.matchTable := rfl
@[simp] theorem State.noted_descs (dt : Nat) : (s.noted dt).descs = s.descs := rfl
@[simp] theorem State.noted_slots (dt : Nat) : (s.noted dt).slots = s.slots := rfl
@[simp] theorem State.noted_panelDeadlines (dt : Nat) : (s.noted dt).panelDeadlines = s.panelDeadlines := rfl
@[simp] theorem State.noted_pulses (dt : Nat) : (s.noted dt).pulses = s.pulses := rfl
@[simp] theorem State.noted_speed (dt : Nat) : (s.noted dt).speed = s.speed := rfl
@[simp] theorem State.noted_gauges (dt : Nat) : (s.noted dt).gauges = s.gauges := rfl
@[simp] theorem State.noted_conds (dt : Nat) : (s.noted dt).conds = s.conds := rfl
@[simp] theorem State.noted_telltales (dt : Nat) : (s.noted dt).telltales = s.telltales := rfl
@[simp] theorem State.noted_flashOrigin (dt : Nat) : (s.noted dt).flashOrigin = s.flashOrigin := rfl
@[simp] theorem State.noted_bulb (dt : Nat) : (s.noted dt).bulb = s.bulb := rfl
@[simp] theorem State.noted_chime (dt : Nat) : (s.noted dt).chime = s.chime := rfl
@[simp] theorem State.noted_inputs (dt : Nat) : (s.noted dt).inputs = s.inputs := rfl
@[simp] theorem State.noted_outputs (dt : Nat) : (s.noted dt).outputs = s.outputs := rfl
@[simp] theorem State.noted_lamps (dt : Nat) : (s.noted dt).lamps = s.lamps := rfl
@[simp] theorem State.noted_direct (dt : Nat) : (s.noted dt).direct = s.direct := rfl
@[simp] theorem State.noted_doors (dt : Nat) : (s.noted dt).doors = s.doors := rfl
@[simp] theorem State.noted_stopLatch (dt : Nat) : (s.noted dt).stopLatch = s.stopLatch := rfl
@[simp] theorem State.noted_drivePermit (dt : Nat) : (s.noted dt).drivePermit = s.drivePermit := rfl
@[simp] theorem State.noted_stopBrake (dt : Nat) : (s.noted dt).stopBrake = s.stopBrake := rfl
@[simp] theorem State.noted_faults (dt : Nat) : (s.noted dt).faults = s.faults := rfl
@[simp] theorem State.noted_service (dt : Nat) : (s.noted dt).service = s.service := rfl
@[simp] theorem State.noted_capture (dt : Nat) : (s.noted dt).capture = s.capture := rfl
@[simp] theorem State.noted_link (dt : Nat) :
    (s.noted dt).link = { s.link with timer := some (s.now + dt + 1000 * s.system.panelTimeout) } := rfl
@[simp] theorem State.noted_system (dt : Nat) : (s.noted dt).system = s.system := rfl
@[simp] theorem State.noted_flags (dt : Nat) : (s.noted dt).flags = s.flags := rfl
@[simp] theorem State.noted_attn (dt : Nat) : (s.noted dt).attn = s.attn := rfl

/-! ### setStage -/

@[simp] theorem setStage_now (n : Nat) : (setStage n s).now = s.now := rfl
@[simp] theorem setStage_base (n : Nat) : (setStage n s).base = s.base := rfl
@[simp] theorem setStage_pending (n : Nat) : (setStage n s).pending = s.pending := rfl
@[simp] theorem setStage_stage (n : Nat) : (setStage n s).stage = n := rfl
@[simp] theorem setStage_resetLow (n : Nat) : (setStage n s).resetLow = s.resetLow := rfl
@[simp] theorem setStage_mode (n : Nat) : (setStage n s).mode = s.mode := rfl
@[simp] theorem setStage_power (n : Nat) : (setStage n s).power = s.power := rfl
@[simp] theorem setStage_label (n : Nat) : (setStage n s).label = s.label := rfl
@[simp] theorem setStage_ignition (n : Nat) : (setStage n s).ignition = s.ignition := rfl
@[simp] theorem setStage_cycles (n : Nat) : (setStage n s).cycles = s.cycles := rfl
@[simp] theorem setStage_runOn (n : Nat) : (setStage n s).runOn = s.runOn := rfl
@[simp] theorem setStage_ports (n : Nat) : (setStage n s).ports = s.ports := rfl
@[simp] theorem setStage_matchTable (n : Nat) : (setStage n s).matchTable = s.matchTable := rfl
@[simp] theorem setStage_descs (n : Nat) : (setStage n s).descs = s.descs := rfl
@[simp] theorem setStage_slots (n : Nat) : (setStage n s).slots = s.slots := rfl
@[simp] theorem setStage_panelDeadlines (n : Nat) : (setStage n s).panelDeadlines = s.panelDeadlines := rfl
@[simp] theorem setStage_pulses (n : Nat) : (setStage n s).pulses = s.pulses := rfl
@[simp] theorem setStage_speed (n : Nat) : (setStage n s).speed = s.speed := rfl
@[simp] theorem setStage_gauges (n : Nat) : (setStage n s).gauges = s.gauges := rfl
@[simp] theorem setStage_conds (n : Nat) : (setStage n s).conds = s.conds := rfl
@[simp] theorem setStage_telltales (n : Nat) : (setStage n s).telltales = s.telltales := rfl
@[simp] theorem setStage_flashOrigin (n : Nat) : (setStage n s).flashOrigin = s.flashOrigin := rfl
@[simp] theorem setStage_bulb (n : Nat) : (setStage n s).bulb = s.bulb := rfl
@[simp] theorem setStage_chime (n : Nat) : (setStage n s).chime = s.chime := rfl
@[simp] theorem setStage_inputs (n : Nat) : (setStage n s).inputs = s.inputs := rfl
@[simp] theorem setStage_outputs (n : Nat) : (setStage n s).outputs = s.outputs := rfl
@[simp] theorem setStage_lamps (n : Nat) : (setStage n s).lamps = s.lamps := rfl
@[simp] theorem setStage_direct (n : Nat) : (setStage n s).direct = s.direct := rfl
@[simp] theorem setStage_doors (n : Nat) : (setStage n s).doors = s.doors := rfl
@[simp] theorem setStage_stopLatch (n : Nat) : (setStage n s).stopLatch = s.stopLatch := rfl
@[simp] theorem setStage_drivePermit (n : Nat) : (setStage n s).drivePermit = s.drivePermit := rfl
@[simp] theorem setStage_stopBrake (n : Nat) : (setStage n s).stopBrake = s.stopBrake := rfl
@[simp] theorem setStage_faults (n : Nat) : (setStage n s).faults = s.faults := rfl
@[simp] theorem setStage_service (n : Nat) : (setStage n s).service = s.service := rfl
@[simp] theorem setStage_capture (n : Nat) : (setStage n s).capture = s.capture := rfl
@[simp] theorem setStage_link (n : Nat) : (setStage n s).link = s.link := rfl
@[simp] theorem setStage_system (n : Nat) : (setStage n s).system = s.system := rfl
@[simp] theorem setStage_flags (n : Nat) : (setStage n s).flags = s.flags := rfl
@[simp] theorem setStage_attn (n : Nat) : (setStage n s).attn = s.attn := rfl

/-! ### putPort -/

@[simp] theorem putPort_now (p : Fin 3) (u : PortUnit) : (putPort p u s).now = s.now := rfl
@[simp] theorem putPort_base (p : Fin 3) (u : PortUnit) : (putPort p u s).base = s.base := rfl
@[simp] theorem putPort_pending (p : Fin 3) (u : PortUnit) : (putPort p u s).pending = s.pending := rfl
@[simp] theorem putPort_stage (p : Fin 3) (u : PortUnit) : (putPort p u s).stage = s.stage := rfl
@[simp] theorem putPort_resetLow (p : Fin 3) (u : PortUnit) : (putPort p u s).resetLow = s.resetLow := rfl
@[simp] theorem putPort_mode (p : Fin 3) (u : PortUnit) : (putPort p u s).mode = s.mode := rfl
@[simp] theorem putPort_power (p : Fin 3) (u : PortUnit) : (putPort p u s).power = s.power := rfl
@[simp] theorem putPort_label (p : Fin 3) (u : PortUnit) : (putPort p u s).label = s.label := rfl
@[simp] theorem putPort_ignition (p : Fin 3) (u : PortUnit) : (putPort p u s).ignition = s.ignition := rfl
@[simp] theorem putPort_cycles (p : Fin 3) (u : PortUnit) : (putPort p u s).cycles = s.cycles := rfl
@[simp] theorem putPort_runOn (p : Fin 3) (u : PortUnit) : (putPort p u s).runOn = s.runOn := rfl
@[simp] theorem putPort_ports (p : Fin 3) (u : PortUnit) : (putPort p u s).ports = vput s.ports p u := rfl
@[simp] theorem putPort_matchTable (p : Fin 3) (u : PortUnit) : (putPort p u s).matchTable = s.matchTable := rfl
@[simp] theorem putPort_descs (p : Fin 3) (u : PortUnit) : (putPort p u s).descs = s.descs := rfl
@[simp] theorem putPort_slots (p : Fin 3) (u : PortUnit) : (putPort p u s).slots = s.slots := rfl
@[simp] theorem putPort_panelDeadlines (p : Fin 3) (u : PortUnit) :
    (putPort p u s).panelDeadlines = s.panelDeadlines := rfl
@[simp] theorem putPort_pulses (p : Fin 3) (u : PortUnit) : (putPort p u s).pulses = s.pulses := rfl
@[simp] theorem putPort_speed (p : Fin 3) (u : PortUnit) : (putPort p u s).speed = s.speed := rfl
@[simp] theorem putPort_gauges (p : Fin 3) (u : PortUnit) : (putPort p u s).gauges = s.gauges := rfl
@[simp] theorem putPort_conds (p : Fin 3) (u : PortUnit) : (putPort p u s).conds = s.conds := rfl
@[simp] theorem putPort_telltales (p : Fin 3) (u : PortUnit) : (putPort p u s).telltales = s.telltales := rfl
@[simp] theorem putPort_flashOrigin (p : Fin 3) (u : PortUnit) : (putPort p u s).flashOrigin = s.flashOrigin := rfl
@[simp] theorem putPort_bulb (p : Fin 3) (u : PortUnit) : (putPort p u s).bulb = s.bulb := rfl
@[simp] theorem putPort_chime (p : Fin 3) (u : PortUnit) : (putPort p u s).chime = s.chime := rfl
@[simp] theorem putPort_inputs (p : Fin 3) (u : PortUnit) : (putPort p u s).inputs = s.inputs := rfl
@[simp] theorem putPort_outputs (p : Fin 3) (u : PortUnit) : (putPort p u s).outputs = s.outputs := rfl
@[simp] theorem putPort_lamps (p : Fin 3) (u : PortUnit) : (putPort p u s).lamps = s.lamps := rfl
@[simp] theorem putPort_direct (p : Fin 3) (u : PortUnit) : (putPort p u s).direct = s.direct := rfl
@[simp] theorem putPort_doors (p : Fin 3) (u : PortUnit) : (putPort p u s).doors = s.doors := rfl
@[simp] theorem putPort_stopLatch (p : Fin 3) (u : PortUnit) : (putPort p u s).stopLatch = s.stopLatch := rfl
@[simp] theorem putPort_drivePermit (p : Fin 3) (u : PortUnit) : (putPort p u s).drivePermit = s.drivePermit := rfl
@[simp] theorem putPort_stopBrake (p : Fin 3) (u : PortUnit) : (putPort p u s).stopBrake = s.stopBrake := rfl
@[simp] theorem putPort_faults (p : Fin 3) (u : PortUnit) : (putPort p u s).faults = s.faults := rfl
@[simp] theorem putPort_service (p : Fin 3) (u : PortUnit) : (putPort p u s).service = s.service := rfl
@[simp] theorem putPort_capture (p : Fin 3) (u : PortUnit) : (putPort p u s).capture = s.capture := rfl
@[simp] theorem putPort_link (p : Fin 3) (u : PortUnit) : (putPort p u s).link = s.link := rfl
@[simp] theorem putPort_system (p : Fin 3) (u : PortUnit) : (putPort p u s).system = s.system := rfl
@[simp] theorem putPort_flags (p : Fin 3) (u : PortUnit) : (putPort p u s).flags = s.flags := rfl
@[simp] theorem putPort_attn (p : Fin 3) (u : PortUnit) : (putPort p u s).attn = s.attn := rfl

/-! ### putMatch -/

@[simp] theorem putMatch_now (e : Fin 128) (u : MatchUnit) : (putMatch e u s).now = s.now := rfl
@[simp] theorem putMatch_base (e : Fin 128) (u : MatchUnit) : (putMatch e u s).base = s.base := rfl
@[simp] theorem putMatch_pending (e : Fin 128) (u : MatchUnit) : (putMatch e u s).pending = s.pending := rfl
@[simp] theorem putMatch_stage (e : Fin 128) (u : MatchUnit) : (putMatch e u s).stage = s.stage := rfl
@[simp] theorem putMatch_resetLow (e : Fin 128) (u : MatchUnit) : (putMatch e u s).resetLow = s.resetLow := rfl
@[simp] theorem putMatch_mode (e : Fin 128) (u : MatchUnit) : (putMatch e u s).mode = s.mode := rfl
@[simp] theorem putMatch_power (e : Fin 128) (u : MatchUnit) : (putMatch e u s).power = s.power := rfl
@[simp] theorem putMatch_label (e : Fin 128) (u : MatchUnit) : (putMatch e u s).label = s.label := rfl
@[simp] theorem putMatch_ignition (e : Fin 128) (u : MatchUnit) : (putMatch e u s).ignition = s.ignition := rfl
@[simp] theorem putMatch_cycles (e : Fin 128) (u : MatchUnit) : (putMatch e u s).cycles = s.cycles := rfl
@[simp] theorem putMatch_runOn (e : Fin 128) (u : MatchUnit) : (putMatch e u s).runOn = s.runOn := rfl
@[simp] theorem putMatch_ports (e : Fin 128) (u : MatchUnit) : (putMatch e u s).ports = s.ports := rfl
@[simp] theorem putMatch_matchTable (e : Fin 128) (u : MatchUnit) :
    (putMatch e u s).matchTable = vput s.matchTable e u := rfl
@[simp] theorem putMatch_descs (e : Fin 128) (u : MatchUnit) : (putMatch e u s).descs = s.descs := rfl
@[simp] theorem putMatch_slots (e : Fin 128) (u : MatchUnit) : (putMatch e u s).slots = s.slots := rfl
@[simp] theorem putMatch_panelDeadlines (e : Fin 128) (u : MatchUnit) :
    (putMatch e u s).panelDeadlines = s.panelDeadlines := rfl
@[simp] theorem putMatch_pulses (e : Fin 128) (u : MatchUnit) : (putMatch e u s).pulses = s.pulses := rfl
@[simp] theorem putMatch_speed (e : Fin 128) (u : MatchUnit) : (putMatch e u s).speed = s.speed := rfl
@[simp] theorem putMatch_gauges (e : Fin 128) (u : MatchUnit) : (putMatch e u s).gauges = s.gauges := rfl
@[simp] theorem putMatch_conds (e : Fin 128) (u : MatchUnit) : (putMatch e u s).conds = s.conds := rfl
@[simp] theorem putMatch_telltales (e : Fin 128) (u : MatchUnit) : (putMatch e u s).telltales = s.telltales := rfl
@[simp] theorem putMatch_flashOrigin (e : Fin 128) (u : MatchUnit) :
    (putMatch e u s).flashOrigin = s.flashOrigin := rfl
@[simp] theorem putMatch_bulb (e : Fin 128) (u : MatchUnit) : (putMatch e u s).bulb = s.bulb := rfl
@[simp] theorem putMatch_chime (e : Fin 128) (u : MatchUnit) : (putMatch e u s).chime = s.chime := rfl
@[simp] theorem putMatch_inputs (e : Fin 128) (u : MatchUnit) : (putMatch e u s).inputs = s.inputs := rfl
@[simp] theorem putMatch_outputs (e : Fin 128) (u : MatchUnit) : (putMatch e u s).outputs = s.outputs := rfl
@[simp] theorem putMatch_lamps (e : Fin 128) (u : MatchUnit) : (putMatch e u s).lamps = s.lamps := rfl
@[simp] theorem putMatch_direct (e : Fin 128) (u : MatchUnit) : (putMatch e u s).direct = s.direct := rfl
@[simp] theorem putMatch_doors (e : Fin 128) (u : MatchUnit) : (putMatch e u s).doors = s.doors := rfl
@[simp] theorem putMatch_stopLatch (e : Fin 128) (u : MatchUnit) : (putMatch e u s).stopLatch = s.stopLatch := rfl
@[simp] theorem putMatch_drivePermit (e : Fin 128) (u : MatchUnit) :
    (putMatch e u s).drivePermit = s.drivePermit := rfl
@[simp] theorem putMatch_stopBrake (e : Fin 128) (u : MatchUnit) : (putMatch e u s).stopBrake = s.stopBrake := rfl
@[simp] theorem putMatch_faults (e : Fin 128) (u : MatchUnit) : (putMatch e u s).faults = s.faults := rfl
@[simp] theorem putMatch_service (e : Fin 128) (u : MatchUnit) : (putMatch e u s).service = s.service := rfl
@[simp] theorem putMatch_capture (e : Fin 128) (u : MatchUnit) : (putMatch e u s).capture = s.capture := rfl
@[simp] theorem putMatch_link (e : Fin 128) (u : MatchUnit) : (putMatch e u s).link = s.link := rfl
@[simp] theorem putMatch_system (e : Fin 128) (u : MatchUnit) : (putMatch e u s).system = s.system := rfl
@[simp] theorem putMatch_flags (e : Fin 128) (u : MatchUnit) : (putMatch e u s).flags = s.flags := rfl
@[simp] theorem putMatch_attn (e : Fin 128) (u : MatchUnit) : (putMatch e u s).attn = s.attn := rfl

/-! ### putRec -/

@[simp] theorem putRec_now (k : Fin 240) (r : SlotRec) : (putRec k r s).now = s.now := rfl
@[simp] theorem putRec_base (k : Fin 240) (r : SlotRec) : (putRec k r s).base = s.base := rfl
@[simp] theorem putRec_pending (k : Fin 240) (r : SlotRec) : (putRec k r s).pending = s.pending := rfl
@[simp] theorem putRec_stage (k : Fin 240) (r : SlotRec) : (putRec k r s).stage = s.stage := rfl
@[simp] theorem putRec_resetLow (k : Fin 240) (r : SlotRec) : (putRec k r s).resetLow = s.resetLow := rfl
@[simp] theorem putRec_mode (k : Fin 240) (r : SlotRec) : (putRec k r s).mode = s.mode := rfl
@[simp] theorem putRec_power (k : Fin 240) (r : SlotRec) : (putRec k r s).power = s.power := rfl
@[simp] theorem putRec_label (k : Fin 240) (r : SlotRec) : (putRec k r s).label = s.label := rfl
@[simp] theorem putRec_ignition (k : Fin 240) (r : SlotRec) : (putRec k r s).ignition = s.ignition := rfl
@[simp] theorem putRec_cycles (k : Fin 240) (r : SlotRec) : (putRec k r s).cycles = s.cycles := rfl
@[simp] theorem putRec_runOn (k : Fin 240) (r : SlotRec) : (putRec k r s).runOn = s.runOn := rfl
@[simp] theorem putRec_ports (k : Fin 240) (r : SlotRec) : (putRec k r s).ports = s.ports := rfl
@[simp] theorem putRec_matchTable (k : Fin 240) (r : SlotRec) : (putRec k r s).matchTable = s.matchTable := rfl
@[simp] theorem putRec_descs (k : Fin 240) (r : SlotRec) : (putRec k r s).descs = s.descs := rfl
@[simp] theorem putRec_slots (k : Fin 240) (r : SlotRec) : (putRec k r s).slots = vput s.slots (configSlot k) r := rfl
@[simp] theorem putRec_panelDeadlines (k : Fin 240) (r : SlotRec) :
    (putRec k r s).panelDeadlines = s.panelDeadlines := rfl
@[simp] theorem putRec_pulses (k : Fin 240) (r : SlotRec) : (putRec k r s).pulses = s.pulses := rfl
@[simp] theorem putRec_speed (k : Fin 240) (r : SlotRec) : (putRec k r s).speed = s.speed := rfl
@[simp] theorem putRec_gauges (k : Fin 240) (r : SlotRec) : (putRec k r s).gauges = s.gauges := rfl
@[simp] theorem putRec_conds (k : Fin 240) (r : SlotRec) : (putRec k r s).conds = s.conds := rfl
@[simp] theorem putRec_telltales (k : Fin 240) (r : SlotRec) : (putRec k r s).telltales = s.telltales := rfl
@[simp] theorem putRec_flashOrigin (k : Fin 240) (r : SlotRec) : (putRec k r s).flashOrigin = s.flashOrigin := rfl
@[simp] theorem putRec_bulb (k : Fin 240) (r : SlotRec) : (putRec k r s).bulb = s.bulb := rfl
@[simp] theorem putRec_chime (k : Fin 240) (r : SlotRec) : (putRec k r s).chime = s.chime := rfl
@[simp] theorem putRec_inputs (k : Fin 240) (r : SlotRec) : (putRec k r s).inputs = s.inputs := rfl
@[simp] theorem putRec_outputs (k : Fin 240) (r : SlotRec) : (putRec k r s).outputs = s.outputs := rfl
@[simp] theorem putRec_lamps (k : Fin 240) (r : SlotRec) : (putRec k r s).lamps = s.lamps := rfl
@[simp] theorem putRec_direct (k : Fin 240) (r : SlotRec) : (putRec k r s).direct = s.direct := rfl
@[simp] theorem putRec_doors (k : Fin 240) (r : SlotRec) : (putRec k r s).doors = s.doors := rfl
@[simp] theorem putRec_stopLatch (k : Fin 240) (r : SlotRec) : (putRec k r s).stopLatch = s.stopLatch := rfl
@[simp] theorem putRec_drivePermit (k : Fin 240) (r : SlotRec) : (putRec k r s).drivePermit = s.drivePermit := rfl
@[simp] theorem putRec_stopBrake (k : Fin 240) (r : SlotRec) : (putRec k r s).stopBrake = s.stopBrake := rfl
@[simp] theorem putRec_faults (k : Fin 240) (r : SlotRec) : (putRec k r s).faults = s.faults := rfl
@[simp] theorem putRec_service (k : Fin 240) (r : SlotRec) : (putRec k r s).service = s.service := rfl
@[simp] theorem putRec_capture (k : Fin 240) (r : SlotRec) : (putRec k r s).capture = s.capture := rfl
@[simp] theorem putRec_link (k : Fin 240) (r : SlotRec) : (putRec k r s).link = s.link := rfl
@[simp] theorem putRec_system (k : Fin 240) (r : SlotRec) : (putRec k r s).system = s.system := rfl
@[simp] theorem putRec_flags (k : Fin 240) (r : SlotRec) : (putRec k r s).flags = s.flags := rfl
@[simp] theorem putRec_attn (k : Fin 240) (r : SlotRec) : (putRec k r s).attn = s.attn := rfl

/-! ### putPanelDeadline -/

@[simp] theorem putPanelDeadline_now (k : Fin 240) (t : Option Nat) : (putPanelDeadline k t s).now = s.now := rfl
@[simp] theorem putPanelDeadline_base (k : Fin 240) (t : Option Nat) : (putPanelDeadline k t s).base = s.base := rfl
@[simp] theorem putPanelDeadline_pending (k : Fin 240) (t : Option Nat) :
    (putPanelDeadline k t s).pending = s.pending := rfl
@[simp] theorem putPanelDeadline_stage (k : Fin 240) (t : Option Nat) :
    (putPanelDeadline k t s).stage = s.stage := rfl
@[simp] theorem putPanelDeadline_resetLow (k : Fin 240) (t : Option Nat) :
    (putPanelDeadline k t s).resetLow = s.resetLow := rfl
@[simp] theorem putPanelDeadline_mode (k : Fin 240) (t : Option Nat) : (putPanelDeadline k t s).mode = s.mode := rfl
@[simp] theorem putPanelDeadline_power (k : Fin 240) (t : Option Nat) :
    (putPanelDeadline k t s).power = s.power := rfl
@[simp] theorem putPanelDeadline_label (k : Fin 240) (t : Option Nat) :
    (putPanelDeadline k t s).label = s.label := rfl
@[simp] theorem putPanelDeadline_ignition (k : Fin 240) (t : Option Nat) :
    (putPanelDeadline k t s).ignition = s.ignition := rfl
@[simp] theorem putPanelDeadline_cycles (k : Fin 240) (t : Option Nat) :
    (putPanelDeadline k t s).cycles = s.cycles := rfl
@[simp] theorem putPanelDeadline_runOn (k : Fin 240) (t : Option Nat) :
    (putPanelDeadline k t s).runOn = s.runOn := rfl
@[simp] theorem putPanelDeadline_ports (k : Fin 240) (t : Option Nat) :
    (putPanelDeadline k t s).ports = s.ports := rfl
@[simp] theorem putPanelDeadline_matchTable (k : Fin 240) (t : Option Nat) :
    (putPanelDeadline k t s).matchTable = s.matchTable := rfl
@[simp] theorem putPanelDeadline_descs (k : Fin 240) (t : Option Nat) :
    (putPanelDeadline k t s).descs = s.descs := rfl
@[simp] theorem putPanelDeadline_slots (k : Fin 240) (t : Option Nat) :
    (putPanelDeadline k t s).slots = s.slots := rfl
@[simp] theorem putPanelDeadline_panelDeadlines (k : Fin 240) (t : Option Nat) :
    (putPanelDeadline k t s).panelDeadlines = vput s.panelDeadlines k t := rfl
@[simp] theorem putPanelDeadline_pulses (k : Fin 240) (t : Option Nat) :
    (putPanelDeadline k t s).pulses = s.pulses := rfl
@[simp] theorem putPanelDeadline_speed (k : Fin 240) (t : Option Nat) :
    (putPanelDeadline k t s).speed = s.speed := rfl
@[simp] theorem putPanelDeadline_gauges (k : Fin 240) (t : Option Nat) :
    (putPanelDeadline k t s).gauges = s.gauges := rfl
@[simp] theorem putPanelDeadline_conds (k : Fin 240) (t : Option Nat) :
    (putPanelDeadline k t s).conds = s.conds := rfl
@[simp] theorem putPanelDeadline_telltales (k : Fin 240) (t : Option Nat) :
    (putPanelDeadline k t s).telltales = s.telltales := rfl
@[simp] theorem putPanelDeadline_flashOrigin (k : Fin 240) (t : Option Nat) :
    (putPanelDeadline k t s).flashOrigin = s.flashOrigin := rfl
@[simp] theorem putPanelDeadline_bulb (k : Fin 240) (t : Option Nat) : (putPanelDeadline k t s).bulb = s.bulb := rfl
@[simp] theorem putPanelDeadline_chime (k : Fin 240) (t : Option Nat) :
    (putPanelDeadline k t s).chime = s.chime := rfl
@[simp] theorem putPanelDeadline_inputs (k : Fin 240) (t : Option Nat) :
    (putPanelDeadline k t s).inputs = s.inputs := rfl
@[simp] theorem putPanelDeadline_outputs (k : Fin 240) (t : Option Nat) :
    (putPanelDeadline k t s).outputs = s.outputs := rfl
@[simp] theorem putPanelDeadline_lamps (k : Fin 240) (t : Option Nat) :
    (putPanelDeadline k t s).lamps = s.lamps := rfl
@[simp] theorem putPanelDeadline_direct (k : Fin 240) (t : Option Nat) :
    (putPanelDeadline k t s).direct = s.direct := rfl
@[simp] theorem putPanelDeadline_doors (k : Fin 240) (t : Option Nat) :
    (putPanelDeadline k t s).doors = s.doors := rfl
@[simp] theorem putPanelDeadline_stopLatch (k : Fin 240) (t : Option Nat) :
    (putPanelDeadline k t s).stopLatch = s.stopLatch := rfl
@[simp] theorem putPanelDeadline_drivePermit (k : Fin 240) (t : Option Nat) :
    (putPanelDeadline k t s).drivePermit = s.drivePermit := rfl
@[simp] theorem putPanelDeadline_stopBrake (k : Fin 240) (t : Option Nat) :
    (putPanelDeadline k t s).stopBrake = s.stopBrake := rfl
@[simp] theorem putPanelDeadline_faults (k : Fin 240) (t : Option Nat) :
    (putPanelDeadline k t s).faults = s.faults := rfl
@[simp] theorem putPanelDeadline_service (k : Fin 240) (t : Option Nat) :
    (putPanelDeadline k t s).service = s.service := rfl
@[simp] theorem putPanelDeadline_capture (k : Fin 240) (t : Option Nat) :
    (putPanelDeadline k t s).capture = s.capture := rfl
@[simp] theorem putPanelDeadline_link (k : Fin 240) (t : Option Nat) : (putPanelDeadline k t s).link = s.link := rfl
@[simp] theorem putPanelDeadline_system (k : Fin 240) (t : Option Nat) :
    (putPanelDeadline k t s).system = s.system := rfl
@[simp] theorem putPanelDeadline_flags (k : Fin 240) (t : Option Nat) :
    (putPanelDeadline k t s).flags = s.flags := rfl
@[simp] theorem putPanelDeadline_attn (k : Fin 240) (t : Option Nat) : (putPanelDeadline k t s).attn = s.attn := rfl

/-! ### noPanelDeadlines -/

@[simp] theorem noPanelDeadlines_now : (noPanelDeadlines s).now = s.now := rfl
@[simp] theorem noPanelDeadlines_base : (noPanelDeadlines s).base = s.base := rfl
@[simp] theorem noPanelDeadlines_pending : (noPanelDeadlines s).pending = s.pending := rfl
@[simp] theorem noPanelDeadlines_stage : (noPanelDeadlines s).stage = s.stage := rfl
@[simp] theorem noPanelDeadlines_resetLow : (noPanelDeadlines s).resetLow = s.resetLow := rfl
@[simp] theorem noPanelDeadlines_mode : (noPanelDeadlines s).mode = s.mode := rfl
@[simp] theorem noPanelDeadlines_power : (noPanelDeadlines s).power = s.power := rfl
@[simp] theorem noPanelDeadlines_label : (noPanelDeadlines s).label = s.label := rfl
@[simp] theorem noPanelDeadlines_ignition : (noPanelDeadlines s).ignition = s.ignition := rfl
@[simp] theorem noPanelDeadlines_cycles : (noPanelDeadlines s).cycles = s.cycles := rfl
@[simp] theorem noPanelDeadlines_runOn : (noPanelDeadlines s).runOn = s.runOn := rfl
@[simp] theorem noPanelDeadlines_ports : (noPanelDeadlines s).ports = s.ports := rfl
@[simp] theorem noPanelDeadlines_matchTable : (noPanelDeadlines s).matchTable = s.matchTable := rfl
@[simp] theorem noPanelDeadlines_descs : (noPanelDeadlines s).descs = s.descs := rfl
@[simp] theorem noPanelDeadlines_slots : (noPanelDeadlines s).slots = s.slots := rfl
@[simp] theorem noPanelDeadlines_panelDeadlines :
    (noPanelDeadlines s).panelDeadlines = Vector.replicate 240 none := rfl
@[simp] theorem noPanelDeadlines_pulses : (noPanelDeadlines s).pulses = s.pulses := rfl
@[simp] theorem noPanelDeadlines_speed : (noPanelDeadlines s).speed = s.speed := rfl
@[simp] theorem noPanelDeadlines_gauges : (noPanelDeadlines s).gauges = s.gauges := rfl
@[simp] theorem noPanelDeadlines_conds : (noPanelDeadlines s).conds = s.conds := rfl
@[simp] theorem noPanelDeadlines_telltales : (noPanelDeadlines s).telltales = s.telltales := rfl
@[simp] theorem noPanelDeadlines_flashOrigin : (noPanelDeadlines s).flashOrigin = s.flashOrigin := rfl
@[simp] theorem noPanelDeadlines_bulb : (noPanelDeadlines s).bulb = s.bulb := rfl
@[simp] theorem noPanelDeadlines_chime : (noPanelDeadlines s).chime = s.chime := rfl
@[simp] theorem noPanelDeadlines_inputs : (noPanelDeadlines s).inputs = s.inputs := rfl
@[simp] theorem noPanelDeadlines_outputs : (noPanelDeadlines s).outputs = s.outputs := rfl
@[simp] theorem noPanelDeadlines_lamps : (noPanelDeadlines s).lamps = s.lamps := rfl
@[simp] theorem noPanelDeadlines_direct : (noPanelDeadlines s).direct = s.direct := rfl
@[simp] theorem noPanelDeadlines_doors : (noPanelDeadlines s).doors = s.doors := rfl
@[simp] theorem noPanelDeadlines_stopLatch : (noPanelDeadlines s).stopLatch = s.stopLatch := rfl
@[simp] theorem noPanelDeadlines_drivePermit : (noPanelDeadlines s).drivePermit = s.drivePermit := rfl
@[simp] theorem noPanelDeadlines_stopBrake : (noPanelDeadlines s).stopBrake = s.stopBrake := rfl
@[simp] theorem noPanelDeadlines_faults : (noPanelDeadlines s).faults = s.faults := rfl
@[simp] theorem noPanelDeadlines_service : (noPanelDeadlines s).service = s.service := rfl
@[simp] theorem noPanelDeadlines_capture : (noPanelDeadlines s).capture = s.capture := rfl
@[simp] theorem noPanelDeadlines_link : (noPanelDeadlines s).link = s.link := rfl
@[simp] theorem noPanelDeadlines_system : (noPanelDeadlines s).system = s.system := rfl
@[simp] theorem noPanelDeadlines_flags : (noPanelDeadlines s).flags = s.flags := rfl
@[simp] theorem noPanelDeadlines_attn : (noPanelDeadlines s).attn = s.attn := rfl

/-! ### putPulse -/

@[simp] theorem putPulse_now (i : Fin 4) (u : PulseUnit) : (putPulse i u s).now = s.now := rfl
@[simp] theorem putPulse_base (i : Fin 4) (u : PulseUnit) : (putPulse i u s).base = s.base := rfl
@[simp] theorem putPulse_pending (i : Fin 4) (u : PulseUnit) : (putPulse i u s).pending = s.pending := rfl
@[simp] theorem putPulse_stage (i : Fin 4) (u : PulseUnit) : (putPulse i u s).stage = s.stage := rfl
@[simp] theorem putPulse_resetLow (i : Fin 4) (u : PulseUnit) : (putPulse i u s).resetLow = s.resetLow := rfl
@[simp] theorem putPulse_mode (i : Fin 4) (u : PulseUnit) : (putPulse i u s).mode = s.mode := rfl
@[simp] theorem putPulse_power (i : Fin 4) (u : PulseUnit) : (putPulse i u s).power = s.power := rfl
@[simp] theorem putPulse_label (i : Fin 4) (u : PulseUnit) : (putPulse i u s).label = s.label := rfl
@[simp] theorem putPulse_ignition (i : Fin 4) (u : PulseUnit) : (putPulse i u s).ignition = s.ignition := rfl
@[simp] theorem putPulse_cycles (i : Fin 4) (u : PulseUnit) : (putPulse i u s).cycles = s.cycles := rfl
@[simp] theorem putPulse_runOn (i : Fin 4) (u : PulseUnit) : (putPulse i u s).runOn = s.runOn := rfl
@[simp] theorem putPulse_ports (i : Fin 4) (u : PulseUnit) : (putPulse i u s).ports = s.ports := rfl
@[simp] theorem putPulse_matchTable (i : Fin 4) (u : PulseUnit) : (putPulse i u s).matchTable = s.matchTable := rfl
@[simp] theorem putPulse_descs (i : Fin 4) (u : PulseUnit) : (putPulse i u s).descs = s.descs := rfl
@[simp] theorem putPulse_slots (i : Fin 4) (u : PulseUnit) : (putPulse i u s).slots = s.slots := rfl
@[simp] theorem putPulse_panelDeadlines (i : Fin 4) (u : PulseUnit) :
    (putPulse i u s).panelDeadlines = s.panelDeadlines := rfl
@[simp] theorem putPulse_pulses (i : Fin 4) (u : PulseUnit) : (putPulse i u s).pulses = vput s.pulses i u := rfl
@[simp] theorem putPulse_speed (i : Fin 4) (u : PulseUnit) : (putPulse i u s).speed = s.speed := rfl
@[simp] theorem putPulse_gauges (i : Fin 4) (u : PulseUnit) : (putPulse i u s).gauges = s.gauges := rfl
@[simp] theorem putPulse_conds (i : Fin 4) (u : PulseUnit) : (putPulse i u s).conds = s.conds := rfl
@[simp] theorem putPulse_telltales (i : Fin 4) (u : PulseUnit) : (putPulse i u s).telltales = s.telltales := rfl
@[simp] theorem putPulse_flashOrigin (i : Fin 4) (u : PulseUnit) : (putPulse i u s).flashOrigin = s.flashOrigin := rfl
@[simp] theorem putPulse_bulb (i : Fin 4) (u : PulseUnit) : (putPulse i u s).bulb = s.bulb := rfl
@[simp] theorem putPulse_chime (i : Fin 4) (u : PulseUnit) : (putPulse i u s).chime = s.chime := rfl
@[simp] theorem putPulse_inputs (i : Fin 4) (u : PulseUnit) : (putPulse i u s).inputs = s.inputs := rfl
@[simp] theorem putPulse_outputs (i : Fin 4) (u : PulseUnit) : (putPulse i u s).outputs = s.outputs := rfl
@[simp] theorem putPulse_lamps (i : Fin 4) (u : PulseUnit) : (putPulse i u s).lamps = s.lamps := rfl
@[simp] theorem putPulse_direct (i : Fin 4) (u : PulseUnit) : (putPulse i u s).direct = s.direct := rfl
@[simp] theorem putPulse_doors (i : Fin 4) (u : PulseUnit) : (putPulse i u s).doors = s.doors := rfl
@[simp] theorem putPulse_stopLatch (i : Fin 4) (u : PulseUnit) : (putPulse i u s).stopLatch = s.stopLatch := rfl
@[simp] theorem putPulse_drivePermit (i : Fin 4) (u : PulseUnit) : (putPulse i u s).drivePermit = s.drivePermit := rfl
@[simp] theorem putPulse_stopBrake (i : Fin 4) (u : PulseUnit) : (putPulse i u s).stopBrake = s.stopBrake := rfl
@[simp] theorem putPulse_faults (i : Fin 4) (u : PulseUnit) : (putPulse i u s).faults = s.faults := rfl
@[simp] theorem putPulse_service (i : Fin 4) (u : PulseUnit) : (putPulse i u s).service = s.service := rfl
@[simp] theorem putPulse_capture (i : Fin 4) (u : PulseUnit) : (putPulse i u s).capture = s.capture := rfl
@[simp] theorem putPulse_link (i : Fin 4) (u : PulseUnit) : (putPulse i u s).link = s.link := rfl
@[simp] theorem putPulse_system (i : Fin 4) (u : PulseUnit) : (putPulse i u s).system = s.system := rfl
@[simp] theorem putPulse_flags (i : Fin 4) (u : PulseUnit) : (putPulse i u s).flags = s.flags := rfl
@[simp] theorem putPulse_attn (i : Fin 4) (u : PulseUnit) : (putPulse i u s).attn = s.attn := rfl

/-! ### putMeas -/

@[simp] theorem putMeas_now (i : Fin 4) (m : PulseMeas) : (putMeas i m s).now = s.now := rfl
@[simp] theorem putMeas_base (i : Fin 4) (m : PulseMeas) : (putMeas i m s).base = s.base := rfl
@[simp] theorem putMeas_pending (i : Fin 4) (m : PulseMeas) : (putMeas i m s).pending = s.pending := rfl
@[simp] theorem putMeas_stage (i : Fin 4) (m : PulseMeas) : (putMeas i m s).stage = s.stage := rfl
@[simp] theorem putMeas_resetLow (i : Fin 4) (m : PulseMeas) : (putMeas i m s).resetLow = s.resetLow := rfl
@[simp] theorem putMeas_mode (i : Fin 4) (m : PulseMeas) : (putMeas i m s).mode = s.mode := rfl
@[simp] theorem putMeas_power (i : Fin 4) (m : PulseMeas) : (putMeas i m s).power = s.power := rfl
@[simp] theorem putMeas_label (i : Fin 4) (m : PulseMeas) : (putMeas i m s).label = s.label := rfl
@[simp] theorem putMeas_ignition (i : Fin 4) (m : PulseMeas) : (putMeas i m s).ignition = s.ignition := rfl
@[simp] theorem putMeas_cycles (i : Fin 4) (m : PulseMeas) : (putMeas i m s).cycles = s.cycles := rfl
@[simp] theorem putMeas_runOn (i : Fin 4) (m : PulseMeas) : (putMeas i m s).runOn = s.runOn := rfl
@[simp] theorem putMeas_ports (i : Fin 4) (m : PulseMeas) : (putMeas i m s).ports = s.ports := rfl
@[simp] theorem putMeas_matchTable (i : Fin 4) (m : PulseMeas) : (putMeas i m s).matchTable = s.matchTable := rfl
@[simp] theorem putMeas_descs (i : Fin 4) (m : PulseMeas) : (putMeas i m s).descs = s.descs := rfl
@[simp] theorem putMeas_slots (i : Fin 4) (m : PulseMeas) : (putMeas i m s).slots = s.slots := rfl
@[simp] theorem putMeas_panelDeadlines (i : Fin 4) (m : PulseMeas) :
    (putMeas i m s).panelDeadlines = s.panelDeadlines := rfl
@[simp] theorem putMeas_pulses (i : Fin 4) (m : PulseMeas) :
    (putMeas i m s).pulses = vput s.pulses i { s.pulses[i] with meas := some m } := rfl
@[simp] theorem putMeas_speed (i : Fin 4) (m : PulseMeas) : (putMeas i m s).speed = s.speed := rfl
@[simp] theorem putMeas_gauges (i : Fin 4) (m : PulseMeas) : (putMeas i m s).gauges = s.gauges := rfl
@[simp] theorem putMeas_conds (i : Fin 4) (m : PulseMeas) : (putMeas i m s).conds = s.conds := rfl
@[simp] theorem putMeas_telltales (i : Fin 4) (m : PulseMeas) : (putMeas i m s).telltales = s.telltales := rfl
@[simp] theorem putMeas_flashOrigin (i : Fin 4) (m : PulseMeas) : (putMeas i m s).flashOrigin = s.flashOrigin := rfl
@[simp] theorem putMeas_bulb (i : Fin 4) (m : PulseMeas) : (putMeas i m s).bulb = s.bulb := rfl
@[simp] theorem putMeas_chime (i : Fin 4) (m : PulseMeas) : (putMeas i m s).chime = s.chime := rfl
@[simp] theorem putMeas_inputs (i : Fin 4) (m : PulseMeas) : (putMeas i m s).inputs = s.inputs := rfl
@[simp] theorem putMeas_outputs (i : Fin 4) (m : PulseMeas) : (putMeas i m s).outputs = s.outputs := rfl
@[simp] theorem putMeas_lamps (i : Fin 4) (m : PulseMeas) : (putMeas i m s).lamps = s.lamps := rfl
@[simp] theorem putMeas_direct (i : Fin 4) (m : PulseMeas) : (putMeas i m s).direct = s.direct := rfl
@[simp] theorem putMeas_doors (i : Fin 4) (m : PulseMeas) : (putMeas i m s).doors = s.doors := rfl
@[simp] theorem putMeas_stopLatch (i : Fin 4) (m : PulseMeas) : (putMeas i m s).stopLatch = s.stopLatch := rfl
@[simp] theorem putMeas_drivePermit (i : Fin 4) (m : PulseMeas) : (putMeas i m s).drivePermit = s.drivePermit := rfl
@[simp] theorem putMeas_stopBrake (i : Fin 4) (m : PulseMeas) : (putMeas i m s).stopBrake = s.stopBrake := rfl
@[simp] theorem putMeas_faults (i : Fin 4) (m : PulseMeas) : (putMeas i m s).faults = s.faults := rfl
@[simp] theorem putMeas_service (i : Fin 4) (m : PulseMeas) : (putMeas i m s).service = s.service := rfl
@[simp] theorem putMeas_capture (i : Fin 4) (m : PulseMeas) : (putMeas i m s).capture = s.capture := rfl
@[simp] theorem putMeas_link (i : Fin 4) (m : PulseMeas) : (putMeas i m s).link = s.link := rfl
@[simp] theorem putMeas_system (i : Fin 4) (m : PulseMeas) : (putMeas i m s).system = s.system := rfl
@[simp] theorem putMeas_flags (i : Fin 4) (m : PulseMeas) : (putMeas i m s).flags = s.flags := rfl
@[simp] theorem putMeas_attn (i : Fin 4) (m : PulseMeas) : (putMeas i m s).attn = s.attn := rfl

/-! ### putMismatch -/

@[simp] theorem putMismatch_now (t : Option Nat) : (putMismatch t s).now = s.now := rfl
@[simp] theorem putMismatch_base (t : Option Nat) : (putMismatch t s).base = s.base := rfl
@[simp] theorem putMismatch_pending (t : Option Nat) : (putMismatch t s).pending = s.pending := rfl
@[simp] theorem putMismatch_stage (t : Option Nat) : (putMismatch t s).stage = s.stage := rfl
@[simp] theorem putMismatch_resetLow (t : Option Nat) : (putMismatch t s).resetLow = s.resetLow := rfl
@[simp] theorem putMismatch_mode (t : Option Nat) : (putMismatch t s).mode = s.mode := rfl
@[simp] theorem putMismatch_power (t : Option Nat) : (putMismatch t s).power = s.power := rfl
@[simp] theorem putMismatch_label (t : Option Nat) : (putMismatch t s).label = s.label := rfl
@[simp] theorem putMismatch_ignition (t : Option Nat) : (putMismatch t s).ignition = s.ignition := rfl
@[simp] theorem putMismatch_cycles (t : Option Nat) : (putMismatch t s).cycles = s.cycles := rfl
@[simp] theorem putMismatch_runOn (t : Option Nat) : (putMismatch t s).runOn = s.runOn := rfl
@[simp] theorem putMismatch_ports (t : Option Nat) : (putMismatch t s).ports = s.ports := rfl
@[simp] theorem putMismatch_matchTable (t : Option Nat) : (putMismatch t s).matchTable = s.matchTable := rfl
@[simp] theorem putMismatch_descs (t : Option Nat) : (putMismatch t s).descs = s.descs := rfl
@[simp] theorem putMismatch_slots (t : Option Nat) : (putMismatch t s).slots = s.slots := rfl
@[simp] theorem putMismatch_panelDeadlines (t : Option Nat) :
    (putMismatch t s).panelDeadlines = s.panelDeadlines := rfl
@[simp] theorem putMismatch_pulses (t : Option Nat) : (putMismatch t s).pulses = s.pulses := rfl
@[simp] theorem putMismatch_speed (t : Option Nat) : (putMismatch t s).speed = { s.speed with mismatch := t } := rfl
@[simp] theorem putMismatch_gauges (t : Option Nat) : (putMismatch t s).gauges = s.gauges := rfl
@[simp] theorem putMismatch_conds (t : Option Nat) : (putMismatch t s).conds = s.conds := rfl
@[simp] theorem putMismatch_telltales (t : Option Nat) : (putMismatch t s).telltales = s.telltales := rfl
@[simp] theorem putMismatch_flashOrigin (t : Option Nat) : (putMismatch t s).flashOrigin = s.flashOrigin := rfl
@[simp] theorem putMismatch_bulb (t : Option Nat) : (putMismatch t s).bulb = s.bulb := rfl
@[simp] theorem putMismatch_chime (t : Option Nat) : (putMismatch t s).chime = s.chime := rfl
@[simp] theorem putMismatch_inputs (t : Option Nat) : (putMismatch t s).inputs = s.inputs := rfl
@[simp] theorem putMismatch_outputs (t : Option Nat) : (putMismatch t s).outputs = s.outputs := rfl
@[simp] theorem putMismatch_lamps (t : Option Nat) : (putMismatch t s).lamps = s.lamps := rfl
@[simp] theorem putMismatch_direct (t : Option Nat) : (putMismatch t s).direct = s.direct := rfl
@[simp] theorem putMismatch_doors (t : Option Nat) : (putMismatch t s).doors = s.doors := rfl
@[simp] theorem putMismatch_stopLatch (t : Option Nat) : (putMismatch t s).stopLatch = s.stopLatch := rfl
@[simp] theorem putMismatch_drivePermit (t : Option Nat) : (putMismatch t s).drivePermit = s.drivePermit := rfl
@[simp] theorem putMismatch_stopBrake (t : Option Nat) : (putMismatch t s).stopBrake = s.stopBrake := rfl
@[simp] theorem putMismatch_faults (t : Option Nat) : (putMismatch t s).faults = s.faults := rfl
@[simp] theorem putMismatch_service (t : Option Nat) : (putMismatch t s).service = s.service := rfl
@[simp] theorem putMismatch_capture (t : Option Nat) : (putMismatch t s).capture = s.capture := rfl
@[simp] theorem putMismatch_link (t : Option Nat) : (putMismatch t s).link = s.link := rfl
@[simp] theorem putMismatch_system (t : Option Nat) : (putMismatch t s).system = s.system := rfl
@[simp] theorem putMismatch_flags (t : Option Nat) : (putMismatch t s).flags = s.flags := rfl
@[simp] theorem putMismatch_attn (t : Option Nat) : (putMismatch t s).attn = s.attn := rfl

/-! ### clearResidues -/

@[simp] theorem clearResidues_now : (clearResidues s).now = s.now := rfl
@[simp] theorem clearResidues_base : (clearResidues s).base = s.base := rfl
@[simp] theorem clearResidues_pending : (clearResidues s).pending = s.pending := rfl
@[simp] theorem clearResidues_stage : (clearResidues s).stage = s.stage := rfl
@[simp] theorem clearResidues_resetLow : (clearResidues s).resetLow = s.resetLow := rfl
@[simp] theorem clearResidues_mode : (clearResidues s).mode = s.mode := rfl
@[simp] theorem clearResidues_power : (clearResidues s).power = s.power := rfl
@[simp] theorem clearResidues_label : (clearResidues s).label = s.label := rfl
@[simp] theorem clearResidues_ignition : (clearResidues s).ignition = s.ignition := rfl
@[simp] theorem clearResidues_cycles : (clearResidues s).cycles = s.cycles := rfl
@[simp] theorem clearResidues_runOn : (clearResidues s).runOn = s.runOn := rfl
@[simp] theorem clearResidues_ports : (clearResidues s).ports = s.ports := rfl
@[simp] theorem clearResidues_matchTable : (clearResidues s).matchTable = s.matchTable := rfl
@[simp] theorem clearResidues_descs : (clearResidues s).descs = s.descs := rfl
@[simp] theorem clearResidues_slots : (clearResidues s).slots = s.slots := rfl
@[simp] theorem clearResidues_panelDeadlines : (clearResidues s).panelDeadlines = s.panelDeadlines := rfl
@[simp] theorem clearResidues_pulses : (clearResidues s).pulses = s.pulses := rfl
@[simp] theorem clearResidues_speed :
    (clearResidues s).speed = { s.speed with pulseResidue := 0, speedResidue := 0 } := rfl
@[simp] theorem clearResidues_gauges : (clearResidues s).gauges = s.gauges := rfl
@[simp] theorem clearResidues_conds : (clearResidues s).conds = s.conds := rfl
@[simp] theorem clearResidues_telltales : (clearResidues s).telltales = s.telltales := rfl
@[simp] theorem clearResidues_flashOrigin : (clearResidues s).flashOrigin = s.flashOrigin := rfl
@[simp] theorem clearResidues_bulb : (clearResidues s).bulb = s.bulb := rfl
@[simp] theorem clearResidues_chime : (clearResidues s).chime = s.chime := rfl
@[simp] theorem clearResidues_inputs : (clearResidues s).inputs = s.inputs := rfl
@[simp] theorem clearResidues_outputs : (clearResidues s).outputs = s.outputs := rfl
@[simp] theorem clearResidues_lamps : (clearResidues s).lamps = s.lamps := rfl
@[simp] theorem clearResidues_direct : (clearResidues s).direct = s.direct := rfl
@[simp] theorem clearResidues_doors : (clearResidues s).doors = s.doors := rfl
@[simp] theorem clearResidues_stopLatch : (clearResidues s).stopLatch = s.stopLatch := rfl
@[simp] theorem clearResidues_drivePermit : (clearResidues s).drivePermit = s.drivePermit := rfl
@[simp] theorem clearResidues_stopBrake : (clearResidues s).stopBrake = s.stopBrake := rfl
@[simp] theorem clearResidues_faults : (clearResidues s).faults = s.faults := rfl
@[simp] theorem clearResidues_service : (clearResidues s).service = s.service := rfl
@[simp] theorem clearResidues_capture : (clearResidues s).capture = s.capture := rfl
@[simp] theorem clearResidues_link : (clearResidues s).link = s.link := rfl
@[simp] theorem clearResidues_system : (clearResidues s).system = s.system := rfl
@[simp] theorem clearResidues_flags : (clearResidues s).flags = s.flags := rfl
@[simp] theorem clearResidues_attn : (clearResidues s).attn = s.attn := rfl

/-! ### putDoor -/

@[simp] theorem putDoor_now (d : Fin 4) (u : DoorUnit) : (putDoor d u s).now = s.now := rfl
@[simp] theorem putDoor_base (d : Fin 4) (u : DoorUnit) : (putDoor d u s).base = s.base := rfl
@[simp] theorem putDoor_pending (d : Fin 4) (u : DoorUnit) : (putDoor d u s).pending = s.pending := rfl
@[simp] theorem putDoor_stage (d : Fin 4) (u : DoorUnit) : (putDoor d u s).stage = s.stage := rfl
@[simp] theorem putDoor_resetLow (d : Fin 4) (u : DoorUnit) : (putDoor d u s).resetLow = s.resetLow := rfl
@[simp] theorem putDoor_mode (d : Fin 4) (u : DoorUnit) : (putDoor d u s).mode = s.mode := rfl
@[simp] theorem putDoor_power (d : Fin 4) (u : DoorUnit) : (putDoor d u s).power = s.power := rfl
@[simp] theorem putDoor_label (d : Fin 4) (u : DoorUnit) : (putDoor d u s).label = s.label := rfl
@[simp] theorem putDoor_ignition (d : Fin 4) (u : DoorUnit) : (putDoor d u s).ignition = s.ignition := rfl
@[simp] theorem putDoor_cycles (d : Fin 4) (u : DoorUnit) : (putDoor d u s).cycles = s.cycles := rfl
@[simp] theorem putDoor_runOn (d : Fin 4) (u : DoorUnit) : (putDoor d u s).runOn = s.runOn := rfl
@[simp] theorem putDoor_ports (d : Fin 4) (u : DoorUnit) : (putDoor d u s).ports = s.ports := rfl
@[simp] theorem putDoor_matchTable (d : Fin 4) (u : DoorUnit) : (putDoor d u s).matchTable = s.matchTable := rfl
@[simp] theorem putDoor_descs (d : Fin 4) (u : DoorUnit) : (putDoor d u s).descs = s.descs := rfl
@[simp] theorem putDoor_slots (d : Fin 4) (u : DoorUnit) : (putDoor d u s).slots = s.slots := rfl
@[simp] theorem putDoor_panelDeadlines (d : Fin 4) (u : DoorUnit) :
    (putDoor d u s).panelDeadlines = s.panelDeadlines := rfl
@[simp] theorem putDoor_pulses (d : Fin 4) (u : DoorUnit) : (putDoor d u s).pulses = s.pulses := rfl
@[simp] theorem putDoor_speed (d : Fin 4) (u : DoorUnit) : (putDoor d u s).speed = s.speed := rfl
@[simp] theorem putDoor_gauges (d : Fin 4) (u : DoorUnit) : (putDoor d u s).gauges = s.gauges := rfl
@[simp] theorem putDoor_conds (d : Fin 4) (u : DoorUnit) : (putDoor d u s).conds = s.conds := rfl
@[simp] theorem putDoor_telltales (d : Fin 4) (u : DoorUnit) : (putDoor d u s).telltales = s.telltales := rfl
@[simp] theorem putDoor_flashOrigin (d : Fin 4) (u : DoorUnit) : (putDoor d u s).flashOrigin = s.flashOrigin := rfl
@[simp] theorem putDoor_bulb (d : Fin 4) (u : DoorUnit) : (putDoor d u s).bulb = s.bulb := rfl
@[simp] theorem putDoor_chime (d : Fin 4) (u : DoorUnit) : (putDoor d u s).chime = s.chime := rfl
@[simp] theorem putDoor_inputs (d : Fin 4) (u : DoorUnit) : (putDoor d u s).inputs = s.inputs := rfl
@[simp] theorem putDoor_outputs (d : Fin 4) (u : DoorUnit) : (putDoor d u s).outputs = s.outputs := rfl
@[simp] theorem putDoor_lamps (d : Fin 4) (u : DoorUnit) : (putDoor d u s).lamps = s.lamps := rfl
@[simp] theorem putDoor_direct (d : Fin 4) (u : DoorUnit) : (putDoor d u s).direct = s.direct := rfl
@[simp] theorem putDoor_doors (d : Fin 4) (u : DoorUnit) : (putDoor d u s).doors = vput s.doors d u := rfl
@[simp] theorem putDoor_stopLatch (d : Fin 4) (u : DoorUnit) : (putDoor d u s).stopLatch = s.stopLatch := rfl
@[simp] theorem putDoor_drivePermit (d : Fin 4) (u : DoorUnit) : (putDoor d u s).drivePermit = s.drivePermit := rfl
@[simp] theorem putDoor_stopBrake (d : Fin 4) (u : DoorUnit) : (putDoor d u s).stopBrake = s.stopBrake := rfl
@[simp] theorem putDoor_faults (d : Fin 4) (u : DoorUnit) : (putDoor d u s).faults = s.faults := rfl
@[simp] theorem putDoor_service (d : Fin 4) (u : DoorUnit) : (putDoor d u s).service = s.service := rfl
@[simp] theorem putDoor_capture (d : Fin 4) (u : DoorUnit) : (putDoor d u s).capture = s.capture := rfl
@[simp] theorem putDoor_link (d : Fin 4) (u : DoorUnit) : (putDoor d u s).link = s.link := rfl
@[simp] theorem putDoor_system (d : Fin 4) (u : DoorUnit) : (putDoor d u s).system = s.system := rfl
@[simp] theorem putDoor_flags (d : Fin 4) (u : DoorUnit) : (putDoor d u s).flags = s.flags := rfl
@[simp] theorem putDoor_attn (d : Fin 4) (u : DoorUnit) : (putDoor d u s).attn = s.attn := rfl

/-! ### startRunOn -/

@[simp] theorem startRunOn_now : (startRunOn s).now = s.now := rfl
@[simp] theorem startRunOn_base : (startRunOn s).base = s.base := rfl
@[simp] theorem startRunOn_pending : (startRunOn s).pending = s.pending := rfl
@[simp] theorem startRunOn_stage : (startRunOn s).stage = s.stage := rfl
@[simp] theorem startRunOn_resetLow : (startRunOn s).resetLow = s.resetLow := rfl
@[simp] theorem startRunOn_mode : (startRunOn s).mode = s.mode := rfl
@[simp] theorem startRunOn_power : (startRunOn s).power = s.power := rfl
@[simp] theorem startRunOn_label : (startRunOn s).label = s.label := rfl
@[simp] theorem startRunOn_ignition : (startRunOn s).ignition = s.ignition := rfl
@[simp] theorem startRunOn_cycles : (startRunOn s).cycles = s.cycles := rfl
@[simp] theorem startRunOn_runOn : (startRunOn s).runOn = some (s.after (1000 * s.system.runOnTime)) := rfl
@[simp] theorem startRunOn_ports : (startRunOn s).ports = s.ports := rfl
@[simp] theorem startRunOn_matchTable : (startRunOn s).matchTable = s.matchTable := rfl
@[simp] theorem startRunOn_descs : (startRunOn s).descs = s.descs := rfl
@[simp] theorem startRunOn_slots : (startRunOn s).slots = s.slots := rfl
@[simp] theorem startRunOn_panelDeadlines : (startRunOn s).panelDeadlines = s.panelDeadlines := rfl
@[simp] theorem startRunOn_pulses : (startRunOn s).pulses = s.pulses := rfl
@[simp] theorem startRunOn_speed : (startRunOn s).speed = s.speed := rfl
@[simp] theorem startRunOn_gauges : (startRunOn s).gauges = s.gauges := rfl
@[simp] theorem startRunOn_conds : (startRunOn s).conds = s.conds := rfl
@[simp] theorem startRunOn_telltales : (startRunOn s).telltales = s.telltales := rfl
@[simp] theorem startRunOn_flashOrigin : (startRunOn s).flashOrigin = s.flashOrigin := rfl
@[simp] theorem startRunOn_bulb : (startRunOn s).bulb = s.bulb := rfl
@[simp] theorem startRunOn_chime : (startRunOn s).chime = s.chime := rfl
@[simp] theorem startRunOn_inputs : (startRunOn s).inputs = s.inputs := rfl
@[simp] theorem startRunOn_outputs : (startRunOn s).outputs = s.outputs := rfl
@[simp] theorem startRunOn_lamps : (startRunOn s).lamps = s.lamps := rfl
@[simp] theorem startRunOn_direct : (startRunOn s).direct = s.direct := rfl
@[simp] theorem startRunOn_doors : (startRunOn s).doors = s.doors := rfl
@[simp] theorem startRunOn_stopLatch : (startRunOn s).stopLatch = s.stopLatch := rfl
@[simp] theorem startRunOn_drivePermit : (startRunOn s).drivePermit = s.drivePermit := rfl
@[simp] theorem startRunOn_stopBrake : (startRunOn s).stopBrake = s.stopBrake := rfl
@[simp] theorem startRunOn_faults : (startRunOn s).faults = s.faults := rfl
@[simp] theorem startRunOn_service : (startRunOn s).service = s.service := rfl
@[simp] theorem startRunOn_capture : (startRunOn s).capture = s.capture := rfl
@[simp] theorem startRunOn_link : (startRunOn s).link = s.link := rfl
@[simp] theorem startRunOn_system : (startRunOn s).system = s.system := rfl
@[simp] theorem startRunOn_flags : (startRunOn s).flags = s.flags := rfl
@[simp] theorem startRunOn_attn : (startRunOn s).attn = s.attn := rfl

/-! ### putLamp -/

@[simp] theorem putLamp_now (k : Fin 8) (u : LampUnit) : (putLamp k u s).now = s.now := rfl
@[simp] theorem putLamp_base (k : Fin 8) (u : LampUnit) : (putLamp k u s).base = s.base := rfl
@[simp] theorem putLamp_pending (k : Fin 8) (u : LampUnit) : (putLamp k u s).pending = s.pending := rfl
@[simp] theorem putLamp_stage (k : Fin 8) (u : LampUnit) : (putLamp k u s).stage = s.stage := rfl
@[simp] theorem putLamp_resetLow (k : Fin 8) (u : LampUnit) : (putLamp k u s).resetLow = s.resetLow := rfl
@[simp] theorem putLamp_mode (k : Fin 8) (u : LampUnit) : (putLamp k u s).mode = s.mode := rfl
@[simp] theorem putLamp_power (k : Fin 8) (u : LampUnit) : (putLamp k u s).power = s.power := rfl
@[simp] theorem putLamp_label (k : Fin 8) (u : LampUnit) : (putLamp k u s).label = s.label := rfl
@[simp] theorem putLamp_ignition (k : Fin 8) (u : LampUnit) : (putLamp k u s).ignition = s.ignition := rfl
@[simp] theorem putLamp_cycles (k : Fin 8) (u : LampUnit) : (putLamp k u s).cycles = s.cycles := rfl
@[simp] theorem putLamp_runOn (k : Fin 8) (u : LampUnit) : (putLamp k u s).runOn = s.runOn := rfl
@[simp] theorem putLamp_ports (k : Fin 8) (u : LampUnit) : (putLamp k u s).ports = s.ports := rfl
@[simp] theorem putLamp_matchTable (k : Fin 8) (u : LampUnit) : (putLamp k u s).matchTable = s.matchTable := rfl
@[simp] theorem putLamp_descs (k : Fin 8) (u : LampUnit) : (putLamp k u s).descs = s.descs := rfl
@[simp] theorem putLamp_slots (k : Fin 8) (u : LampUnit) : (putLamp k u s).slots = s.slots := rfl
@[simp] theorem putLamp_panelDeadlines (k : Fin 8) (u : LampUnit) :
    (putLamp k u s).panelDeadlines = s.panelDeadlines := rfl
@[simp] theorem putLamp_pulses (k : Fin 8) (u : LampUnit) : (putLamp k u s).pulses = s.pulses := rfl
@[simp] theorem putLamp_speed (k : Fin 8) (u : LampUnit) : (putLamp k u s).speed = s.speed := rfl
@[simp] theorem putLamp_gauges (k : Fin 8) (u : LampUnit) : (putLamp k u s).gauges = s.gauges := rfl
@[simp] theorem putLamp_conds (k : Fin 8) (u : LampUnit) : (putLamp k u s).conds = s.conds := rfl
@[simp] theorem putLamp_telltales (k : Fin 8) (u : LampUnit) : (putLamp k u s).telltales = s.telltales := rfl
@[simp] theorem putLamp_flashOrigin (k : Fin 8) (u : LampUnit) : (putLamp k u s).flashOrigin = s.flashOrigin := rfl
@[simp] theorem putLamp_bulb (k : Fin 8) (u : LampUnit) : (putLamp k u s).bulb = s.bulb := rfl
@[simp] theorem putLamp_chime (k : Fin 8) (u : LampUnit) : (putLamp k u s).chime = s.chime := rfl
@[simp] theorem putLamp_inputs (k : Fin 8) (u : LampUnit) : (putLamp k u s).inputs = s.inputs := rfl
@[simp] theorem putLamp_outputs (k : Fin 8) (u : LampUnit) : (putLamp k u s).outputs = s.outputs := rfl
@[simp] theorem putLamp_lamps (k : Fin 8) (u : LampUnit) : (putLamp k u s).lamps = vput s.lamps k u := rfl
@[simp] theorem putLamp_direct (k : Fin 8) (u : LampUnit) : (putLamp k u s).direct = s.direct := rfl
@[simp] theorem putLamp_doors (k : Fin 8) (u : LampUnit) : (putLamp k u s).doors = s.doors := rfl
@[simp] theorem putLamp_stopLatch (k : Fin 8) (u : LampUnit) : (putLamp k u s).stopLatch = s.stopLatch := rfl
@[simp] theorem putLamp_drivePermit (k : Fin 8) (u : LampUnit) : (putLamp k u s).drivePermit = s.drivePermit := rfl
@[simp] theorem putLamp_stopBrake (k : Fin 8) (u : LampUnit) : (putLamp k u s).stopBrake = s.stopBrake := rfl
@[simp] theorem putLamp_faults (k : Fin 8) (u : LampUnit) : (putLamp k u s).faults = s.faults := rfl
@[simp] theorem putLamp_service (k : Fin 8) (u : LampUnit) : (putLamp k u s).service = s.service := rfl
@[simp] theorem putLamp_capture (k : Fin 8) (u : LampUnit) : (putLamp k u s).capture = s.capture := rfl
@[simp] theorem putLamp_link (k : Fin 8) (u : LampUnit) : (putLamp k u s).link = s.link := rfl
@[simp] theorem putLamp_system (k : Fin 8) (u : LampUnit) : (putLamp k u s).system = s.system := rfl
@[simp] theorem putLamp_flags (k : Fin 8) (u : LampUnit) : (putLamp k u s).flags = s.flags := rfl
@[simp] theorem putLamp_attn (k : Fin 8) (u : LampUnit) : (putLamp k u s).attn = s.attn := rfl

/-! ### putInput -/

@[simp] theorem putInput_now (l : Fin 24) (u : InputUnit) : (putInput l u s).now = s.now := rfl
@[simp] theorem putInput_base (l : Fin 24) (u : InputUnit) : (putInput l u s).base = s.base := rfl
@[simp] theorem putInput_pending (l : Fin 24) (u : InputUnit) : (putInput l u s).pending = s.pending := rfl
@[simp] theorem putInput_stage (l : Fin 24) (u : InputUnit) : (putInput l u s).stage = s.stage := rfl
@[simp] theorem putInput_resetLow (l : Fin 24) (u : InputUnit) : (putInput l u s).resetLow = s.resetLow := rfl
@[simp] theorem putInput_mode (l : Fin 24) (u : InputUnit) : (putInput l u s).mode = s.mode := rfl
@[simp] theorem putInput_power (l : Fin 24) (u : InputUnit) : (putInput l u s).power = s.power := rfl
@[simp] theorem putInput_label (l : Fin 24) (u : InputUnit) : (putInput l u s).label = s.label := rfl
@[simp] theorem putInput_ignition (l : Fin 24) (u : InputUnit) : (putInput l u s).ignition = s.ignition := rfl
@[simp] theorem putInput_cycles (l : Fin 24) (u : InputUnit) : (putInput l u s).cycles = s.cycles := rfl
@[simp] theorem putInput_runOn (l : Fin 24) (u : InputUnit) : (putInput l u s).runOn = s.runOn := rfl
@[simp] theorem putInput_ports (l : Fin 24) (u : InputUnit) : (putInput l u s).ports = s.ports := rfl
@[simp] theorem putInput_matchTable (l : Fin 24) (u : InputUnit) : (putInput l u s).matchTable = s.matchTable := rfl
@[simp] theorem putInput_descs (l : Fin 24) (u : InputUnit) : (putInput l u s).descs = s.descs := rfl
@[simp] theorem putInput_slots (l : Fin 24) (u : InputUnit) : (putInput l u s).slots = s.slots := rfl
@[simp] theorem putInput_panelDeadlines (l : Fin 24) (u : InputUnit) :
    (putInput l u s).panelDeadlines = s.panelDeadlines := rfl
@[simp] theorem putInput_pulses (l : Fin 24) (u : InputUnit) : (putInput l u s).pulses = s.pulses := rfl
@[simp] theorem putInput_speed (l : Fin 24) (u : InputUnit) : (putInput l u s).speed = s.speed := rfl
@[simp] theorem putInput_gauges (l : Fin 24) (u : InputUnit) : (putInput l u s).gauges = s.gauges := rfl
@[simp] theorem putInput_conds (l : Fin 24) (u : InputUnit) : (putInput l u s).conds = s.conds := rfl
@[simp] theorem putInput_telltales (l : Fin 24) (u : InputUnit) : (putInput l u s).telltales = s.telltales := rfl
@[simp] theorem putInput_flashOrigin (l : Fin 24) (u : InputUnit) :
    (putInput l u s).flashOrigin = s.flashOrigin := rfl
@[simp] theorem putInput_bulb (l : Fin 24) (u : InputUnit) : (putInput l u s).bulb = s.bulb := rfl
@[simp] theorem putInput_chime (l : Fin 24) (u : InputUnit) : (putInput l u s).chime = s.chime := rfl
@[simp] theorem putInput_inputs (l : Fin 24) (u : InputUnit) : (putInput l u s).inputs = vput s.inputs l u := rfl
@[simp] theorem putInput_outputs (l : Fin 24) (u : InputUnit) : (putInput l u s).outputs = s.outputs := rfl
@[simp] theorem putInput_lamps (l : Fin 24) (u : InputUnit) : (putInput l u s).lamps = s.lamps := rfl
@[simp] theorem putInput_direct (l : Fin 24) (u : InputUnit) : (putInput l u s).direct = s.direct := rfl
@[simp] theorem putInput_doors (l : Fin 24) (u : InputUnit) : (putInput l u s).doors = s.doors := rfl
@[simp] theorem putInput_stopLatch (l : Fin 24) (u : InputUnit) : (putInput l u s).stopLatch = s.stopLatch := rfl
@[simp] theorem putInput_drivePermit (l : Fin 24) (u : InputUnit) :
    (putInput l u s).drivePermit = s.drivePermit := rfl
@[simp] theorem putInput_stopBrake (l : Fin 24) (u : InputUnit) : (putInput l u s).stopBrake = s.stopBrake := rfl
@[simp] theorem putInput_faults (l : Fin 24) (u : InputUnit) : (putInput l u s).faults = s.faults := rfl
@[simp] theorem putInput_service (l : Fin 24) (u : InputUnit) : (putInput l u s).service = s.service := rfl
@[simp] theorem putInput_capture (l : Fin 24) (u : InputUnit) : (putInput l u s).capture = s.capture := rfl
@[simp] theorem putInput_link (l : Fin 24) (u : InputUnit) : (putInput l u s).link = s.link := rfl
@[simp] theorem putInput_system (l : Fin 24) (u : InputUnit) : (putInput l u s).system = s.system := rfl
@[simp] theorem putInput_flags (l : Fin 24) (u : InputUnit) : (putInput l u s).flags = s.flags := rfl
@[simp] theorem putInput_attn (l : Fin 24) (u : InputUnit) : (putInput l u s).attn = s.attn := rfl

/-! ### putIgnition -/

@[simp] theorem putIgnition_now (i : Ignition) : (putIgnition i s).now = s.now := rfl
@[simp] theorem putIgnition_base (i : Ignition) : (putIgnition i s).base = s.base := rfl
@[simp] theorem putIgnition_pending (i : Ignition) : (putIgnition i s).pending = s.pending := rfl
@[simp] theorem putIgnition_stage (i : Ignition) : (putIgnition i s).stage = s.stage := rfl
@[simp] theorem putIgnition_resetLow (i : Ignition) : (putIgnition i s).resetLow = s.resetLow := rfl
@[simp] theorem putIgnition_mode (i : Ignition) : (putIgnition i s).mode = s.mode := rfl
@[simp] theorem putIgnition_power (i : Ignition) : (putIgnition i s).power = s.power := rfl
@[simp] theorem putIgnition_label (i : Ignition) : (putIgnition i s).label = s.label := rfl
@[simp] theorem putIgnition_ignition (i : Ignition) : (putIgnition i s).ignition = i := rfl
@[simp] theorem putIgnition_cycles (i : Ignition) : (putIgnition i s).cycles = s.cycles := rfl
@[simp] theorem putIgnition_runOn (i : Ignition) : (putIgnition i s).runOn = s.runOn := rfl
@[simp] theorem putIgnition_ports (i : Ignition) : (putIgnition i s).ports = s.ports := rfl
@[simp] theorem putIgnition_matchTable (i : Ignition) : (putIgnition i s).matchTable = s.matchTable := rfl
@[simp] theorem putIgnition_descs (i : Ignition) : (putIgnition i s).descs = s.descs := rfl
@[simp] theorem putIgnition_slots (i : Ignition) : (putIgnition i s).slots = s.slots := rfl
@[simp] theorem putIgnition_panelDeadlines (i : Ignition) : (putIgnition i s).panelDeadlines = s.panelDeadlines := rfl
@[simp] theorem putIgnition_pulses (i : Ignition) : (putIgnition i s).pulses = s.pulses := rfl
@[simp] theorem putIgnition_speed (i : Ignition) : (putIgnition i s).speed = s.speed := rfl
@[simp] theorem putIgnition_gauges (i : Ignition) : (putIgnition i s).gauges = s.gauges := rfl
@[simp] theorem putIgnition_conds (i : Ignition) : (putIgnition i s).conds = s.conds := rfl
@[simp] theorem putIgnition_telltales (i : Ignition) : (putIgnition i s).telltales = s.telltales := rfl
@[simp] theorem putIgnition_flashOrigin (i : Ignition) : (putIgnition i s).flashOrigin = s.flashOrigin := rfl
@[simp] theorem putIgnition_bulb (i : Ignition) : (putIgnition i s).bulb = s.bulb := rfl
@[simp] theorem putIgnition_chime (i : Ignition) : (putIgnition i s).chime = s.chime := rfl
@[simp] theorem putIgnition_inputs (i : Ignition) : (putIgnition i s).inputs = s.inputs := rfl
@[simp] theorem putIgnition_outputs (i : Ignition) : (putIgnition i s).outputs = s.outputs := rfl
@[simp] theorem putIgnition_lamps (i : Ignition) : (putIgnition i s).lamps = s.lamps := rfl
@[simp] theorem putIgnition_direct (i : Ignition) : (putIgnition i s).direct = s.direct := rfl
@[simp] theorem putIgnition_doors (i : Ignition) : (putIgnition i s).doors = s.doors := rfl
@[simp] theorem putIgnition_stopLatch (i : Ignition) : (putIgnition i s).stopLatch = s.stopLatch := rfl
@[simp] theorem putIgnition_drivePermit (i : Ignition) : (putIgnition i s).drivePermit = s.drivePermit := rfl
@[simp] theorem putIgnition_stopBrake (i : Ignition) : (putIgnition i s).stopBrake = s.stopBrake := rfl
@[simp] theorem putIgnition_faults (i : Ignition) : (putIgnition i s).faults = s.faults := rfl
@[simp] theorem putIgnition_service (i : Ignition) : (putIgnition i s).service = s.service := rfl
@[simp] theorem putIgnition_capture (i : Ignition) : (putIgnition i s).capture = s.capture := rfl
@[simp] theorem putIgnition_link (i : Ignition) : (putIgnition i s).link = s.link := rfl
@[simp] theorem putIgnition_system (i : Ignition) : (putIgnition i s).system = s.system := rfl
@[simp] theorem putIgnition_flags (i : Ignition) : (putIgnition i s).flags = s.flags := rfl
@[simp] theorem putIgnition_attn (i : Ignition) : (putIgnition i s).attn = s.attn := rfl

/-! ### putEgress -/

@[simp] theorem putEgress_now (q : List EgressFrame) : (putEgress q s).now = s.now := rfl
@[simp] theorem putEgress_base (q : List EgressFrame) : (putEgress q s).base = s.base := rfl
@[simp] theorem putEgress_pending (q : List EgressFrame) : (putEgress q s).pending = s.pending := rfl
@[simp] theorem putEgress_stage (q : List EgressFrame) : (putEgress q s).stage = s.stage := rfl
@[simp] theorem putEgress_resetLow (q : List EgressFrame) : (putEgress q s).resetLow = s.resetLow := rfl
@[simp] theorem putEgress_mode (q : List EgressFrame) : (putEgress q s).mode = s.mode := rfl
@[simp] theorem putEgress_power (q : List EgressFrame) : (putEgress q s).power = s.power := rfl
@[simp] theorem putEgress_label (q : List EgressFrame) : (putEgress q s).label = s.label := rfl
@[simp] theorem putEgress_ignition (q : List EgressFrame) : (putEgress q s).ignition = s.ignition := rfl
@[simp] theorem putEgress_cycles (q : List EgressFrame) : (putEgress q s).cycles = s.cycles := rfl
@[simp] theorem putEgress_runOn (q : List EgressFrame) : (putEgress q s).runOn = s.runOn := rfl
@[simp] theorem putEgress_ports (q : List EgressFrame) : (putEgress q s).ports = s.ports := rfl
@[simp] theorem putEgress_matchTable (q : List EgressFrame) : (putEgress q s).matchTable = s.matchTable := rfl
@[simp] theorem putEgress_descs (q : List EgressFrame) : (putEgress q s).descs = s.descs := rfl
@[simp] theorem putEgress_slots (q : List EgressFrame) : (putEgress q s).slots = s.slots := rfl
@[simp] theorem putEgress_panelDeadlines (q : List EgressFrame) :
    (putEgress q s).panelDeadlines = s.panelDeadlines := rfl
@[simp] theorem putEgress_pulses (q : List EgressFrame) : (putEgress q s).pulses = s.pulses := rfl
@[simp] theorem putEgress_speed (q : List EgressFrame) : (putEgress q s).speed = s.speed := rfl
@[simp] theorem putEgress_gauges (q : List EgressFrame) : (putEgress q s).gauges = s.gauges := rfl
@[simp] theorem putEgress_conds (q : List EgressFrame) : (putEgress q s).conds = s.conds := rfl
@[simp] theorem putEgress_telltales (q : List EgressFrame) : (putEgress q s).telltales = s.telltales := rfl
@[simp] theorem putEgress_flashOrigin (q : List EgressFrame) : (putEgress q s).flashOrigin = s.flashOrigin := rfl
@[simp] theorem putEgress_bulb (q : List EgressFrame) : (putEgress q s).bulb = s.bulb := rfl
@[simp] theorem putEgress_chime (q : List EgressFrame) : (putEgress q s).chime = s.chime := rfl
@[simp] theorem putEgress_inputs (q : List EgressFrame) : (putEgress q s).inputs = s.inputs := rfl
@[simp] theorem putEgress_outputs (q : List EgressFrame) : (putEgress q s).outputs = s.outputs := rfl
@[simp] theorem putEgress_lamps (q : List EgressFrame) : (putEgress q s).lamps = s.lamps := rfl
@[simp] theorem putEgress_direct (q : List EgressFrame) : (putEgress q s).direct = s.direct := rfl
@[simp] theorem putEgress_doors (q : List EgressFrame) : (putEgress q s).doors = s.doors := rfl
@[simp] theorem putEgress_stopLatch (q : List EgressFrame) : (putEgress q s).stopLatch = s.stopLatch := rfl
@[simp] theorem putEgress_drivePermit (q : List EgressFrame) : (putEgress q s).drivePermit = s.drivePermit := rfl
@[simp] theorem putEgress_stopBrake (q : List EgressFrame) : (putEgress q s).stopBrake = s.stopBrake := rfl
@[simp] theorem putEgress_faults (q : List EgressFrame) : (putEgress q s).faults = s.faults := rfl
@[simp] theorem putEgress_service (q : List EgressFrame) : (putEgress q s).service = s.service := rfl
@[simp] theorem putEgress_capture (q : List EgressFrame) : (putEgress q s).capture = s.capture := rfl
@[simp] theorem putEgress_link (q : List EgressFrame) : (putEgress q s).link = { s.link with egress := q } := rfl
@[simp] theorem putEgress_system (q : List EgressFrame) : (putEgress q s).system = s.system := rfl
@[simp] theorem putEgress_flags (q : List EgressFrame) : (putEgress q s).flags = s.flags := rfl
@[simp] theorem putEgress_attn (q : List EgressFrame) : (putEgress q s).attn = s.attn := rfl

/-! ### awaitStart -/

@[simp] theorem awaitStart_now : (awaitStart s).now = s.now := rfl
@[simp] theorem awaitStart_base : (awaitStart s).base = s.base := rfl
@[simp] theorem awaitStart_pending : (awaitStart s).pending = s.pending := rfl
@[simp] theorem awaitStart_stage : (awaitStart s).stage = s.stage := rfl
@[simp] theorem awaitStart_resetLow : (awaitStart s).resetLow = s.resetLow := rfl
@[simp] theorem awaitStart_mode : (awaitStart s).mode = s.mode := rfl
@[simp] theorem awaitStart_power : (awaitStart s).power = s.power := rfl
@[simp] theorem awaitStart_label : (awaitStart s).label = s.label := rfl
@[simp] theorem awaitStart_ignition : (awaitStart s).ignition = s.ignition := rfl
@[simp] theorem awaitStart_cycles : (awaitStart s).cycles = s.cycles := rfl
@[simp] theorem awaitStart_runOn : (awaitStart s).runOn = s.runOn := rfl
@[simp] theorem awaitStart_ports : (awaitStart s).ports = s.ports := rfl
@[simp] theorem awaitStart_matchTable : (awaitStart s).matchTable = s.matchTable := rfl
@[simp] theorem awaitStart_descs : (awaitStart s).descs = s.descs := rfl
@[simp] theorem awaitStart_slots : (awaitStart s).slots = s.slots := rfl
@[simp] theorem awaitStart_panelDeadlines : (awaitStart s).panelDeadlines = s.panelDeadlines := rfl
@[simp] theorem awaitStart_pulses : (awaitStart s).pulses = s.pulses := rfl
@[simp] theorem awaitStart_speed : (awaitStart s).speed = s.speed := rfl
@[simp] theorem awaitStart_gauges : (awaitStart s).gauges = s.gauges := rfl
@[simp] theorem awaitStart_conds : (awaitStart s).conds = s.conds := rfl
@[simp] theorem awaitStart_telltales : (awaitStart s).telltales = s.telltales := rfl
@[simp] theorem awaitStart_flashOrigin : (awaitStart s).flashOrigin = s.flashOrigin := rfl
@[simp] theorem awaitStart_bulb : (awaitStart s).bulb = s.bulb := rfl
@[simp] theorem awaitStart_chime : (awaitStart s).chime = s.chime := rfl
@[simp] theorem awaitStart_inputs : (awaitStart s).inputs = s.inputs := rfl
@[simp] theorem awaitStart_outputs : (awaitStart s).outputs = s.outputs := rfl
@[simp] theorem awaitStart_lamps : (awaitStart s).lamps = s.lamps := rfl
@[simp] theorem awaitStart_direct : (awaitStart s).direct = s.direct := rfl
@[simp] theorem awaitStart_doors : (awaitStart s).doors = s.doors := rfl
@[simp] theorem awaitStart_stopLatch : (awaitStart s).stopLatch = s.stopLatch := rfl
@[simp] theorem awaitStart_drivePermit : (awaitStart s).drivePermit = s.drivePermit := rfl
@[simp] theorem awaitStart_stopBrake : (awaitStart s).stopBrake = s.stopBrake := rfl
@[simp] theorem awaitStart_faults : (awaitStart s).faults = s.faults := rfl
@[simp] theorem awaitStart_service : (awaitStart s).service = s.service := rfl
@[simp] theorem awaitStart_capture : (awaitStart s).capture = s.capture := rfl
@[simp] theorem awaitStart_link : (awaitStart s).link = { s.link with receiver := .waiting } := rfl
@[simp] theorem awaitStart_system : (awaitStart s).system = s.system := rfl
@[simp] theorem awaitStart_flags : (awaitStart s).flags = s.flags := rfl
@[simp] theorem awaitStart_attn : (awaitStart s).attn = s.attn := rfl

/-! ### receiveError -/

@[simp] theorem receiveError_now : (receiveError s).now = s.now := rfl
@[simp] theorem receiveError_base : (receiveError s).base = s.base := rfl
@[simp] theorem receiveError_pending : (receiveError s).pending = s.pending := rfl
@[simp] theorem receiveError_stage : (receiveError s).stage = s.stage := rfl
@[simp] theorem receiveError_resetLow : (receiveError s).resetLow = s.resetLow := rfl
@[simp] theorem receiveError_mode : (receiveError s).mode = s.mode := rfl
@[simp] theorem receiveError_power : (receiveError s).power = s.power := rfl
@[simp] theorem receiveError_label : (receiveError s).label = s.label := rfl
@[simp] theorem receiveError_ignition : (receiveError s).ignition = s.ignition := rfl
@[simp] theorem receiveError_cycles : (receiveError s).cycles = s.cycles := rfl
@[simp] theorem receiveError_runOn : (receiveError s).runOn = s.runOn := rfl
@[simp] theorem receiveError_ports : (receiveError s).ports = s.ports := rfl
@[simp] theorem receiveError_matchTable : (receiveError s).matchTable = s.matchTable := rfl
@[simp] theorem receiveError_descs : (receiveError s).descs = s.descs := rfl
@[simp] theorem receiveError_slots : (receiveError s).slots = s.slots := rfl
@[simp] theorem receiveError_panelDeadlines : (receiveError s).panelDeadlines = s.panelDeadlines := rfl
@[simp] theorem receiveError_pulses : (receiveError s).pulses = s.pulses := rfl
@[simp] theorem receiveError_speed : (receiveError s).speed = s.speed := rfl
@[simp] theorem receiveError_gauges : (receiveError s).gauges = s.gauges := rfl
@[simp] theorem receiveError_conds : (receiveError s).conds = s.conds := rfl
@[simp] theorem receiveError_telltales : (receiveError s).telltales = s.telltales := rfl
@[simp] theorem receiveError_flashOrigin : (receiveError s).flashOrigin = s.flashOrigin := rfl
@[simp] theorem receiveError_bulb : (receiveError s).bulb = s.bulb := rfl
@[simp] theorem receiveError_chime : (receiveError s).chime = s.chime := rfl
@[simp] theorem receiveError_inputs : (receiveError s).inputs = s.inputs := rfl
@[simp] theorem receiveError_outputs : (receiveError s).outputs = s.outputs := rfl
@[simp] theorem receiveError_lamps : (receiveError s).lamps = s.lamps := rfl
@[simp] theorem receiveError_direct : (receiveError s).direct = s.direct := rfl
@[simp] theorem receiveError_doors : (receiveError s).doors = s.doors := rfl
@[simp] theorem receiveError_stopLatch : (receiveError s).stopLatch = s.stopLatch := rfl
@[simp] theorem receiveError_drivePermit : (receiveError s).drivePermit = s.drivePermit := rfl
@[simp] theorem receiveError_stopBrake : (receiveError s).stopBrake = s.stopBrake := rfl
@[simp] theorem receiveError_faults : (receiveError s).faults = s.faults := rfl
@[simp] theorem receiveError_service : (receiveError s).service = s.service := rfl
@[simp] theorem receiveError_capture : (receiveError s).capture = s.capture := rfl
@[simp] theorem receiveError_link :
    (receiveError s).link = { s.link with receiveErrors := bump32 s.link.receiveErrors } := rfl
@[simp] theorem receiveError_system : (receiveError s).system = s.system := rfl
@[simp] theorem receiveError_flags : (receiveError s).flags = s.flags := rfl
@[simp] theorem receiveError_attn : (receiveError s).attn = s.attn := rfl

/-! ### putRecord -/

@[simp] theorem putRecord_now (p : Fin 40) (r : Option FaultRecord) : (putRecord p r s).now = s.now := rfl
@[simp] theorem putRecord_base (p : Fin 40) (r : Option FaultRecord) : (putRecord p r s).base = s.base := rfl
@[simp] theorem putRecord_pending (p : Fin 40) (r : Option FaultRecord) : (putRecord p r s).pending = s.pending := rfl
@[simp] theorem putRecord_stage (p : Fin 40) (r : Option FaultRecord) : (putRecord p r s).stage = s.stage := rfl
@[simp] theorem putRecord_resetLow (p : Fin 40) (r : Option FaultRecord) :
    (putRecord p r s).resetLow = s.resetLow := rfl
@[simp] theorem putRecord_mode (p : Fin 40) (r : Option FaultRecord) : (putRecord p r s).mode = s.mode := rfl
@[simp] theorem putRecord_power (p : Fin 40) (r : Option FaultRecord) : (putRecord p r s).power = s.power := rfl
@[simp] theorem putRecord_label (p : Fin 40) (r : Option FaultRecord) : (putRecord p r s).label = s.label := rfl
@[simp] theorem putRecord_ignition (p : Fin 40) (r : Option FaultRecord) :
    (putRecord p r s).ignition = s.ignition := rfl
@[simp] theorem putRecord_cycles (p : Fin 40) (r : Option FaultRecord) : (putRecord p r s).cycles = s.cycles := rfl
@[simp] theorem putRecord_runOn (p : Fin 40) (r : Option FaultRecord) : (putRecord p r s).runOn = s.runOn := rfl
@[simp] theorem putRecord_ports (p : Fin 40) (r : Option FaultRecord) : (putRecord p r s).ports = s.ports := rfl
@[simp] theorem putRecord_matchTable (p : Fin 40) (r : Option FaultRecord) :
    (putRecord p r s).matchTable = s.matchTable := rfl
@[simp] theorem putRecord_descs (p : Fin 40) (r : Option FaultRecord) : (putRecord p r s).descs = s.descs := rfl
@[simp] theorem putRecord_slots (p : Fin 40) (r : Option FaultRecord) : (putRecord p r s).slots = s.slots := rfl
@[simp] theorem putRecord_panelDeadlines (p : Fin 40) (r : Option FaultRecord) :
    (putRecord p r s).panelDeadlines = s.panelDeadlines := rfl
@[simp] theorem putRecord_pulses (p : Fin 40) (r : Option FaultRecord) : (putRecord p r s).pulses = s.pulses := rfl
@[simp] theorem putRecord_speed (p : Fin 40) (r : Option FaultRecord) : (putRecord p r s).speed = s.speed := rfl
@[simp] theorem putRecord_gauges (p : Fin 40) (r : Option FaultRecord) : (putRecord p r s).gauges = s.gauges := rfl
@[simp] theorem putRecord_conds (p : Fin 40) (r : Option FaultRecord) : (putRecord p r s).conds = s.conds := rfl
@[simp] theorem putRecord_telltales (p : Fin 40) (r : Option FaultRecord) :
    (putRecord p r s).telltales = s.telltales := rfl
@[simp] theorem putRecord_flashOrigin (p : Fin 40) (r : Option FaultRecord) :
    (putRecord p r s).flashOrigin = s.flashOrigin := rfl
@[simp] theorem putRecord_bulb (p : Fin 40) (r : Option FaultRecord) : (putRecord p r s).bulb = s.bulb := rfl
@[simp] theorem putRecord_chime (p : Fin 40) (r : Option FaultRecord) : (putRecord p r s).chime = s.chime := rfl
@[simp] theorem putRecord_inputs (p : Fin 40) (r : Option FaultRecord) : (putRecord p r s).inputs = s.inputs := rfl
@[simp] theorem putRecord_outputs (p : Fin 40) (r : Option FaultRecord) : (putRecord p r s).outputs = s.outputs := rfl
@[simp] theorem putRecord_lamps (p : Fin 40) (r : Option FaultRecord) : (putRecord p r s).lamps = s.lamps := rfl
@[simp] theorem putRecord_direct (p : Fin 40) (r : Option FaultRecord) : (putRecord p r s).direct = s.direct := rfl
@[simp] theorem putRecord_doors (p : Fin 40) (r : Option FaultRecord) : (putRecord p r s).doors = s.doors := rfl
@[simp] theorem putRecord_stopLatch (p : Fin 40) (r : Option FaultRecord) :
    (putRecord p r s).stopLatch = s.stopLatch := rfl
@[simp] theorem putRecord_drivePermit (p : Fin 40) (r : Option FaultRecord) :
    (putRecord p r s).drivePermit = s.drivePermit := rfl
@[simp] theorem putRecord_stopBrake (p : Fin 40) (r : Option FaultRecord) :
    (putRecord p r s).stopBrake = s.stopBrake := rfl
@[simp] theorem putRecord_faults (p : Fin 40) (r : Option FaultRecord) :
    (putRecord p r s).faults = { s.faults with memory := vput s.faults.memory p r } := rfl
@[simp] theorem putRecord_service (p : Fin 40) (r : Option FaultRecord) : (putRecord p r s).service = s.service := rfl
@[simp] theorem putRecord_capture (p : Fin 40) (r : Option FaultRecord) : (putRecord p r s).capture = s.capture := rfl
@[simp] theorem putRecord_link (p : Fin 40) (r : Option FaultRecord) : (putRecord p r s).link = s.link := rfl
@[simp] theorem putRecord_system (p : Fin 40) (r : Option FaultRecord) : (putRecord p r s).system = s.system := rfl
@[simp] theorem putRecord_flags (p : Fin 40) (r : Option FaultRecord) : (putRecord p r s).flags = s.flags := rfl
@[simp] theorem putRecord_attn (p : Fin 40) (r : Option FaultRecord) : (putRecord p r s).attn = s.attn := rfl

/-! ### clearConditions -/

@[simp] theorem clearConditions_now : (clearConditions s).now = s.now := rfl
@[simp] theorem clearConditions_base : (clearConditions s).base = s.base := rfl
@[simp] theorem clearConditions_pending : (clearConditions s).pending = s.pending := rfl
@[simp] theorem clearConditions_stage : (clearConditions s).stage = s.stage := rfl
@[simp] theorem clearConditions_resetLow : (clearConditions s).resetLow = s.resetLow := rfl
@[simp] theorem clearConditions_mode : (clearConditions s).mode = s.mode := rfl
@[simp] theorem clearConditions_power : (clearConditions s).power = s.power := rfl
@[simp] theorem clearConditions_label : (clearConditions s).label = s.label := rfl
@[simp] theorem clearConditions_ignition : (clearConditions s).ignition = s.ignition := rfl
@[simp] theorem clearConditions_cycles : (clearConditions s).cycles = s.cycles := rfl
@[simp] theorem clearConditions_runOn : (clearConditions s).runOn = s.runOn := rfl
@[simp] theorem clearConditions_ports : (clearConditions s).ports = s.ports := rfl
@[simp] theorem clearConditions_matchTable : (clearConditions s).matchTable = s.matchTable := rfl
@[simp] theorem clearConditions_descs : (clearConditions s).descs = s.descs := rfl
@[simp] theorem clearConditions_slots : (clearConditions s).slots = s.slots := rfl
@[simp] theorem clearConditions_panelDeadlines : (clearConditions s).panelDeadlines = s.panelDeadlines := rfl
@[simp] theorem clearConditions_pulses : (clearConditions s).pulses = s.pulses := rfl
@[simp] theorem clearConditions_speed : (clearConditions s).speed = s.speed := rfl
@[simp] theorem clearConditions_gauges : (clearConditions s).gauges = s.gauges := rfl
@[simp] theorem clearConditions_conds : (clearConditions s).conds = vmap CondUnit.clear s.conds := rfl
@[simp] theorem clearConditions_telltales : (clearConditions s).telltales = s.telltales := rfl
@[simp] theorem clearConditions_flashOrigin : (clearConditions s).flashOrigin = s.flashOrigin := rfl
@[simp] theorem clearConditions_bulb : (clearConditions s).bulb = s.bulb := rfl
@[simp] theorem clearConditions_chime : (clearConditions s).chime = s.chime := rfl
@[simp] theorem clearConditions_inputs : (clearConditions s).inputs = s.inputs := rfl
@[simp] theorem clearConditions_outputs : (clearConditions s).outputs = s.outputs := rfl
@[simp] theorem clearConditions_lamps : (clearConditions s).lamps = s.lamps := rfl
@[simp] theorem clearConditions_direct : (clearConditions s).direct = s.direct := rfl
@[simp] theorem clearConditions_doors : (clearConditions s).doors = s.doors := rfl
@[simp] theorem clearConditions_stopLatch : (clearConditions s).stopLatch = s.stopLatch := rfl
@[simp] theorem clearConditions_drivePermit : (clearConditions s).drivePermit = s.drivePermit := rfl
@[simp] theorem clearConditions_stopBrake : (clearConditions s).stopBrake = s.stopBrake := rfl
@[simp] theorem clearConditions_faults : (clearConditions s).faults = s.faults := rfl
@[simp] theorem clearConditions_service : (clearConditions s).service = s.service := rfl
@[simp] theorem clearConditions_capture : (clearConditions s).capture = s.capture := rfl
@[simp] theorem clearConditions_link : (clearConditions s).link = s.link := rfl
@[simp] theorem clearConditions_system : (clearConditions s).system = s.system := rfl
@[simp] theorem clearConditions_flags : (clearConditions s).flags = s.flags := rfl
@[simp] theorem clearConditions_attn : (clearConditions s).attn = s.attn := rfl

end Sys2Proof.Machine
end

