-- ==== Sys2Proof/Laws/Vectors.lean ====
section
/-! SUPPORT. What the table operations of Word.lean do: one entry replaced, a table mapped, units visited in index
order. -/

namespace Sys2Proof

variable {α β σ : Type} {n : Nat}

/-! ### One entry replaced -/

@[simp] theorem vput_getElem_self (v : Vector α n) (i : Fin n) (a : α) (h : i.val < n) :
    (vput v i a)[i.val]'h = a := by simp [vput]

theorem vput_getElem (v : Vector α n) (i : Fin n) (a : α) (j : Nat) (h : j < n) :
    (vput v i a)[j]'h = if i.val = j then a else v[j] := by
  simp [vput, Vector.getElem_set]

/-- The entry that was replaced. -/
theorem vput_same (v : Vector α n) (i : Fin n) (a : α) : (vput v i a)[i] = a := by simp [Fin.getElem_fin]

/-- Every other entry stays. -/
theorem vput_other (v : Vector α n) {i j : Fin n} (a : α) (h : j ≠ i) : (vput v i a)[j] = v[j] := by
  have : i.val ≠ j.val := fun e => h (Fin.ext e.symm)
  simp [Fin.getElem_fin, vput_getElem, this]

theorem vput_get (v : Vector α n) (i j : Fin n) (a : α) : (vput v i a)[j] = if j = i then a else v[j] := by
  by_cases h : j = i
  · subst h; simp
  · simp [vput_other v a h, h]

/-- A later write to an entry hides an earlier one. -/
@[simp] theorem vput_vput (v : Vector α n) (i : Fin n) (a b : α) : vput (vput v i a) i b = vput v i b := by
  simp [vput]

@[simp] theorem vput_getElem_id (v : Vector α n) (i : Fin n) : vput v i v[i] = v := by
  apply Vector.ext; intro j h
  rw [vput_getElem]; split
  · subst j; rfl
  · rfl

theorem vget?_vput (v : Vector α n) (i : Fin n) (a : α) (j : Nat) :
    vget? (vput v i a) j = if i.val = j then some a else vget? v j := by
  unfold vget?
  by_cases h : j < n
  · simp only [h, dite_true, vput_getElem]; split <;> rfl
  · have : i.val ≠ j := by omega
    simp [h, this]

/-! ### A table mapped -/

theorem vmap_getElem (f : α → β) (v : Vector α n) (j : Nat) (h : j < n) : (vmap f v)[j]'h = f v[j] := by
  simp [vmap]

theorem vmap_get (f : α → β) (v : Vector α n) (i : Fin n) : (vmap f v)[i] = f v[i] := by
  simp [Fin.getElem_fin, vmap_getElem]

/-! ### A projection that a write keeps -/

/-- A write that keeps a projection of the entry keeps the projection of the whole table. -/
theorem vput_map (g : α → β) (v : Vector α n) (i : Fin n) (a : α) (h : g a = g v[i]) :
    (vput v i a).toArray.toList.map g = v.toArray.toList.map g := by
  apply List.ext_getElem
  · simp
  · intro j h1 h2
    have hj : j < n := by simpa using h2
    simp only [List.getElem_map, Array.getElem_toList, Vector.getElem_toArray]
    rw [vput_getElem]
    split
    · subst j; exact h
    · rfl

/-- A map that keeps a projection of every entry keeps the projection of the whole table. -/
theorem vmap_map (g : α → β) (f : α → α) (v : Vector α n) (h : ∀ a, g (f a) = g a) :
    (vmap f v).toArray.toList.map g = v.toArray.toList.map g := by
  simp [vmap, h]

/-! ### Units in index order -/

/-- A relation that every visit keeps holds of the whole round. -/
theorem each_rel (R : σ → σ → Prop) (refl : ∀ s, R s s) (trans : ∀ {a b c}, R a b → R b c → R a c)
    (f : Fin n → σ → σ) (h : ∀ i s, R s (f i s)) (s : σ) : R s (each n f s) := by
  unfold each
  generalize List.finRange n = l
  induction l generalizing s with
  | nil => exact refl s
  | cons i t ih => exact trans (h i s) (ih (f i s))

/-- A property that every visit keeps. -/
theorem each_keeps (P : σ → Prop) (f : Fin n → σ → σ) (h : ∀ i s, P s → P (f i s)) (s : σ) (hs : P s) :
    P (each n f s) := by
  unfold each
  generalize List.finRange n = l
  induction l generalizing s with
  | nil => exact hs
  | cons i t ih => exact ih (f i s) (h i s hs)

theorem foldl_rel {ι : Type} (R : σ → σ → Prop) (refl : ∀ s, R s s) (trans : ∀ {a b c}, R a b → R b c → R a c)
    (f : σ → ι → σ) (h : ∀ s i, R s (f s i)) (l : List ι) (s : σ) : R s (l.foldl f s) := by
  induction l generalizing s with
  | nil => exact refl s
  | cons i t ih => exact trans (h s i) (ih (f s i))

theorem times_rel (R : σ → σ → Prop) (refl : ∀ s, R s s) (trans : ∀ {a b c}, R a b → R b c → R a c)
    (f : σ → σ) (h : ∀ s, R s (f s)) (k : Nat) (s : σ) : R s (times k f s) := by
  induction k generalizing s with
  | zero => exact refl s
  | succ k ih => exact trans (h s) (ih (f s))

theorem unit?_val (i : Fin n) : unit? n i.val = some i := by simp [unit?]

theorem unit?_lt {i : Nat} (h : i < n) : unit? n i = some (Fin.mk i h) := by simp [unit?, h]

theorem unit?_ge {i : Nat} (h : n ≤ i) : unit? n i = none := by simp [unit?, Nat.not_lt.mpr h]

theorem anyUnit_iff (p : Fin n → Bool) : anyUnit n p = true ↔ ∃ i, p i = true := by simp [anyUnit]

theorem allUnits_iff (p : Fin n → Bool) : allUnits n p = true ↔ ∀ i, p i = true := by simp [allUnits]

end Sys2Proof
end

