-- ==== Sys2Proof/Laws/Tell.lean ====
section
/-! SUPPORT. What telling can do. The lines, chimes, telltales, conditions and gauges follow the rest of the part, and
`Tell s t` says all that their operations can change: every operation of the chapters 4 to 6 that another block calls,
and the writing of an internal slot, is a `Tell`. No table, no configurable slot and no other field changes. -/

namespace Sys2Proof.Machine

namespace Tell

theorem refl (s : State) : Tell s s :=
  Exists.intro s.slots ⟨s.gauges, s.conds, s.telltales, s.chime, s.outputs, s.lamps, s.flags, s.attn, rfl, rfl,
    fun _ => rfl⟩

theorem trans {a b c : State} (h : Tell a b) (h' : Tell b c) : Tell a c := by
  obtain ⟨_, _, _, _, _, _, _, _, _, rfl, h1, h2⟩ := h
  obtain ⟨_, _, _, _, _, _, _, _, _, rfl, h3, h4⟩ := h'
  exact ⟨_, _, _, _, _, _, _, _, _, rfl, h3.trans h1, fun k => (h4 k).trans (h2 k)⟩

/-- A round of tellings in index order. -/
theorem each {n : Nat} {f : Fin n → State → State} (h : ∀ i s, Tell s (f i s)) (s : State) :
    Tell s (Sys2Proof.each n f s) :=
  each_rel Tell Tell.refl Tell.trans f h s

theorem ite {p : Prop} [Decidable p] {s a b : State} (ha : Tell s a) (hb : Tell s b) :
    Tell s (if p then a else b) := by
  split
  · exact ha
  · exact hb

theorem tables {s t : State} (h : Tell s t) : t.tables = s.tables := by
  obtain ⟨_, _, _, _, _, _, _, _, _, -, h1, -⟩ := h; exact h1

theorem record {s t : State} (h : Tell s t) (k : Fin 240) : t.record k = s.record k := by
  obtain ⟨_, _, _, _, _, _, _, _, _, -, -, h2⟩ := h; exact h2 k

end Tell

/-! ### Lines and flags -/

theorem tell_outputs {s : State} {o : Vector OutputUnit 16} {l : Vector LampUnit 8}
    (h : o.toArray.toList.map (·.entry) = s.outputs.toArray.toList.map (·.entry)) :
    Tell s { s with outputs := o, lamps := l } :=
  ⟨_, _, _, _, _, _, _, _, _, rfl, by simp [State.tables, h], fun _ => rfl⟩

theorem driveLine_tell (l : Fin 16) (s : State) : Tell s (driveLine l s) := by
  unfold driveLine
  split
  · exact tell_outputs (vput_map _ _ _ _ rfl)
  · exact tell_outputs (vput_map _ _ _ _ rfl)

theorem redrive_tell (s : State) : Tell s (redrive s) := Tell.each driveLine_tell s

theorem tell_attention {s : State} {f : BitVec 12} {a : Bool} : Tell s { s with flags := f, attn := a } :=
  ⟨_, _, _, _, _, _, _, _, _, rfl, rfl, fun _ => rfl⟩

theorem setFlag_tell (f : Attention) (s : State) : Tell s (setFlag f s) := tell_attention

theorem setFlagIf_tell (b : Bool) (f : Attention) (s : State) : Tell s (setFlagIf b f s) :=
  Tell.ite (setFlag_tell f s) (Tell.refl s)

theorem decideAttn_tell (s : State) : Tell s (decideAttn s) := tell_attention

/-! ### Chimes -/

theorem tell_chime {s : State} {c : ChimeArbiter} (h : c.patterns = s.chime.patterns) :
    Tell s { s with chime := c } :=
  ⟨_, _, _, _, _, _, _, _, _, rfl, by simp [State.tables, h], fun _ => rfl⟩

@[simp] theorem dropGrant_patterns (c : ChimeArbiter) (r : Fin 70) : (c.dropGrant r).patterns = c.patterns := by
  unfold ChimeArbiter.dropGrant
  split
  · split <;> rfl
  · rfl

theorem startGrant_tell (r : Fin 70) (p : Nat) (s : State) : Tell s (startGrant r p s) := tell_chime rfl

theorem arbitrate_tell (s : State) : Tell s (arbitrate s) := by
  unfold arbitrate
  refine Tell.trans ?_ (redrive_tell _)
  split
  · exact tell_chime rfl
  · split
    · exact Tell.ite (Tell.refl s) (startGrant_tell _ _ s)
    · exact startGrant_tell _ _ s

theorem placeRequest_tell (r : Fin 70) (p : Nat) (s : State) : Tell s (placeRequest r p s) := by
  refine Tell.trans ?_ (arbitrate_tell _)
  exact tell_chime (dropGrant_patterns _ _)

theorem placeIf_tell (r : Fin 70) (p : Option Nat) (s : State) : Tell s (placeIf r p s) := by
  unfold placeIf
  split
  · exact placeRequest_tell _ _ s
  · exact Tell.refl s

theorem withdrawRequest_tell (r : Fin 70) (s : State) : Tell s (withdrawRequest r s) := by
  refine Tell.ite ?_ (Tell.refl s)
  refine Tell.trans ?_ (arbitrate_tell _)
  exact tell_chime (dropGrant_patterns _ _)

theorem withdrawGroup_tell (rs : List (Fin 70)) (s : State) : Tell s (withdrawGroup rs s) := by
  refine Tell.ite ?_ (Tell.refl s)
  refine Tell.trans ?_ (arbitrate_tell _)
  refine tell_chime ?_
  refine foldl_rel (fun a b : ChimeArbiter => b.patterns = a.patterns) (fun _ => rfl)
    (fun h h' => h'.trans h) _ ?_ rs s.chime
  intro c r; simp

theorem emptyChimes_tell (s : State) : Tell s (emptyChimes s) := by
  refine Tell.trans ?_ (redrive_tell _)
  exact tell_chime rfl

theorem endOnTime_tell (s : State) : Tell s (endOnTime s) := by
  unfold endOnTime
  split
  · exact Tell.ite (tell_chime rfl) (Tell.refl s)
  · exact Tell.refl s

theorem endOffTime_tell (s : State) : Tell s (endOffTime s) := by
  unfold endOffTime
  split
  · refine Tell.ite ?_ (Tell.refl s)
    split
    · exact Tell.refl s
    · exact Tell.ite (withdrawRequest_tell _ s) (tell_chime rfl)
  · exact Tell.refl s

/-! ### Telltales -/

theorem tell_telltales {s : State} {tt : Vector TelltaleUnit 64}
    (h : tt.toArray.toList.map (·.entry) = s.telltales.toArray.toList.map (·.entry)) :
    Tell s { s with telltales := tt } :=
  ⟨_, _, _, _, _, _, _, _, _, rfl, by simp [State.tables, h], fun _ => rfl⟩

theorem setTelltale_tell (t : Fin 64) (st : TelltaleState) (s : State) : Tell s (setTelltale t st s) := by
  refine Tell.ite (Tell.refl s) (Tell.trans ?_ (redrive_tell _))
  have h :
      Tell s (setFlag .telltale { s with telltales := vput s.telltales t { s.telltales[t] with state := st } }) := by
    refine Tell.trans ?_ (setFlag_tell _ _)
    exact tell_telltales (vput_map _ _ _ _ rfl)
  exact Tell.ite (h.trans (placeIf_tell _ _ _)) (Tell.ite (h.trans (withdrawRequest_tell _ _)) h)

theorem tellTelltales_tell (c : Fin 96) (truth : Bool) (s : State) : Tell s (tellTelltales c truth s) :=
  Tell.ite (Tell.each (fun _ _ => Tell.ite (setTelltale_tell _ _ _) (Tell.refl _)) s) (Tell.refl s)

theorem lightTelltales_tell (s : State) : Tell s (lightTelltales s) :=
  Tell.each (fun _ _ => Tell.ite (setTelltale_tell _ _ _) (Tell.refl _)) s

@[simp] theorem acknowledge_entry (u : TelltaleUnit) (c : TelltaleClass) : (u.acknowledge c).entry = u.entry := by
  unfold TelltaleUnit.acknowledge
  split <;> rfl

theorem acknowledge_tell (s : State) : Tell s (acknowledge s).2.2 := by
  unfold acknowledge
  split
  · exact Tell.refl s
  · refine Tell.trans (Tell.trans (Tell.trans ?_ (setFlag_tell _ _)) (withdrawGroup_tell _ _)) (redrive_tell _)
    exact tell_telltales (vmap_map _ _ _ (fun u => acknowledge_entry u _))

theorem darkenTelltales_tell (s : State) : Tell s (darkenTelltales s) := by
  refine Tell.trans ?_ (setFlagIf_tell _ _ _)
  exact tell_telltales (vmap_map _ _ _ (fun _ => rfl))

/-! ### Conditions -/

theorem tell_conds {s : State} {c : Vector CondUnit 96}
    (h : c.toArray.toList.map (·.entry) = s.conds.toArray.toList.map (·.entry)) : Tell s { s with conds := c } :=
  ⟨_, _, _, _, _, _, _, _, _, rfl, by simp [State.tables, h], fun _ => rfl⟩

@[simp] theorem move_entry (u : CondUnit) (raw : Bool) (s : State) : (u.move raw s).entry = u.entry := by
  unfold CondUnit.move
  split
  · rfl
  · simp only
    split <;> (try split) <;> rfl

@[simp] theorem evaluated_entry (s : State) (c : Fin 96) : (s.evaluated c).entry = s.conds[c].entry := by
  simp [State.evaluated]

theorem putGated_tell (c : Fin 96) (u : CondUnit) (s : State) (h : u.entry = s.conds[c].entry) :
    Tell s (putGated c u s) := by
  have h1 : Tell s { s with conds := vput s.conds c u } := tell_conds (vput_map _ _ _ _ h)
  refine Tell.ite h1 (Tell.trans ?_ (redrive_tell _))
  exact h1.trans (tellTelltales_tell _ _ _)

theorem evaluateGated_tell (c : Fin 96) (s : State) : Tell s (evaluateGated c s) :=
  Tell.ite (putGated_tell c _ s (evaluated_entry s c)) (Tell.refl s)

theorem putCond_tell (c : Fin 96) (u : CondUnit) (s : State) (h : u.entry = s.conds[c].entry) :
    Tell s (putCond c u s) := by
  have h1 : Tell s { s with conds := vput s.conds c u } := tell_conds (vput_map _ _ _ _ h)
  refine Tell.ite h1 (Tell.trans ?_ (redrive_tell _))
  exact Tell.trans (h1.trans (tellTelltales_tell _ _ _))
    (Tell.each (fun _ _ => Tell.ite (evaluateGated_tell _ _) (Tell.refl _)) _)

theorem evaluate_tell (c : Fin 96) (s : State) : Tell s (evaluate c s) :=
  Tell.ite (putCond_tell c _ s (evaluated_entry s c)) (Tell.refl s)

theorem tellConditions_tell (k : Fin 256) (s : State) : Tell s (tellConditions k s) :=
  Tell.each (fun _ _ => Tell.ite (evaluate_tell _ _) (Tell.refl _)) s

theorem tellFaultConditions_tell (s : State) : Tell s (tellFaultConditions s) :=
  Tell.each (fun _ _ => Tell.ite (evaluate_tell _ _) (Tell.refl _)) s

theorem evaluateAll_tell (s : State) : Tell s (evaluateAll s) := Tell.each evaluate_tell s

theorem clearConditions_tell (s : State) : Tell s (clearConditions s) := tell_conds (vmap_map _ _ _ (fun _ => rfl))

theorem expireDelay_tell (c : Fin 96) (s : State) : Tell s (expireDelay c s) := by
  refine Tell.ite ?_ (Tell.refl s)
  split
  · exact putCond_tell c _ s rfl
  · exact putCond_tell c _ s rfl
  · exact Tell.refl s

/-! ### Gauges -/

theorem tell_gauges {s : State} {g : Vector GaugeUnit 6}
    (h : g.toArray.toList.map (·.entry) = s.gauges.toArray.toList.map (·.entry)) : Tell s { s with gauges := g } :=
  ⟨_, _, _, _, _, _, _, _, _, rfl, by simp [State.tables, h], fun _ => rfl⟩

@[simp] theorem hearing_entry (s : State) (u : GaugeUnit) : (s.hearing u).entry = u.entry := by
  unfold State.hearing
  split
  · rfl
  · split <;> (try split) <;> rfl

@[simp] theorem retargeted_entry (s : State) (u : GaugeUnit) : (s.retargeted u).entry = u.entry := by
  unfold State.retargeted
  split
  · rfl
  · split <;> rfl

@[simp] theorem homed_entry (s : State) (u : GaugeUnit) : (s.homed u).entry = u.entry := by
  simp [State.homed, GaugeUnit.attemptFrom]

@[simp] theorem asOff_entry (u : GaugeUnit) : u.asOff.entry = u.entry := rfl

@[simp] theorem startGauge_entry (s : State) (u : GaugeUnit) : (s.startGauge u).entry = u.entry := by
  unfold State.startGauge
  split <;> simp

@[simp] theorem wokenGauge_entry (s : State) (u : GaugeUnit) : (s.wokenGauge u).entry = u.entry := by
  unfold State.wokenGauge
  split <;> simp

@[simp] theorem parked_entry (u : GaugeUnit) : u.parked.entry = u.entry := by
  unfold GaugeUnit.parked
  split <;> rfl

@[simp] theorem ignitionOff_entry (u : GaugeUnit) : u.ignitionOff.entry = u.entry := by
  unfold GaugeUnit.ignitionOff
  split
  · rfl
  · split <;> rfl

@[simp] theorem ignitionOnGauge_entry (s : State) (u : GaugeUnit) : (s.ignitionOnGauge u).entry = u.entry := by
  unfold State.ignitionOnGauge
  split
  · rfl
  · split <;> simp

theorem tellGauges_tell (k : Fin 256) (s : State) : Tell s (tellGauges k s) := by
  refine Tell.ite (tell_gauges (vmap_map _ _ _ ?_)) (Tell.refl s)
  intro u
  split <;> simp

theorem beginHoming_tell (g : Fin 6) (s : State) : Tell s (beginHoming g s) :=
  tell_gauges (vput_map _ _ _ _ (homed_entry _ _))

theorem motionStep_tell (g : Fin 6) (s : State) : Tell s (motionStep g s) :=
  Tell.ite (tell_gauges (vput_map _ _ _ _ rfl)) (Tell.refl s)

theorem stall_tell (g : Fin 6) (s : State) : Tell s (stall g s) :=
  Tell.ite (tell_gauges (vput_map _ _ _ _ rfl)) (Tell.refl s)

/-! ### Internal slots -/

/-- A slot of index 240 or above is written. -/
theorem tell_slot {s : State} {k : Fin 256} {r : SlotRec} (h : 240 ≤ k.val) :
    Tell s { s with slots := vput s.slots k r } := by
  refine ⟨_, _, _, _, _, _, _, _, _, rfl, rfl, ?_⟩
  intro j
  have : configSlot j ≠ k := by
    intro e
    have := congrArg Fin.val e
    simp only [configSlot] at this
    omega
  exact vput_other _ _ this

theorem writeInternal_tell {k : Fin 256} (h : 240 ≤ k.val) (v : Int) (st : SlotState) (s : State) :
    Tell s (writeInternal k v st s) := by
  refine Tell.ite (Tell.refl s) (Tell.trans (Tell.trans ?_ (tellGauges_tell _ _)) (tellConditions_tell _ _))
  exact tell_slot h

theorem publish_tell {k : Fin 256} (h : 240 ≤ k.val) (v : Nat) (s : State) : Tell s (publish k v s) :=
  writeInternal_tell h v .valid s

end Sys2Proof.Machine
end

