-- ==== Sys2Proof/Laws/Blocks.lean ====
section
/-! SUPPORT. What the fault monitor, the doors, the speed unit, the output test and the signal store can do, said once
for each of their operations in one of three relations, each wider than the one before: `Fault`-free telling is `Tell`
(Laws/Tell.lean); `Told` adds the faults and the capture buffer; `Moved` adds the doors, the speed unit, the service
channel and the run-on timer; `Stored` adds the configurable slots and their panel deadlines. No table is written. -/

namespace Sys2Proof.Machine

/-! ### The relations -/

theorem Tell.told {s t : State} (h : Tell s t) : Told s t := by
  obtain ⟨_, _, _, _, _, _, _, _, _, rfl, h1, h2⟩ := h
  exact ⟨_, _, _, _, _, _, _, _, _, _, _, rfl, h1, h2⟩

theorem Told.moved {s t : State} (h : Told s t) : Moved s t := by
  obtain ⟨_, _, _, _, _, _, _, _, _, _, _, rfl, h1, h2⟩ := h
  exact ⟨_, _, _, _, _, _, _, _, _, _, _, _, _, _, _, _, _, _, rfl, h1, h2⟩

theorem Moved.stored {s t : State} (h : Moved s t) : Stored s t := by
  obtain ⟨_, _, _, _, _, _, _, _, _, _, _, _, _, _, _, _, _, _, rfl, h1, _⟩ := h
  exact ⟨_, _, _, _, _, _, _, _, _, _, _, _, _, _, _, _, _, _, _, rfl, h1⟩

namespace Told

theorem refl (s : State) : Told s s := (Tell.refl s).told

theorem trans {a b c : State} (h : Told a b) (h' : Told b c) : Told a c := by
  obtain ⟨_, _, _, _, _, _, _, _, _, _, _, rfl, h1, h2⟩ := h
  obtain ⟨_, _, _, _, _, _, _, _, _, _, _, rfl, h3, h4⟩ := h'
  exact ⟨_, _, _, _, _, _, _, _, _, _, _, rfl, h3.trans h1, fun k => (h4 k).trans (h2 k)⟩

theorem ite {p : Prop} [Decidable p] {s a b : State} (ha : Told s a) (hb : Told s b) :
    Told s (if p then a else b) := by
  split
  · exact ha
  · exact hb

theorem each {n : Nat} {f : Fin n → State → State} (h : ∀ i s, Told s (f i s)) (s : State) :
    Told s (Sys2Proof.each n f s) :=
  each_rel Told Told.refl Told.trans f h s

theorem tables {s t : State} (h : Told s t) : t.tables = s.tables := by
  obtain ⟨_, _, _, _, _, _, _, _, _, _, _, -, h1, -⟩ := h; exact h1

theorem record {s t : State} (h : Told s t) (k : Fin 240) : t.record k = s.record k := by
  obtain ⟨_, _, _, _, _, _, _, _, _, _, _, -, -, h2⟩ := h; exact h2 k

end Told

namespace Moved

theorem refl (s : State) : Moved s s := (Told.refl s).moved

theorem trans {a b c : State} (h : Moved a b) (h' : Moved b c) : Moved a c := by
  obtain ⟨_, _, _, _, _, _, _, _, _, _, _, _, _, _, _, _, _, _, rfl, h1, h2⟩ := h
  obtain ⟨_, _, _, _, _, _, _, _, _, _, _, _, _, _, _, _, _, _, rfl, h3, h4⟩ := h'
  exact ⟨_, _, _, _, _, _, _, _, _, _, _, _, _, _, _, _, _, _, rfl, h3.trans h1, fun k => (h4 k).trans (h2 k)⟩

theorem ite {p : Prop} [Decidable p] {s a b : State} (ha : Moved s a) (hb : Moved s b) :
    Moved s (if p then a else b) := by
  split
  · exact ha
  · exact hb

theorem each {n : Nat} {f : Fin n → State → State} (h : ∀ i s, Moved s (f i s)) (s : State) :
    Moved s (Sys2Proof.each n f s) :=
  each_rel Moved Moved.refl Moved.trans f h s

theorem tables {s t : State} (h : Moved s t) : t.tables = s.tables := by
  obtain ⟨_, _, _, _, _, _, _, _, _, _, _, _, _, _, _, _, _, _, -, h1, -⟩ := h; exact h1

theorem record {s t : State} (h : Moved s t) (k : Fin 240) : t.record k = s.record k := by
  obtain ⟨_, _, _, _, _, _, _, _, _, _, _, _, _, _, _, _, _, _, -, -, h2⟩ := h; exact h2 k

end Moved

namespace Stored

theorem refl (s : State) : Stored s s := (Moved.refl s).stored

theorem trans {a b c : State} (h : Stored a b) (h' : Stored b c) : Stored a c := by
  obtain ⟨_, _, _, _, _, _, _, _, _, _, _, _, _, _, _, _, _, _, _, rfl, h1⟩ := h
  obtain ⟨_, _, _, _, _, _, _, _, _, _, _, _, _, _, _, _, _, _, _, rfl, h3⟩ := h'
  exact ⟨_, _, _, _, _, _, _, _, _, _, _, _, _, _, _, _, _, _, _, rfl, h3.trans h1⟩

theorem ite {p : Prop} [Decidable p] {s a b : State} (ha : Stored s a) (hb : Stored s b) :
    Stored s (if p then a else b) := by
  split
  · exact ha
  · exact hb

theorem each {n : Nat} {f : Fin n → State → State} (h : ∀ i s, Stored s (f i s)) (s : State) :
    Stored s (Sys2Proof.each n f s) :=
  each_rel Stored Stored.refl Stored.trans f h s

theorem tables {s t : State} (h : Stored s t) : t.tables = s.tables := by
  obtain ⟨_, _, _, _, _, _, _, _, _, _, _, _, _, _, _, _, _, _, _, -, h1⟩ := h; exact h1

end Stored

/-! ### Faults and capture (chapters 8 and 9) -/

theorem told_faults {s : State} {fu : FaultUnit} (h : fu.confirm = s.faults.confirm)
    (h' : fu.healLimit = s.faults.healLimit) (h'' : fu.freezeList = s.faults.freezeList) :
    Told s { s with faults := fu } :=
  ⟨_, _, _, _, _, _, _, _, _, _, _, rfl, by simp [State.tables, h, h', h''], fun _ => rfl⟩

theorem told_capture {s : State} {c : CaptureUnit} : Told s { s with capture := c } :=
  ⟨_, _, _, _, _, _, _, _, _, _, _, rfl, rfl, fun _ => rfl⟩

theorem offerCapture_told (p : Fin 3) (f : Frame) (e : Option Nat) (b : Bool) (s : State) :
    Told s (offerCapture p f e b s) := by
  refine Told.ite ?_ (Told.refl s)
  refine Told.ite (Told.ite ?_ told_capture) told_capture
  exact told_capture.trans (setFlag_tell _ _).told

theorem triggerCapture_told (s : State) : Told s (triggerCapture s) := Told.ite told_capture (Told.refl s)

theorem confirmationTold_told (c : FaultCode) (s : State) : Told s (confirmationTold c s) :=
  Told.ite (triggerCapture_told s) (Told.refl s)

theorem handOn_told (s : State) : Told s (handOn s) :=
  ((publish_tell (by decide) _ s).trans (tellFaultConditions_tell _)).told

theorem putRecord_told (p : Fin 40) (r : Option FaultRecord) (s : State) : Told s (putRecord p r s) :=
  told_faults rfl rfl rfl

theorem storePair_told (c : FaultCode) (src : Option Nat) (s : State) : Told s (storePair c src s) := by
  unfold storePair
  split
  · exact putRecord_told _ _ s
  · split
    · exact putRecord_told _ _ s
    · split
      · exact putRecord_told _ _ s
      · refine Told.trans ?_ (setFlag_tell _ _).told
        exact told_faults rfl rfl rfl

theorem fillLatch_told (c : FaultCode) (src : Option Nat) (s : State) : Told s (fillLatch c src s) := by
  unfold fillLatch
  split
  · exact Told.refl s
  · exact told_faults rfl rfl rfl

theorem markConfirmed_told (c : FaultCode) (src : Option Nat) (s : State) : Told s (markConfirmed c src s) :=
  told_faults rfl rfl rfl

theorem confirmPair_told (c : FaultCode) (src : Option Nat) (s : State) : Told s (confirmPair c src s) :=
  (((markConfirmed_told c src s).trans (storePair_told _ _ _)).trans (fillLatch_told _ _ _)).trans
    ((setFlag_tell _ _).told.trans (confirmationTold_told _ _))

theorem raiseFault_told (c : FaultCode) (src : Option Nat) (s : State) : Told s (raiseFault c src s) := by
  refine Told.ite (Told.refl s) (Told.ite (told_faults rfl rfl rfl) ?_)
  refine Told.ite (Told.trans (Told.trans ?_ (handOn_told _)) (confirmPair_told _ _ _))
    (Told.trans ?_ (handOn_told _))
  · exact told_faults rfl rfl rfl
  · exact told_faults rfl rfl rfl

theorem deactivate_told (c : FaultCode) (src : Option Nat) (s : State) : Told s (deactivate c src s) := by
  unfold deactivate
  split
  · exact putRecord_told _ _ s
  · exact Told.refl s

theorem clearFault_told (c : FaultCode) (src : Option Nat) (s : State) : Told s (clearFault c src s) := by
  refine Told.ite (Told.trans ?_ (handOn_told _)) (Told.refl s)
  refine Told.ite (Told.trans ?_ (deactivate_told _ _ _)) ?_
  · exact told_faults rfl rfl rfl
  · exact told_faults rfl rfl rfl

theorem clearCodes_told (p : FaultCode → Bool) (s : State) : Told s (clearCodes p s) :=
  foldl_rel Told Told.refl Told.trans _ (fun _ _ => clearFault_told _ _ _) _ s

theorem setFault_told (b : Bool) (c : FaultCode) (src : Option Nat) (s : State) : Told s (setFault b c src s) :=
  Told.ite (raiseFault_told _ _ s) (clearFault_told _ _ s)

theorem expireConfirmation_told (c : FaultCode) (src : Option Nat) (s : State) :
    Told s (expireConfirmation c src s) :=
  Told.ite (confirmPair_told _ _ s) (Told.refl s)

theorem confirmDue_told (p : LiveEntry → Bool) (s : State) : Told s (confirmDue p s) :=
  foldl_rel Told Told.refl Told.trans _ (fun _ _ => confirmPair_told _ _ _) _ s

theorem clearMemory_told (s : State) : Told s (clearMemory s) := by
  refine Told.trans ?_ (confirmDue_told _ _)
  exact told_faults rfl rfl rfl

theorem healingPass_told (s : State) : Told s (healingPass s) := told_faults rfl rfl rfl

/-! ### Output test (R175, R176) and gauges in fault (R78) -/

theorem moved_service {s : State} {se : ServiceUnit} (h : se.entry = s.service.entry) :
    Moved s { s with service := se } :=
  ⟨_, _, _, _, _, _, _, _, _, _, _, _, _, _, _, _, _, _, rfl, by simp [State.tables, h], fun _ => rfl⟩

theorem setSweep_tell (u : TestUnit) (target : Option Nat) (s : State) : Tell s (setSweep u target s) := by
  unfold setSweep
  split
  · exact tell_gauges (vput_map _ _ _ _ rfl)
  · exact Tell.refl s

theorem endTest_moved (s : State) : Moved s (endTest s) := by
  unfold endTest
  split
  · exact Moved.refl s
  · refine Moved.trans ?_ (((setSweep_tell _ _ _).trans (setFlag_tell _ _)).trans (redrive_tell _)).told.moved
    exact moved_service rfl

theorem startTest_moved (u : TestUnit) (s : State) : Moved s (startTest u s) := by
  refine Moved.trans (Moved.trans (endTest_moved s) ?_)
    (((setSweep_tell u _ _).trans (setFlag_tell _ _)).trans (redrive_tell _)).told.moved
  exact moved_service rfl

theorem tellTest_moved (s : State) : Moved s (tellTest s) := Moved.ite (Moved.refl s) (endTest_moved s)

theorem expireTest_moved (s : State) : Moved s (expireTest s) := Moved.ite (endTest_moved s) (Moved.refl s)

theorem gaugeFault_told (g : Fin 6) (s : State) : Told s (gaugeFault g s) := by
  refine Told.trans (Told.trans ?_ (raiseFault_told _ _ _)) (setFlag_tell _ _).told
  apply Tell.told
  exact tell_gauges (vput_map _ _ _ _ rfl)

theorem expireTravel_told (g : Fin 6) (s : State) : Told s (expireTravel g s) := by
  refine Told.ite (Told.ite ?_ (gaugeFault_told g s)) (Told.refl s)
  apply Tell.told
  exact tell_gauges (vput_map _ _ _ _ rfl)

/-! ### Doors (chapter 7) -/

theorem moved_doors {s : State} {d : Vector DoorUnit 4} {dp sb : Bool}
    (h : d.toArray.toList.map (·.entry) = s.doors.toArray.toList.map (·.entry)) :
    Moved s { s with doors := d, drivePermit := dp, stopBrake := sb } :=
  ⟨_, _, _, _, _, _, _, _, _, _, _, _, _, _, _, _, _, _, rfl, by simp [State.tables, h], fun _ => rfl⟩

theorem putDoor_moved (d : Fin 4) (u : DoorUnit) (s : State) (h : u.entry = s.doors[d].entry) :
    Moved s (putDoor d u s) :=
  moved_doors (vput_map _ _ _ _ h)

theorem moved_interlock {s : State} {l dp sb : Bool} {ro : Option Nat} :
    Moved s { s with stopLatch := l, drivePermit := dp, stopBrake := sb, runOn := ro } :=
  ⟨_, _, _, _, _, _, _, _, _, _, _, _, _, _, _, _, _, _, rfl, rfl, fun _ => rfl⟩

theorem Tell.moved {s t : State} (h : Tell s t) : Moved s t := h.told.moved

theorem decideBrake_moved (s : State) : Moved s (decideBrake s) := by
  refine Moved.trans ?_ (redrive_tell _).moved
  exact moved_interlock

theorem decidePermit_moved (s : State) : Moved s (decidePermit s) := by
  refine Moved.trans (Moved.trans ?_ (publish_tell (by decide) _ _).moved) (redrive_tell _).moved
  exact moved_interlock

theorem publishDoors_moved (s : State) : Moved s (publishDoors s) :=
  (publish_tell (by decide) _ s).moved.trans (decidePermit_moved _)

theorem startRunOn_moved (s : State) : Moved s (startRunOn s) := moved_interlock

theorem doorDeparted_moved (s : State) : Moved s (doorDeparted s) :=
  Moved.ite (startRunOn_moved s) (Moved.refl s)

theorem slotDoorState_ge (d : Fin 4) : 240 ≤ (slotDoorState d).val := by
  simp only [slotDoorState]
  omega

theorem handOnDoor_moved (d : Fin 4) (old : DoorState) (s : State) : Moved s (handOnDoor d old s) := by
  have h : Moved s (setFlag .door (publishDoors (publish (slotDoorState d) s.doors[d].state.code s))) :=
    ((publish_tell (slotDoorState_ge _) _ s).moved.trans (publishDoors_moved _)).trans (setFlag_tell _ _).moved
  exact Moved.ite (h.trans (doorDeparted_moved _)) h

theorem clearStopLatch_moved (s : State) : Moved s (clearStopLatch s) := by
  refine Moved.trans ?_ ((publish_tell (by decide) _ _).trans (withdrawRequest_tell _ _)).moved
  exact moved_interlock

theorem pressStop_moved (s : State) : Moved s (pressStop s) := by
  refine Moved.ite (Moved.refl s) (Moved.trans ?_ ((publish_tell (by decide) _ _).trans (placeIf_tell _ _ _)).moved)
  exact moved_interlock

@[simp] theorem enter_entry (u : DoorUnit) (st : DoorState) (s : State) : (u.enter st s).entry = u.entry := by
  cases st <;> rfl

theorem clearForced_told (d : Fin 4) (s : State) : Told s (clearForced d s) :=
  (clearFault_told _ _ s).trans (clearFault_told _ _ _)

theorem clearDoorFaults_told (d : Fin 4) (s : State) : Told s (clearDoorFaults d s) :=
  ((clearFault_told _ _ s).trans (clearFault_told _ _ _)).trans (clearFault_told _ _ _)

theorem moveDoor_moved (d : Fin 4) (u : DoorUnit) (s : State) (h : u.entry = s.doors[d].entry) :
    Moved s (moveDoor d u s) := by
  have h1 : Moved s (handOnDoor d s.doors[d].state (putDoor d u s)) :=
    (putDoor_moved d u s h).trans (handOnDoor_moved _ _ _)
  have h2 := Moved.ite (p := s.doors[d].state = .closing) (h1.trans (withdrawRequest_tell (doorRequester d) _).moved) h1
  unfold moveDoor
  split
  · exact h2.trans (placeIf_tell _ _ _).moved
  · exact h2.trans (clearStopLatch_moved _)
  · exact h2.trans (clearForced_told _ _).moved
  · exact h2

theorem goDoor_moved (d : Fin 4) (st : DoorState) (s : State) : Moved s (goDoor d st s) :=
  moveDoor_moved d _ s (enter_entry _ _ _)

theorem setFields_moved (d : Fin 4) (r o : Bool) (s : State) : Moved s (setFields d r o s) := by
  refine Moved.ite (Moved.refl s) (Moved.trans ?_ (publishDoors_moved _))
  exact putDoor_moved d _ s rfl

theorem enterEmergency_moved (d : Fin 4) (s : State) : Moved s (enterEmergency d s) := by
  have h1 : Moved s (handOnDoor d s.doors[d].state (putDoor d (s.doors[d].enter .emergency s) s)) :=
    (putDoor_moved d _ s (enter_entry _ _ _)).trans (handOnDoor_moved _ _ _)
  have h2 := Moved.ite (p := s.doors[d].state = .fault) (h1.trans (clearDoorFaults_told d _).moved) h1
  have h3 := h2.trans (raiseFault_told .doorEmergency (doorSource d) _).moved
  unfold enterEmergency
  simp only
  split
  · exact h3.trans (placeRequest_tell _ _ _).moved
  · exact h3.trans (withdrawRequest_tell _ _).moved

theorem conflict_moved (d : Fin 4) (s : State) : Moved s (conflict d s) :=
  (goDoor_moved d _ s).trans (raiseFault_told _ _ _).moved

theorem deriveDoor_moved (d : Fin 4) (s : State) : Moved s (deriveDoor d s) := by
  unfold deriveDoor
  split
  · exact enterEmergency_moved d s
  · exact conflict_moved d s
  · exact goDoor_moved d _ s

theorem requestDoor_moved (d : Fin 4) (a : DoorAction) (s : State) : Moved s (requestDoor d a s).2 := by
  unfold requestDoor
  split
  · split
    · exact setFields_moved _ _ _ s
    · exact putDoor_moved d _ s rfl
  · split
    · exact setFields_moved _ _ _ s
    · exact putDoor_moved d _ s rfl
  · simp only
    split
    · exact Moved.refl s
    · exact setFields_moved _ _ _ s

theorem reverseDoor_moved (d : Fin 4) (s : State) : Moved s (reverseDoor d s) := by
  unfold reverseDoor
  simp only
  have h1 : Moved s (moveDoor d _ s) :=
    moveDoor_moved d
      { s.doors[d].enter .opening s with
        reversals := bump8 s.doors[d].reversals, obstructions := bump32 s.doors[d].obstructions } s
      (enter_entry _ _ _)
  exact Moved.ite (h1.trans ((raiseFault_told _ _ _).moved.trans (setFields_moved _ _ _ _))) h1

theorem openByHand_moved (d : Fin 4) (s : State) : Moved s (openByHand d s) :=
  Moved.ite ((goDoor_moved d _ s).trans (raiseFault_told _ _ _).moved) (goDoor_moved d _ s)

theorem completeClosing_moved (d : Fin 4) (s : State) : Moved s (completeClosing d s) :=
  moveDoor_moved d
    { s.doors[d].enter .closedLocked s with
      cycles := bump32 (s.doors[d].enter .closedLocked s).cycles, openCommand := false } s (enter_entry _ _ _)

theorem moveBySwitch_moved (d : Fin 4) (f : DoorFunction) (b : Bool) (s : State) : Moved s (moveBySwitch d f b s) := by
  unfold moveBySwitch
  split
  · exact goDoor_moved d _ s
  · exact Moved.ite (goDoor_moved d _ s) (Moved.refl s)
  · exact openByHand_moved d s
  · exact openByHand_moved d s
  · exact goDoor_moved d _ s
  · exact goDoor_moved d _ s
  · exact goDoor_moved d _ s
  · exact Moved.ite (completeClosing_moved d s) (goDoor_moved d _ s)
  · exact goDoor_moved d _ s
  · exact reverseDoor_moved d s
  · exact Moved.refl s

theorem leaveFault_moved (d : Fin 4) (f : DoorFunction) (s : State) : Moved s (leaveFault d f s) :=
  Moved.ite ((deriveDoor_moved d s).trans (clearDoorFaults_told d _).moved) (Moved.refl s)

theorem switchChange_moved (d : Fin 4) (f : DoorFunction) (b : Bool) (s : State) : Moved s (switchChange d f b s) := by
  unfold switchChange
  split
  · exact Moved.refl s
  · exact Moved.refl s
  · exact Moved.ite (raiseFault_told _ _ s).moved (leaveFault_moved d f s)
  · exact Moved.ite (conflict_moved d s) (moveBySwitch_moved d f b s)

theorem doorInput_moved (d : Fin 4) (f : DoorFunction) (b : Bool) (s : State) : Moved s (doorInput d f b s) := by
  have h : Moved s (putDoor d { s.doors[d] with levels := s.doors[d].levels.set f b } s) := putDoor_moved d _ s rfl
  unfold doorInput
  simp only
  split
  · refine Moved.ite (Moved.ite h (h.trans (enterEmergency_moved d _))) (Moved.ite ?_ h)
    exact h.trans (((clearFault_told _ _ _).moved.trans (withdrawRequest_tell _ _).moved).trans
      (deriveDoor_moved d _))
  all_goals first
    | exact Moved.ite ((h.trans (switchChange_moved _ _ _ _)).trans (requestDoor_moved _ _ _))
        (h.trans (switchChange_moved _ _ _ _))
    | exact h.trans (switchChange_moved _ _ _ _)

theorem expireDoor_moved (d : Fin 4) (s : State) : Moved s (expireDoor d s) := by
  refine Moved.ite ?_ (Moved.refl s)
  split
  · exact (goDoor_moved d _ s).trans (raiseFault_told _ _ _).moved
  · exact (goDoor_moved d _ s).trans (raiseFault_told _ _ _).moved
  · exact (goDoor_moved d _ s).trans (raiseFault_told _ _ _).moved
  · exact Moved.refl s

theorem tellDoorsSpeed_moved (s : State) : Moved s (tellDoorsSpeed s) := by
  refine Moved.ite (Moved.trans ?_ (decideBrake_moved _)) (Moved.refl s)
  exact Moved.each (fun _ _ => Moved.ite (Moved.refl _) (setFields_moved _ _ _ _)) s

theorem tellDoorsBrake_moved (k : Fin 256) (s : State) : Moved s (tellDoorsBrake k s) :=
  Moved.ite (Moved.each (fun _ _ => Moved.ite (setFields_moved _ _ _ _) (Moved.refl _)) s) (Moved.refl s)

theorem setUpDoor_entry (s : State) (d : Fin 4) : (s.setUpDoor d).entry = s.doors[d].entry := by
  unfold State.setUpDoor
  simp only
  split <;> simp

theorem setUpEffects_moved (d : Fin 4) (s : State) : Moved s (setUpEffects d s) := by
  unfold setUpEffects
  split
  · exact (raiseFault_told _ _ s).moved.trans (placeIf_tell _ _ _).moved
  · exact (raiseFault_told _ _ s).moved
  · exact (clearForced_told d s).moved
  · exact Moved.refl s

theorem publishAllDoors_moved (old : Vector DoorUnit 4) (s : State) : Moved s (publishAllDoors old s) := by
  have h : Moved s (publishDoors (each 4 (fun d s => publish (slotDoorState d) s.doors[d].state.code s) s)) :=
    (Tell.each (fun _ _ => publish_tell (slotDoorState_ge _) _ _) s).moved.trans (publishDoors_moved _)
  have h' := fun b => h.trans (setFlagIf_tell b .door _).moved
  exact Moved.ite ((h' _).trans (doorDeparted_moved _)) (h' _)

theorem setUpDoors_moved (s : State) : Moved s (setUpDoors s) := by
  refine Moved.trans (Moved.trans ?_ (Moved.each setUpEffects_moved _)) (publishAllDoors_moved _ _)
  exact Moved.each (fun d s => putDoor_moved d _ s (setUpDoor_entry s d)) s

theorem stopDoors_moved (s : State) : Moved s (stopDoors s) := by
  refine Moved.trans (Moved.trans (Moved.trans ?_ (clearCodes_told _ _).moved) (clearStopLatch_moved _))
    (publishAllDoors_moved _ _)
  exact moved_doors (vmap_map _ _ _ (fun _ => rfl))

theorem parkDoors_moved (s : State) : Moved s (parkDoors s) := by
  refine Moved.trans (Moved.trans ?_ ((publish_tell (by decide) _ _).trans (publish_tell (by decide) _ _)).moved)
    (clearStopLatch_moved _)
  exact moved_doors (vmap_map _ _ _ (fun _ => rfl))

/-! ### Speed and distance (chapter 3) -/

theorem moved_speed {s : State} {sp : SpeedUnit} (h : sp.entry = s.speed.entry) : Moved s { s with speed := sp } :=
  ⟨_, _, _, _, _, _, _, _, _, _, _, _, _, _, _, _, _, _, rfl, by simp [State.tables, h], fun _ => rfl⟩

theorem writeSpeed_moved (v : Int) (st : SlotState) (s : State) : Moved s (writeSpeed v st s) :=
  Moved.ite (Moved.refl s) ((writeInternal_tell (by decide) v st s).moved.trans (tellDoorsSpeed_moved _))

theorem writeSource_moved (n : Nat) (s : State) : Moved s (writeSource n s) :=
  (publish_tell (by decide) n s).moved.trans (setFlagIf_tell _ _ _).moved

theorem writeStandstill_moved (b : Bool) (s : State) : Moved s (writeStandstill b s) :=
  Moved.ite (Moved.refl s) ((publish_tell (by decide) _ s).moved.trans (tellTest_moved _))

theorem selectSpeed_moved (p f : Option Nat) (s : State) : Moved s (selectSpeed p f s) := by
  unfold selectSpeed
  split <;> exact writeSpeed_moved _ _ s

theorem speedFaults_moved (n : Nat) (s : State) : Moved s (speedFaults n s) :=
  ((setFault_told _ _ _ s).trans (setFault_told _ _ _ _)).moved

theorem putMismatch_moved (t : Option Nat) (s : State) : Moved s (putMismatch t s) := moved_speed rfl

theorem mismatchTest_moved (p f : Option Nat) (s : State) : Moved s (mismatchTest p f s) :=
  Moved.ite (Moved.ite (Moved.refl s) (Moved.ite (raiseFault_told _ _ s).moved (putMismatch_moved _ s)))
    ((putMismatch_moved _ s).trans (clearFault_told _ _ _).moved)

theorem expireMismatch_moved (s : State) : Moved s (expireMismatch s) :=
  Moved.ite ((putMismatch_moved _ s).trans (raiseFault_told _ _ _).moved) (Moved.refl s)

theorem select_moved (s : State) : Moved s (select s) := by
  refine Moved.ite ?_ (Moved.refl s)
  exact (((selectSpeed_moved _ _ s).trans (writeSource_moved _ _)).trans
    ((speedFaults_moved _ _).trans (mismatchTest_moved _ _ _))).trans (writeStandstill_moved _ _)

theorem tellSpeed_moved (k : Fin 256) (s : State) : Moved s (tellSpeed k s) :=
  Moved.ite (select_moved s) (Moved.refl s)

theorem speedAway_moved (s : State) : Moved s (speedAway s) := by
  have h := ((writeSpeed_moved s.slots[slotVehicleSpeed].value .stale s).trans (writeSource_moved 2 _)).trans
    (writeStandstill_moved false _)
  refine Moved.trans h ?_
  exact moved_speed rfl

theorem stopSpeed_moved (s : State) : Moved s (stopSpeed s) :=
  (speedAway_moved s).trans (clearCodes_told _ _).moved

theorem addMetre_moved (s : State) : Moved s (addMetre s) := by
  refine Moved.ite (Moved.trans ?_ (publish_tell (by decide) _ _).moved) (Moved.refl s)
  exact moved_speed rfl

theorem countPulse_moved (s : State) : Moved s (countPulse s) := by
  unfold countPulse
  split
  · exact Moved.refl s
  · refine Moved.trans ?_ (times_rel Moved Moved.refl Moved.trans _ addMetre_moved _ _)
    exact moved_speed rfl

theorem startTick_moved (s : State) : Moved s (startTick s) := by
  unfold startTick
  split
  · exact moved_speed rfl
  · exact Moved.refl s

theorem distanceTick_moved (s : State) : Moved s (distanceTick s) := by
  refine Moved.ite ?_ (Moved.refl s)
  refine Moved.ite ?_ ?_
  · refine Moved.trans ?_ (times_rel Moved Moved.refl Moved.trans _ addMetre_moved _ _)
    exact moved_speed rfl
  · exact moved_speed rfl

theorem clearResidues_moved (s : State) : Moved s (clearResidues s) := moved_speed rfl

/-! ### Signal store (chapter 2) -/

theorem stored_slots {s : State} {sl : Vector SlotRec 256} {pd : Vector (Option Nat) 240} :
    Stored s { s with slots := sl, panelDeadlines := pd } :=
  ⟨_, _, _, _, _, _, _, _, _, _, _, _, _, _, _, _, _, _, _, rfl, rfl⟩

theorem Told.stored {s t : State} (h : Told s t) : Stored s t := h.moved.stored

theorem putRec_stored (k : Fin 240) (r : SlotRec) (s : State) : Stored s (putRec k r s) := stored_slots

theorem tellConsumers_moved (k : Fin 256) (s : State) : Moved s (tellConsumers k s) := by
  have h := ((tellGauges_tell k s).moved.trans (tellConditions_tell k _).moved).trans
    ((tellSpeed_moved k _).trans (tellDoorsBrake_moved k _))
  unfold tellConsumers
  simp only
  split
  · exact h.trans (tellTest_moved _)
  · exact h

theorem changeSlot_stored (k : Fin 240) (v : Int) (st : SlotState) (s : State) : Stored s (changeSlot k v st s) :=
  Stored.ite (Stored.refl s) ((putRec_stored k _ s).trans (tellConsumers_moved _ _).stored)

theorem recordLimited_stored (k : Fin 240) (raw v : Int) (s : State) : Stored s (recordLimited k raw v s) := by
  refine Stored.ite (Stored.ite ?_ (putRec_stored k _ s)) ?_
  · exact (putRec_stored k _ s).trans (raiseFault_told _ _ _).stored
  · exact (putRec_stored k _ s).trans (clearFault_told _ _ _).stored

theorem storeValue_stored (k : Fin 240) (raw v : Int) (s : State) : Stored s (storeValue k raw v s) :=
  (recordLimited_stored k raw v s).trans (changeSlot_stored _ _ _ _)

theorem decodeSlot_stored (k : Fin 240) (data : List Byte) (s : State) : Stored s (decodeSlot k data s) := by
  unfold decodeSlot
  simp only
  split
  · exact (putRec_stored k _ s).trans (changeSlot_stored _ _ _ _)
  · split
    · refine Stored.ite ?_ ((putRec_stored k _ s).trans (changeSlot_stored _ _ _ _))
      exact ((putRec_stored k _ s).trans (changeSlot_stored _ _ _ _)).trans (raiseFault_told _ _ _).stored
    · exact ((putRec_stored k _ s).trans (storeValue_stored _ _ _ _)).trans (clearFault_told _ _ _).stored

theorem decodeEntry_stored (e : Fin 128) (data : List Byte) (s : State) : Stored s (decodeEntry e data s) :=
  Stored.each (fun _ _ => Stored.ite (decodeSlot_stored _ _ _) (Stored.refl _)) s

theorem silence_stored (k : Fin 240) (s : State) : Stored s (silence k s) := by
  unfold silence
  split <;> exact changeSlot_stored _ _ _ s

theorem entryMissing_stored (e : Fin 128) (s : State) : Stored s (entryMissing e s) := by
  refine Stored.each (fun k s => ?_) s
  refine Stored.ite ?_ (Stored.refl s)
  split <;> first | exact silence_stored k s | exact Stored.refl s

theorem putPanelDeadline_stored (k : Fin 240) (t : Option Nat) (s : State) : Stored s (putPanelDeadline k t s) :=
  stored_slots

theorem startPanelDeadline_stored (k : Fin 240) (s : State) : Stored s (startPanelDeadline k s) :=
  Stored.ite (putPanelDeadline_stored k _ s) (Stored.refl s)

theorem expirePanelDeadline_stored (k : Fin 240) (s : State) : Stored s (expirePanelDeadline k s) := by
  have h := (putPanelDeadline_stored k none s).trans (raiseFault_told .panelSignalStale (slotSource k) _).stored
  exact Stored.ite (Stored.ite (h.trans (silence_stored k _)) h) (Stored.refl s)

theorem signalWritten_stored (k : Fin 240) (v : Int) (s : State) : Stored s (signalWritten k v s) :=
  ((storeValue_stored k v v s).trans (clearFault_told _ _ _).stored).trans (startPanelDeadline_stored k _)

theorem deliverPulse_stored (i : Fin 4) (q : Quantity) (r : Option Nat) (s : State) :
    Stored s (deliverPulse i q r s) := by
  refine Stored.each (fun k s => ?_) s
  refine Stored.ite ?_ (Stored.refl s)
  split
  · exact storeValue_stored _ _ _ _
  · exact changeSlot_stored _ _ _ _

theorem writeInputSlot_stored (k : Fin 240) (s : State) : Stored s (writeInputSlot k s) := by
  unfold writeInputSlot
  simp only
  split
  · exact storeValue_stored _ _ _ _
  · exact Stored.refl s

theorem deliverInput_stored (l : Fin 24) (s : State) : Stored s (deliverInput l s) :=
  Stored.each (fun _ _ => Stored.ite (writeInputSlot_stored _ _) (Stored.refl _)) s

theorem emptySlot_stored (k : Fin 240) (zero : Bool) (s : State) : Stored s (emptySlot k zero s) :=
  (putRec_stored k _ s).trans (changeSlot_stored _ _ _ _)

theorem stampSlot_stored (k : Fin 240) (s : State) : Stored s (stampSlot k s) := putRec_stored k _ s

theorem fillSlots_stored (s : State) : Stored s (fillSlots s) :=
  (Stored.each writeInputSlot_stored s).trans (Stored.each startPanelDeadline_stored _)

theorem noPanelDeadlines_stored (s : State) : Stored s (noPanelDeadlines s) := stored_slots

theorem emptySlots_stored (zero : Bool) (s : State) :
    Stored s (each 240 (fun k s => stampSlot k (emptySlot k zero s)) s) :=
  Stored.each (fun k s => (emptySlot_stored k zero s).trans (stampSlot_stored k _)) s

theorem startSlots_stored (s : State) : Stored s (startSlots s) :=
  ((noPanelDeadlines_stored s).trans (emptySlots_stored true _)).trans
    ((clearCodes_told isSlotFault _).stored.trans (fillSlots_stored _))

theorem stopSlots_stored (s : State) : Stored s (stopSlots s) :=
  ((noPanelDeadlines_stored s).trans (clearCodes_told isSlotFault _).stored).trans (emptySlots_stored false _)

theorem wakeSlots_stored (s : State) : Stored s (wakeSlots s) := by
  have h : Stored s (each 240 (fun k s =>
      if s.descs[k].kind = .frame ∨ s.descs[k].kind = .panel then emptySlot k false s else s) s) :=
    Stored.each (fun _ _ => Stored.ite (emptySlot_stored _ _ _) (Stored.refl _)) s
  exact Stored.trans (Stored.ite (h.trans (fillSlots_stored _)) h) stored_slots

end Sys2Proof.Machine
end

