-- ==== Sys2Proof/Tests/Slice0.lean ====
section
/-! SUPPORT. Tests. First, for every statement of Certificates/Slice0/Obligations.lean that has hypotheses, a theorem
`test_witness_<Statement>` shows states and operands that meet them, clause by clause and at the ends of their ranges.
Then an ill-formed term for each check of WellFormed.lean, the worked cases of the manual, and single steps. -/

namespace Sys2Proof.Tests

open Machine

/- The tests wait on the kernel one after another; read in the background, each would hold a thread of its own. -/
set_option Elab.async false

/-! ### Helper states -/

/-- The state after a power-on reset. -/
def su : State := State.reset

/-- RUN and ACTIVE, settled, with the drive permit that no enabled door withholds. -/
def rn : State :=
  { su with mode := .run, stage := 6, drivePermit := true, slots := vput su.slots slotDrivePermit (.internal 1 .valid) }

/-- PARKED in RUN. -/
def pk : State := { su with mode := .run, power := .parked }

/-- Every port enabled and ONLINE in `rn`. -/
def openPort : PortUnit :=
  { PortUnit.initial with entry := { PortEntry.initial with enabled := true }, state := .online }

def net : State := { rn with ports := Vector.replicate 3 openPort }

def frameA : Frame := { format := .base, id := 2047, data := [1, 2, 3] }

def panelFrame (joined : Nat) (onBus : Bool) : QueuedFrame :=
  { frame := frameA, key := arbitrationKey frameA, joined := joined, origin := .panel, onBus := onBus }

/-- An egress queue of `n` responses. -/
def responses (n : Nat) : List EgressFrame := List.replicate n (.response 7 8 .ok .none)

def withEgress (s : State) (q : List EgressFrame) : State := { s with link := { s.link with egress := q } }

def withSlot (s : State) (k : Fin 256) (v : Int) : State := { s with slots := vput s.slots k (.internal v .valid) }

def withPort (s : State) (p : Fin 3) (u : PortUnit) : State := { s with ports := vput s.ports p u }

def withMatch (s : State) (e : Fin 128) (u : MatchUnit) : State := { s with matchTable := vput s.matchTable e u }

def withDesc (s : State) (k : Fin 240) (d : SlotDesc) : State := { s with descs := vput s.descs k d }

def withPulse (s : State) (i : Fin 4) (u : PulseUnit) : State := { s with pulses := vput s.pulses i u }

def withGauge (s : State) (g : Fin 6) (u : GaugeUnit) : State := { s with gauges := vput s.gauges g u }

def withCond (s : State) (c : Fin 96) (u : CondUnit) : State := { s with conds := vput s.conds c u }

def withTelltale (s : State) (t : Fin 64) (u : TelltaleUnit) : State := { s with telltales := vput s.telltales t u }

def withInput (s : State) (l : Fin 24) (u : InputUnit) : State := { s with inputs := vput s.inputs l u }

def withOutput (s : State) (l : Fin 16) (u : OutputUnit) : State := { s with outputs := vput s.outputs l u }

def withLamp (s : State) (k : Fin 8) (u : LampUnit) : State := { s with lamps := vput s.lamps k u }

def withDoor (s : State) (d : Fin 4) (u : DoorUnit) : State := { s with doors := vput s.doors d u }

def withChime (s : State) (r : Fin 70) (p : Option Nat) (g : Option Grant) : State :=
  { s with chime := { s.chime with pending := vput s.chime.pending r p, grant := g } }

def withRecord (s : State) (p : Fin 40) (r : FaultRecord) : State :=
  { s with faults := { s.faults with memory := vput s.faults.memory p (some r) } }

/-- RUN at standstill, ignition on, with the parking brake slot 0 holding 1. -/
def braked : State :=
  { withSlot (withSlot net slotStandstill 1) 0 1 with
    system := { SystemEntry.initial with parkingBrake := some 0 },
    ignition := { su.ignition with accepted := true, first := true } }

/-- Door 0 enabled and CLOSED_LOCKED in RUN with the speed VALID and 0. -/
def doors : State :=
  withDoor (withSlot rn slotVehicleSpeed 0) 0
    { DoorUnit.initial with entry := { DoorEntry.initial with enabled := true }, state := .closedLocked }

def isNext (o : Host.Outcome State Fault Refusal) (p : State → Bool) : Bool :=
  match o with
  | .next t => p t
  | _ => false

/-! ### Witnesses -/

theorem test_witness_RequestIsServedAtArrival :
    Instr.request? (.heartbeat 0 7) = some (7, .heartbeat) ∧ su.serving = true ∧
      (withEgress su (responses 30)).serving = true ∧ (withEgress su (responses 31)).serving = false := by
  decide +kernel

theorem test_witness_RequestPayloadRoundTrip :
    (Request.txFrame 255 255 4294967295 (List.replicate 112 0)).wellFormed = true ∧
      (requestPayload (.txFrame 255 255 4294967295 (List.replicate 112 0))).isSome = true ∧
      (Request.signalWrite 255 (-2147483648)).wellFormed = true ∧
      (requestPayload (.signalWrite 255 (-2147483648))).isSome = true ∧
      (Request.tableWriteGauge 255 (some GaugeEntry.initial)).wellFormed = true ∧
      (requestPayload (.tableWriteGauge 255 (some GaugeEntry.initial))).isSome = true := by
  decide +kernel

theorem test_witness_FramesAreServedOrCounted :
    Request.wellFormed .heartbeat = true ∧ requestPayload .heartbeat = some [8] ∧ su.serving = true ∧
      su.resetLow = false ∧ 120 < (121 : Byte).toNat ∧ (0 : BitVec 16) ≠ frameCrc 1 7 [8] ∧ (2 : Byte) ≠ 1 ∧
      su.power = .active ∧ (0xA4 : Byte) ≠ 0xA5 ∧ (List.replicate 120 (0xA5 : Byte)).length ≤ 120 := by
  decide +kernel

theorem test_witness_PlainTableWritesReplaceTheEntry :
    su.serving = true ∧ su.mode = .setup ∧
      speedFields { SpeedEntry.initial with primary := some 239, fallback := some 0, standstill := 1 } = true ∧
      speedSlots { SpeedEntry.initial with primary := some 239, fallback := some 0, standstill := 1 } = true ∧
      pulseFields { PulseEntry.initial with minPeriod := 100000 } = true ∧
      doorFields { DoorEntry.initial with openMax := 500, reversalLimit := 5 } = true ∧
      serviceFields { ServiceEntry.initial with requestId := 2047, spacing := 50 } = true ∧
      (1704 : Nat) ≠ 2047 ∧ su.service.response = none ∧
      systemFields { SystemEntry.initial with runOnTime := 5 } = true ∧ su.service.test = none ∧
      generalFields 1 (Vector.replicate 6 (some 255)) = true ∧ confirmOk .frameMissing 10000 = true ∧
      confirmOk .gaugeHome 0 = true ∧ su.faults.live = [] := by
  decide +kernel

theorem test_witness_PortWriteTakesUpTheRecord :
    su.serving = true ∧ su.mode = .setup ∧ portFields { PortEntry.initial with maxAge := 10, quietTime := 1000 } ∧
      (withPort su 0 { PortUnit.initial with state := .off }).serving = true := by
  decide +kernel

theorem test_witness_MatchAndSlotWritesStartAfresh :
    su.serving = true ∧ su.mode = .setup ∧ matchFields { MatchEntry.initial with id := 2047, minLength := 8 } = true ∧
      slotFields { SlotDesc.initial with kind := .panel, num := -32768, den := 65535 } = true ∧
      slotLimits { SlotDesc.initial with min := 0, max := 0 } = true ∧
      (withMatch su 127 { MatchUnit.initial with entry := { MatchEntry.initial with minLength := 8 } }).frameFits
        { SlotDesc.initial with kind := .frame, sourceEntry := 127, startBit := 63, length := 1 } = true := by
  decide +kernel

/-- An input line that is high and whose accepted level is low. -/
def highInput : InputUnit := { entry := InputEntry.initial, line := true, accepted := false, pending := none }

theorem test_witness_LineTableWritesReplaceTheEntry :
    su.serving = true ∧ su.mode = .setup ∧
      inputFields { function := .door .closeRequest 3, polarity := .activeLow, debounce := 500 } = true ∧
      su.functionHeld 23 (.door .closeRequest 3) = false ∧
      su.inputs[(23 : Fin 24)].line = su.inputs[(23 : Fin 24)].accepted ∧
      (withInput su 23 highInput).serving = true ∧ highInput.line ≠ highInput.accepted ∧
      outputFields { source := .doorOpen 3, polarity := .normal, direct := .doorOpen 3 } = true ∧
      safetyOk 8 { source := .doorOpen 3, polarity := .normal, direct := .doorOpen 3 } = true := by
  decide +kernel

theorem test_witness_WarningTableWritesTakeEffect :
    rn.serving = true ∧ rn.mode = .run ∧ gaugeFields { GaugeEntry.initial with enabled := true, source := 240 } = true ∧
      rn.noSource 240 = false ∧ gaugeFields GaugeEntry.initial = true ∧
      rn.gauges[(5 : Fin 6)].entry.enabled = false ∧
      (withGauge rn 0 { GaugeUnit.initial with
        entry := { GaugeEntry.initial with enabled := true }, state := .tracking }).serving = true ∧
      condFields { CondEntry.initial with enabled := true, slot := 255, gate := none } = true ∧
      rn.condReferences 95 { CondEntry.initial with enabled := true, slot := 255 } = true ∧
      su.condReferences 0 { CondEntry.initial with gate := some 95 } = true ∧ su.settled = true ∧
      rn.settled = true ∧ telltaleFields { TelltaleEntry.initial with condition := 95, chime := some 7 } = true ∧
      chimeFields { ChimePattern.initial with onTime := 10, repeats := 255, priority := 7 } = true := by
  decide +kernel

theorem test_witness_RefusedTableWritesChangeNothing :
    requestCode (.tableWritePort 3 none) = 1 ∧ (serveRequest (.tableWritePort 3 none) su).result ≠ .ok ∧
      rn.serving = true ∧ rn.mode = .run := by
  decide +kernel

theorem test_witness_TableReadReturnsTheEntry :
    su.serving = true ∧ ((su.noted 0).entryData .faultCfg 21).isSome = true ∧
      ((su.noted 0).entryData .slot 255).isSome = true ∧ (su.noted 0).entryData .faultCfg 22 = none := by
  decide +kernel

/-- SETUP with the diagnostic port N2 enabled: every table is consistent. -/
def ready : State := { su with ports := vput su.ports 2 openPort }

/-- SETUP with an enabled match entry that applies to no port (R17). -/
def unready : State := withMatch su 0 { MatchUnit.initial with entry := { MatchEntry.initial with enabled := true } }

/-- A condition that is true while a slot holds a value. -/
def whileSlot (slot : Nat) (v : Int) : CondUnit :=
  { CondUnit.initial with
    entry := { CondEntry.initial with enabled := true, slot := slot, comparator := .equal, threshold := v } }

def telltaleOf (c : Nat) (st : TelltaleState) : TelltaleUnit :=
  { entry := { TelltaleEntry.initial with enabled := true, condition := c, latch := true }, state := st }

/-- `ready` with telltale 0 on DRIVE_PERMIT 0, and telltale 63 on DRIVE_PERMIT 1. -/
def readyTelltales : State :=
  withTelltale (withTelltale (withCond (withCond ready 0 (whileSlot 250 0)) 95 (whileSlot 250 1)) 0
    (telltaleOf 0 .dark)) 63 (telltaleOf 95 .dark)

theorem test_witness_StartTakesUpRun :
    ready.serving = true ∧ ready.mode = .setup ∧ ready.startCheck = none ∧ unready.serving = true ∧
      unready.mode = .setup ∧ unready.startCheck = some (.matchTable, 0) ∧
      rn.serving = true ∧ rn.mode = .run ∧ readyTelltales.serving = true ∧ readyTelltales.mode = .setup ∧
      readyTelltales.startCheck = none ∧ readyTelltales.ignition.accepted = false ∧
      readyTelltales.telltales[(63 : Fin 64)].entry.condition = (95 : Fin 96).val ∧
      readyTelltales.telltales[(63 : Fin 64)].state = .dark := by
  decide +kernel

theorem test_witness_StopLeavesRun : rn.serving = true ∧ rn.mode = .run ∧ su.serving = true ∧ su.mode = .setup := by
  decide +kernel

theorem test_witness_StatusAndFlagRequests :
    su.serving = true ∧ (0x0FFF : BitVec 16).extractLsb' 12 4 = 0 ∧ (0x1000 : BitVec 16).extractLsb' 12 4 ≠ 0 := by
  decide +kernel

theorem test_witness_ReadingRequestsChangeNothing :
    su.serving = true ∧ 1 ≤ 14 ∧ 14 ≤ 14 ∧ 114 + 14 ≤ 128 ∧ 14 < 15 ∧ 128 < 115 + 14 ∧ 5 < 6 ∧
      (256 : Nat) ≤ 256 ∧ (40 : Nat) ≤ 40 := by
  decide +kernel

theorem test_witness_DistanceRequests :
    su.serving = true ∧ su.mode = .setup ∧ su.belowMemory 0 = false ∧ rn.serving = true ∧ rn.mode = .run ∧
      (withRecord su 39 { (default : FaultRecord) with lastDistance := 4294967295 }).belowMemory 4294967294 = true := by
  decide +kernel

theorem test_witness_RestartKeepsTheRetainedArea :
    su.serving = true ∧ ({ su with resetLow := true } : State).resetLow = true ∧
      ({ su with link := { su.link with restarting := true, egress := [.response 7 9 .ok .none] } } : State).awake =
        true := by
  decide +kernel

/-- PARKED in RUN, door 3 enabled, with a change pending on line 23 since 0 µs. -/
def parkedLine (f : InputFunction) : State :=
  withInput
    (withDoor pk 3
      { DoorUnit.initial with entry := { DoorEntry.initial with enabled := true }, state := .closedLocked })
    23
    { entry := { function := f, polarity := .activeHigh, debounce := 500 }, line := true, accepted := false,
      pending := some 0 }

theorem test_witness_WakeSourcesWakeAParkedPart :
    pk.resetLow = false ∧ pk.power = .parked ∧ pk.ignition.accepted = false ∧
      Instr.request? (.heartbeat 0 7) = some (7, .heartbeat) ∧ Request.heartbeat ≠ Request.wake ∧
      (withGauge pk 5 { GaugeUnit.initial with entry := { GaugeEntry.initial with enabled := true } }).power = .parked ∧
      ({ openPort.entry with wakeEnabled := true } : PortEntry).enabled = true ∧
      (pk.ports[(0 : Fin 3)].entry.enabled && pk.ports[(0 : Fin 3)].entry.wakeEnabled) = false ∧
      (let s : State := { pk with ignition := { pk.ignition with first := true, pending := some 0 } }
       s.resetLow = false ∧ s.power = .parked ∧ s.ignition.first = true ∧ s.ignition.accepted = false ∧
         s.ignition.pending = some 0 ∧ 0 + 50000 ≤ s.now + 50000) ∧
      (parkedLine (.door .closed 3)).resetLow = false ∧ (parkedLine (.door .closed 3)).power = .parked ∧
      (parkedLine (.door .closed 3)).inputs[(23 : Fin 24)].pending = some 0 ∧ 0 + 1000 * 500 ≤ pk.now + 500000 ∧
      (parkedLine (.door .closed 3)).inputs[(23 : Fin 24)].entry.function = .door .closed 3 ∧
      (parkedLine (.door .closed 3)).doors[(3 : Fin 4)].entry.enabled = true ∧ pk.mode = .run ∧
      (parkedLine .ackButton).inputs[(23 : Fin 24)].entry.function = .ackButton := by
  decide +kernel

theorem test_witness_EgressHeadLeaves :
    (withEgress su (responses 32)).awake = true ∧ (withEgress su (responses 32)).link.restarting = false ∧
      su.link.ingress = [] ∧ (responses 30).length < 31 ∧
      (EgressFrame.report 255 su.report).payload.length ≤ 120 ∧
      (EgressFrame.response 7 5 .ok (.status su.status)).payload.length ≤ 120 ∧
      (withEgress { su with link := { su.link with ingress := [{ tag := 9, request := .heartbeat }] } }
        (responses 31)).awake = true := by
  decide +kernel

theorem test_witness_ReportJoinsOrReplaces :
    su.resetLow = false ∧ su.link.reportTimer = some 100000 ∧ 100000 ≤ su.now + 100000 ∧
      hasUnsentReport su.link.egress = false ∧
      hasUnsentReport (responses 1 ++ [.report 0 su.report]) = true := by
  decide +kernel

theorem test_witness_PanelLossAndRestoration :
    su.awake = true ∧ su.link.timer = some 500000 ∧ 500000 ≤ su.now + 500000 ∧ su.hasRoom = true ∧
      ({ su with link := { su.link with lost := true, timer := none } } : State).awake = true ∧
      su.link.restarting = false ∧ su.link.ingress = [] ∧ (responses 30).length < 31 := by
  decide +kernel

/-- RUN with slots 0 and 239 written by the host. -/
def hostSlots : State :=
  withDesc (withDesc rn 0 { SlotDesc.initial with kind := .panel, panelTimeout := 10, min := 0, max := 9 }) 239
    { SlotDesc.initial with kind := .panel, policy := .default }

theorem test_witness_SignalWriteStoresTheLimitedValue :
    hostSlots.serving = true ∧ hostSlots.mode = .run ∧ hostSlots.descs[(0 : Fin 240)].kind = .panel ∧
      hostSlots.descs[(239 : Fin 240)].kind = .panel ∧ hostSlots.descs[(1 : Fin 240)].kind ≠ .panel ∧
      su.serving = true ∧ su.mode = .setup ∧ (240 : Nat) ≤ 240 := by
  decide +kernel

theorem test_witness_ExtractionAndRounding :
    fitsLength { SlotDesc.initial with startBit := 32, length := 32 } 8 = true ∧
      fitsLength { SlotDesc.initial with order := .big, startBit := 7, length := 32 } 4 = true ∧ 0 < 1 := by
  decide +kernel

/-- RUN with entry 0 AWAITING until 1,000 µs and slot 0, sourced from it, VALID; panel slot 1 VALID until then too. -/
def watched (policy : Substitution) : State :=
  let s := withMatch rn 0 { MatchUnit.initial with supervision := .awaiting 1000 }
  let s := withDesc s 0 { SlotDesc.initial with kind := .frame, policy := policy, default := 5 }
  let s := withDesc s 1 { SlotDesc.initial with kind := .panel, policy := policy, default := 5 }
  { withSlot (withSlot s 0 3) 1 4 with panelDeadlines := vput rn.panelDeadlines 1 (some 1000) }

theorem test_witness_SilenceMakesSlotsStale :
    (watched .hold).awake = true ∧ (watched .hold).matchTable[(0 : Fin 128)].supervision = .awaiting 1000 ∧
      1000 ≤ (watched .hold).now + 1000 ∧ (watched .hold).hasRoom = true ∧
      (watched .hold).descs[(0 : Fin 240)].kind = .frame ∧ (watched .hold).descs[(0 : Fin 240)].sourceEntry = 0 ∧
      ((watched .hold).record 0).state = .valid ∧ (watched .hold).descs[(0 : Fin 240)].policy = .hold ∧
      (watched .default).descs[(0 : Fin 240)].policy = .default ∧
      (watched .hold).panelDeadlines[(1 : Fin 240)] = some 1000 ∧ ((watched .default).record 1).state = .valid := by
  decide +kernel

theorem test_witness_ControllerStatesMoveThePort :
    net.awake = true ∧ net.ports[(2 : Fin 3)].state = .online ∧ net.ports[(2 : Fin 3)].open_ = true ∧
      net.hasRoom = true ∧ net.service.entry.port = 2 ∧
      ({ openPort with state := .passive } : PortUnit).open_ = true ∧
      (withPort net 0 { openPort with state := .off, recovering := true }).awake = true ∧
      openPort.entry.quietTime ≠ 0 ∧
      (withPort net 0 { openPort with state := .off, quiet := some 100000 }).ports[(0 : Fin 3)].quiet = some 100000 ∧
      100000 ≤ net.now + 100000 := by
  decide +kernel

def dataFrame : RxFrame := { remote := false, format := .base, id := 256, lengthCode := 3, data := [1, 2, 3] }

/-- Every member of a forward set. -/
def everyone : ForwardSet := { ports := { n0 := true, n1 := true, n2 := true }, panel := true }

def takingEntry : MatchEntry :=
  let ports : PortSet := { n0 := true, n1 := false, n2 := false }
  { MatchEntry.initial with enabled := true, ports := ports, id := 256, mask := 2047 }

theorem test_witness_ReceivedFramesAreClassified :
    net.awake = true ∧ net.ports[(0 : Fin 3)].open_ = true ∧ dataFrame.remote = false ∧ net.mode = .run ∧
      net.diverts 0 (takenFrame dataFrame) = false ∧ entryTakes takingEntry 0 (takenFrame dataFrame) = true ∧
      entryTakes MatchEntry.initial 0 (takenFrame dataFrame) = false ∧
      (∀ e : Fin 128, entryTakes net.matchTable[e].entry 0 (takenFrame dataFrame) = false) ∧
      net.ports[(0 : Fin 3)].entry.defaultAction = .drop ∧
      (let e : MatchEntry := { takingEntry with decode := true, minLength := 3, forward := everyone }
       let d : SlotDesc := { SlotDesc.initial with kind := .frame, sourceEntry := 127, length := 2, reserved := true }
       let s : State := withDesc (withMatch (withEgress net (responses 27)) 127 { MatchUnit.initial with entry := e })
         239 d
       s.awake = true ∧ s.diverts 0 (takenFrame dataFrame) = false ∧
         entryTakes s.matchTable[(127 : Fin 128)].entry 0 (takenFrame dataFrame) = true ∧
         (∀ j : Fin 128, j < 127 → entryTakes s.matchTable[j].entry 0 (takenFrame dataFrame) = false) ∧
         s.descs[(239 : Fin 240)].kind = .frame ∧ s.descs[(239 : Fin 240)].sourceEntry = 127 ∧ d.reserved = true ∧
         2 ≤ d.length ∧ rawPattern d [3] = 2 ^ d.length - 1 ∧ rawPattern d [2] = 2 ^ d.length - 2 ∧
         rawPattern d (takenFrame dataFrame).data = 1 ∧ everyone.ports.has 2 = true ∧
         s.ports[(2 : Fin 3)].open_ = true ∧ s.ports[(2 : Fin 3)].queue.length < 16 ∧
         s.link.egress.length < 28) ∧
      28 ≤ (responses 28).length ∧ rn.ports[(2 : Fin 3)].open_ = false ∧
      ({ openPort.entry with defaultAction := .panel } : PortEntry).defaultAction = .panel ∧
      ({ dataFrame with remote := true, data := [] } : RxFrame).remote = true := by
  decide +kernel

theorem test_witness_TxFrameJoinsTheQueue :
    net.serving = true ∧ net.mode = .run ∧ 536870911 ≤ Format.maxId .extended ∧ 2047 ≤ Format.maxId .base ∧
      (List.replicate 8 (0 : Byte)).length ≤ 8 ∧ net.ports[(0 : Fin 3)].open_ = true ∧
      (List.replicate 15 (panelFrame 0 false)).length < 16 ∧ 16 ≤ (List.replicate 16 (panelFrame 0 false)).length ∧
      rn.ports[(0 : Fin 3)].open_ = false ∧ ascending (List.replicate 16 (panelFrame 0 false)) = true := by
  decide +kernel

/-- Port N0 of `net` with one queued frame of age 100 ms at 100,000 µs. -/
def queued (onBus : Bool) : State := withPort net 0 { openPort with queue := [panelFrame 0 onBus] }

theorem test_witness_TransmissionsLeaveTheQueue :
    (queued true).awake = true ∧ (queued true).ports[(0 : Fin 3)].open_ = true ∧
      (queued true).ports[(0 : Fin 3)].queue = panelFrame 0 true :: [] ∧ (panelFrame 0 true).origin = .panel ∧
      (panelFrame 0 true).onBus = true ∧ (queued false).ports[(0 : Fin 3)].queue = panelFrame 0 false :: [] ∧
      (panelFrame 0 false).onBus = false ∧
      (panelFrame 0 true).joined + 1000 * openPort.entry.maxAge ≤ net.now + 100000 ∧
      ¬((panelFrame 0 true).joined + 1000 * openPort.entry.maxAge ≤ net.now + 99999) := by
  decide +kernel

/-- A measurement whose line is accepted low, with what a test sets. -/
def meas : PulseMeas :=
  { accepted := false, pending := none, reference := none, count := 0, lastEdge := 0, result := none,
    gateDeadline := none, opposite := none, stuckDeadline := none }

def pulsing (mode : PulseMode) (m : PulseMeas) : State :=
  withPulse (withDesc rn 7 { SlotDesc.initial with kind := .pulse, pulse := 2, quantity := .frequency }) 2
    { entry := { PulseEntry.initial with mode := mode, noise := 200 }, line := false, meas := some m }

theorem test_witness_PulseEdgesAreAcceptedAfterNoiseRejection :
    (pulsing .frequency meas).awake = true ∧ (2 : Fin 4) ≠ 0 ∧
      (pulsing .frequency meas).pulses[(2 : Fin 4)].meas = some meas ∧ true ≠ meas.accepted ∧ meas.pending = none ∧
      (pulsing .frequency meas).pulses[(2 : Fin 4)].entry.noise ≠ 0 ∧
      ({ meas with pending := some 0 } : PulseMeas).pending = some 0 ∧ 0 + 200 ≤ rn.now + 200 ∧
      (pulsing .frequency meas).pulses[(2 : Fin 4)].entry.mode = .frequency ∧
      (let m : PulseMeas := { meas with pending := some 0 }
       let u : SpeedUnit :=
         { rn.speed with entry := { SpeedEntry.initial with source := .pulseP0 }, pulseResidue := 7999,
                         total := 4294967294 }
       let s : State := { withPulse rn 0
         { entry := { PulseEntry.initial with mode := .frequency }, line := true, meas := some m } with speed := u }
       s.awake = true ∧ s.pulses[(0 : Fin 4)].meas = some m ∧ m.pending = some 0 ∧ 0 + 0 ≤ s.now + 0 ∧
         countsEdge s.pulses[(0 : Fin 4)].entry true = true ∧ s.speed.entry.source = .pulseP0 ∧
         s.speed.total + (7999 + 1000) / 8000 ≤ 4294967295) ∧
      countsEdge PulseEntry.initial false = false ∧ rn.speed.entry.source = .speedSlot := by
  decide +kernel

theorem test_witness_PulseResultsAreDelivered :
    let m : PulseMeas := { meas with gateDeadline := some 100000, count := 1, reference := some 5, lastEdge := 5 }
    (pulsing .frequency m).awake = true ∧ (pulsing .frequency m).pulses[(2 : Fin 4)].meas = some m ∧
      m.gateDeadline = some 100000 ∧ 100000 ≤ rn.now + 100000 ∧ m.count ≠ 0 ∧ m.reference = some 5 ∧
      (pulsing .frequency m).descs[(7 : Fin 240)].kind = .pulse ∧
      ({ meas with stuckDeadline := some 100000 } : PulseMeas).stuckDeadline = some 100000 ∧
      (pulsing .duty meas).faults.live.length < 48 ∧
      (let d : PulseMeas := { meas with pending := some 1000, reference := some 0, opposite := some 400 }
       (pulsing .duty d).awake = true ∧ (2 : Fin 4) ≠ 0 ∧ (pulsing .duty d).pulses[(2 : Fin 4)].meas = some d ∧
         1000 + 200 ≤ rn.now + 1200 ∧ (pulsing .duty d).pulses[(2 : Fin 4)].entry.mode = .duty ∧
         countsEdge (pulsing .duty d).pulses[(2 : Fin 4)].entry true = true ∧
         countsEdge { PulseEntry.initial with polarity := .falling } true = false ∧
         100 ≤ 1000 ∧ 1000 ≤ 100000 ∧ meas.reference = none ∧ ¬(100 ≤ 99 ∧ 99 ≤ 100000)) := by
  decide +kernel

/-- RUN with the speed taken from slot 0, else from slot 239, of which the first `n` hold `v` and `w`. -/
def speedSlotsAt (v w : Int) (n : Nat) : State :=
  let d : SlotDesc := { SlotDesc.initial with kind := .panel }
  let s : State := withDesc (withDesc rn 0 d) 239 d
  let s : State := { s with
    speed := { s.speed with entry := { SpeedEntry.initial with primary := some 0, fallback := some 239 } } }
  if n = 0 then s else if n = 1 then withSlot s 239 w else withSlot (withSlot s 239 w) 0 v

theorem test_witness_SpeedTimersExpire :
    let u : SpeedUnit :=
      { rn.speed with mismatch := some 1000, tick := some 1000, total := 4294967294, speedResidue := 3599 }
    let s : State := withSlot { rn with speed := u } slotVehicleSpeed 3600
    s.awake = true ∧ 1000 ≤ s.now + 1000 ∧ s.speed.mismatch = some 1000 ∧ s.hasRoom = true ∧
      s.speed.tick = some 1000 ∧ s.slots[slotVehicleSpeed].state = .valid ∧
      s.slots[slotVehicleSpeed].value = (3600 : Nat) ∧ s.speed.total + (3599 + 3600) / 3600 ≤ 4294967295 ∧
      (let a : State := speedSlotsAt 6000 5300 2
       a.isActive = true ∧ 2 ≤ a.stage ∧ a.speedReading (some 0) = some 6000 ∧ a.speedReading (some 239) = some 5300 ∧
         a.speed.entry.mismatchLimit < distance 6000 5300 ∧
         6000 * a.speed.entry.mismatchPercent < 100 * distance 6000 5300 ∧ a.speed.mismatch = none ∧
         a.isLive .speedMismatch none = false ∧ a.speed.entry.mismatchTime ≠ 0 ∧ a.serving = true ∧
         a.mode = .run ∧ a.settled = true ∧ a.descs[(0 : Fin 240)].kind = .panel ∧
         a.speed.entry.primary = some (0 : Fin 240).val ∧ (a.record 0).value ≠ limited a.descs[(0 : Fin 240)] 99) ∧
      (speedSlotsAt 0 30000 1).speedReading (some 0) = none ∧
      (speedSlotsAt 0 30001 1).speedReading (some 239) = some 30000 ∧
      (speedSlotsAt 0 0 0).speedReading (some 239) = none ∧ (speedSlotsAt 0 0 0).hasRoom = true ∧
      rn.speed.entry.primary = none ∧ (speedSlotsAt 0 0 0).speed.entry.primary.isSome = true := by
  decide +kernel

theorem test_witness_GaugesHomeAndTrack :
    let u : GaugeUnit := { GaugeUnit.initial with
      state := .tracking, motion := some 1000, target := 5, entry := { GaugeEntry.initial with enabled := true } }
    let h : GaugeUnit := { u with state := .homing, attempt := 3, travel := some 1000 }
    let s (v : GaugeUnit) : State := withGauge rn 0 v
    (s u).awake = true ∧ (s u).gauges[(0 : Fin 6)].state = .tracking ∧ u.sweep = none ∧ u.motion = some 1000 ∧
      1000 ≤ rn.now + 1000 ∧ (s h).gauges[(0 : Fin 6)].state = .homing ∧ h.travel = some 1000 ∧ 3 ≤ h.attempt ∧
      ({ h with attempt := 2 } : GaugeUnit).attempt < 3 ∧ (s h).hasRoom = true ∧
      (s { u with sweep := some 0 }).gauges[(0 : Fin 6)].sweep = some 0 ∧ u.state ≠ .homing := by
  decide +kernel

/-- Condition 95 in a state with a deadline at 1,000 µs, and telltale 63 of it in a state. -/
def waiting (c : CondState) (t : TelltaleState) : State :=
  withTelltale (withCond rn 95 { CondUnit.initial with state := c, deadline := some 1000 }) 63
    { entry := { TelltaleEntry.initial with enabled := true, condition := 95, latch := true }, state := t }

/-- RUN with slot 0 written by the host, and condition 95 on it. -/
def hostCondition : State :=
  withCond hostSlots 95 { CondUnit.initial with
    entry := { CondEntry.initial with enabled := true, comparator := .below, threshold := 5, hysteresis := 3 } }

theorem test_witness_ConditionsAreEvaluatedAndDelayed :
    (waiting .arming .dark).awake = true ∧ (waiting .arming .dark).mode = .run ∧
      (waiting .arming .dark).settled = true ∧ (waiting .arming .dark).conds[(95 : Fin 96)].entry.gate ≠ some 95 ∧
      (waiting .arming .dark).conds[(95 : Fin 96)].deadline = some 1000 ∧ 1000 ≤ rn.now + 1000 ∧
      (waiting .arming .dark).conds[(95 : Fin 96)].state = .arming ∧
      (waiting .arming .dark).telltales[(63 : Fin 64)].entry.enabled = true ∧
      (waiting .arming .dark).telltales[(63 : Fin 64)].entry.condition = 95 ∧
      (waiting .releasing .litNew).conds[(95 : Fin 96)].state = .releasing ∧
      (let g : CondUnit := { whileSlot 242 0 with entry := { (whileSlot 242 0).entry with gate := some 95 } }
       (withCond (waiting .arming .dark) 0 g).conds[(0 : Fin 96)].entry.enabled = true ∧
         (withCond (waiting .arming .dark) 0 g).conds[(0 : Fin 96)].entry.gate = some 95) ∧
      rn.awake = true ∧ rn.conds[(95 : Fin 96)].deadline = none ∧
      (rn.slot 242).state.usable = true ∧ (rn.slot 0).state.usable = false ∧
      hostCondition.serving = true ∧ hostCondition.mode = .run ∧ hostCondition.settled = true ∧
      hostCondition.descs[(0 : Fin 240)].kind = .panel ∧
      hostCondition.conds[(95 : Fin 96)].entry.enabled = true ∧
      hostCondition.conds[(95 : Fin 96)].entry.slot = (0 : Fin 240).val ∧
      hostCondition.conds[(95 : Fin 96)].entry.comparator ≠ .faultActive ∧
      hostCondition.conds[(95 : Fin 96)].entry.gate = none ∧ (hostCondition.record 0).state ≠ .valid := by
  decide +kernel

theorem test_witness_LinesFollowTheirSources :
    rn.awake = true ∧ ({ rn with bulb := some 1000 } : State).awake = true ∧ 1000 ≤ rn.now + 1000 ∧
      rn.settled = true ∧ rn.mode = .run ∧ rn.power = .active ∧ su.settled = true ∧ su.mode = .setup ∧
      pk.settled = true ∧ pk.power = .parked := by
  decide +kernel

/-- R117: under DIRECT an INVERTED line follows its direct source OFF, and a lamp line under test is on all the same;
in SETUP it is not. -/
theorem test_line_demand :
    let e : OutputEntry := { source := .on, polarity := .inverted, direct := .off }
    let s : State := { rn with outputs := vmap (fun u => { u with entry := e }) rn.outputs }
    let held : State := { s with service := { s.service with test := some { unit := .line 7, deadline := 1 } } }
    s.lineActive 15 = false ∧ ({ s with direct := true } : State).lineActive 15 = true ∧ held.lineActive 7 = true ∧
      held.lineActive 6 = false ∧ ({ held with mode := .setup, stage := 0 } : State).lineActive 7 = false := by
  decide +kernel

theorem test_witness_WarningAckActsOnTheHighestClass :
    rn.serving = true ∧ rn.ackClass = none ∧ (waiting .releasing .litNew).serving = true ∧
      (waiting .releasing .litNew).ackClass = some .notice := by
  decide +kernel

theorem test_witness_ChimeRequestsAreArbitrated :
    let s : State := withChime rn 69 (some 7) none
    rn.serving = true ∧ rn.mode = .run ∧ 7 ≤ 7 ∧ su.mode = .setup ∧ su.serving = true ∧ 8 ≤ 8 ∧
      s.bestRequest = some (69, 7) ∧ s.chime.pending[panelRequester] ≠ none ∧
      rn.chime.pending[panelRequester] = none ∧ rn.bestRequest = none := by
  decide +kernel

theorem test_witness_ChimeCyclesPlay :
    let g : Grant := { requester := 69, sounding := true, left := 2, deadline := 1000 }
    let s : State := withChime rn 69 (some 7) (some g)
    s.awake = true ∧ s.chime.grant = some g ∧ g.deadline ≤ s.now + 1000 ∧ s.chime.pending[g.requester] = some 7 ∧
      g.sounding = true ∧ ({ g with sounding := false } : Grant).sounding = false ∧ 2 ≤ g.left ∧
      (s.pattern 7).repeats ≠ 0 ∧ ({ g with left := 1 } : Grant).left ≤ 1 := by
  decide +kernel

/-- Line 23 with a pending change that began at 0 µs. -/
def pressing (f : InputFunction) : State :=
  withInput rn 23
    { entry := { function := f, polarity := .activeHigh, debounce := 500 }, line := true, accepted := false,
      pending := some 0 }

theorem test_witness_InputLinesAreDebounced :
    rn.awake = true ∧ true ≠ rn.inputs[(23 : Fin 24)].accepted ∧ rn.inputs[(23 : Fin 24)].pending = none ∧
      rn.inputs[(23 : Fin 24)].entry.debounce ≠ 0 ∧ (pressing .unused).inputs[(23 : Fin 24)].pending = some 0 ∧
      0 + 1000 * 500 ≤ rn.now + 500000 ∧ (pressing .unused).inputs[(23 : Fin 24)].entry.function = .unused ∧
      (pressing .stopRequest).inputs[(23 : Fin 24)].entry.function = .stopRequest ∧
      (pressing .stopRequest).inputs[(23 : Fin 24)].entry.polarity = .activeHigh ∧
      (pressing .stopRequest).inputs[(23 : Fin 24)].accepted = false ∧ (pressing .stopRequest).mode = .run ∧
      (pressing .stopRequest).stopLatch = false ∧
      (withTelltale (pressing .ackButton) 0 (telltaleOf 0 .litNew)).ackClass = some .notice ∧
      (pressing .ackButton).ackClass = none ∧ (pressing .ackButton).inputs[(23 : Fin 24)].entry.function = .ackButton ∧
      (let s : State := withDesc (pressing .generic) 239 { SlotDesc.initial with kind := .input, line := 23 }
       s.inputs[(23 : Fin 24)].entry.function = .generic ∧ s.mode = .run ∧
         s.descs[(239 : Fin 240)].kind = .input ∧ s.descs[(239 : Fin 240)].line = 23) ∧
      ({ pressing .generic with mode := .setup } : State).awake = true := by
  decide +kernel

/-- RUN with door 3 enabled, in a state under switch levels, and a change pending on line 23, its function `f`, from the
level `accepted`. -/
def doorLine (st : DoorState) (levels : DoorLevels) (f : DoorFunction) (accepted : Bool) : State :=
  withInput
    (withDoor (withSlot rn slotVehicleSpeed 0) 3 { DoorUnit.initial with
      entry := { DoorEntry.initial with enabled := true }, state := st, levels := levels })
    23
    { entry := { function := .door f 3, polarity := .activeHigh, debounce := 500 }, line := !accepted,
      accepted := accepted, pending := some 0 }

def noLevel : DoorLevels := DoorLevels.inactive

theorem test_witness_InputLinesAreDebounced_doors :
    let s := doorLine .closedLocked { noLevel with closed := true, locked := true } .locked true
    s.awake = true ∧ s.mode = .run ∧ s.inputs[(23 : Fin 24)].entry.function = .door .locked (3 : Fin 4).val ∧
      s.inputs[(23 : Fin 24)].pending = some 0 ∧
      0 + 1000 * s.inputs[(23 : Fin 24)].entry.debounce ≤ s.now + 500000 ∧ s.hasRoom = true ∧
      (noLevel.set .closed true).openEnd = false ∧
      ({ noLevel with openEnd := true }.set .closed true : DoorLevels).closed = true ∧
      ({ noLevel with openEnd := true }.set .closed true : DoorLevels).openEnd = true ∧
      ({ noLevel with locked := true }.set .closed true : DoorLevels).locked = true ∧
      (doorLine .closing noLevel .obstruction false).doors[(3 : Fin 4)].state = .closing ∧
      ¬((3 : Nat) < bump8 2) ∧ (3 : Nat) < bump8 3 ∧
      (doorLine .fault { noLevel with closed := true, openEnd := true } .openEnd true).doors[(3 : Fin 4)].state =
        .fault ∧
      ({ noLevel with closed := true, openEnd := true }.set .openEnd false : DoorLevels).closed ≠
        ({ noLevel with closed := true, openEnd := true }.set .openEnd false : DoorLevels).openEnd ∧
      (doorLine .emergency { noLevel with emergency := true } .emergency true).doors[(3 : Fin 4)].state = .emergency ∧
      (doorLine .disabled noLevel .closed false).doors[(3 : Fin 4)].state = .disabled := by
  decide +kernel

theorem test_witness_OutputSetDrivesPanelLines :
    let s : State :=
      withOutput rn 15 { entry := { OutputEntry.initial with source := .panel }, panelValue := false, on := false }
    s.serving = true ∧ 1 ≤ 1 ∧ s.outputs[(15 : Fin 16)].entry.source = .panel ∧
      s.outputs[(0 : Fin 16)].entry.source ≠ .panel ∧ s.outputs[(0 : Fin 16)].entry.direct ≠ .panel ∧ 2 ≤ 2 ∧
      8 ≤ (15 : Fin 16).val := by
  decide +kernel

theorem test_witness_LampLinesAreProtected :
    let s (p : Protection) (n : Nat) : State :=
      withOutput (withLamp rn 7 { protection := p, shorts := n, proving := some 1000, openLoad := false }) 7
        { entry := OutputEntry.initial, panelValue := false, on := true }
    (s .normal 2).awake = true ∧ (s .normal 2).hasRoom = true ∧ (s .normal 2).lamps[(7 : Fin 8)].protection = .normal ∧
      (s .normal 2).outputs[lineOfLamp 7].on = true ∧ (s .normal 1).lamps[(7 : Fin 8)].shorts < 2 ∧
      (s (.retryWait 1000) 1).lamps[(7 : Fin 8)].protection = .retryWait 1000 ∧ 1000 ≤ rn.now + 1000 ∧
      (s .normal 2).lamps[(7 : Fin 8)].proving = some 1000 := by
  decide +kernel

theorem test_witness_DoorRequestsAreJudged :
    doors.serving = true ∧ doors.mode = .run ∧ doors.doors[(0 : Fin 4)].entry.enabled = true ∧
      doors.grantsDoor 0 = true ∧ (withSlot doors slotVehicleSpeed 301).grantsDoor 0 = false ∧
      (withSlot doors slotVehicleSpeed 300).grantsDoor 0 = true ∧ DoorAction.release ≠ .close ∧
      doors.doors[(0 : Fin 4)].state ≠ .disabled ∧
      (let s := doorLine .closedLocked { noLevel with closed := true, locked := true } .releaseRequest false
       s.awake = true ∧ s.inputs[(23 : Fin 24)].entry.function = .door .releaseRequest (3 : Fin 4).val ∧
         s.inputs[(23 : Fin 24)].pending = some 0 ∧
         0 + 1000 * s.inputs[(23 : Fin 24)].entry.debounce ≤ s.now + 500000 ∧
         (s.doors[(3 : Fin 4)].levels.closed && s.doors[(3 : Fin 4)].levels.openEnd) = false ∧
         s.grantsDoor 3 = true ∧ (withSlot s slotVehicleSpeed 301).grantsDoor 3 = false) := by
  decide +kernel

theorem test_witness_DoorDeadlineTakesTheDoorToFault :
    let s (st : DoorState) : State :=
      withDoor doors 0 { doors.doors[(0 : Fin 4)] with state := st, deadline := some 1000 }
    (s .opening).awake = true ∧ (s .opening).doors[(0 : Fin 4)].deadline = some 1000 ∧ 1000 ≤ rn.now + 1000 ∧
      (s .opening).doors[(0 : Fin 4)].state = .opening ∧ (s .closing).doors[(0 : Fin 4)].state = .closing ∧
      (s .unlocked).doors[(0 : Fin 4)].state = .unlocked ∧ doors.confirmTime .doorOpenTimeout = 0 ∧
      doors.faults.live.length < 48 ∧ doors.isLive .doorOpenTimeout (some 0) = false := by
  decide +kernel

def liveSpeed : LiveEntry :=
  { code := .speedLost, source := none, since := 0, confirmed := false, deadline := some 500000 }

def faulty : State := { rn with faults := { rn.faults with live := [liveSpeed] } }

/-- A record of another pair than `liveSpeed`. -/
def stored (active : Bool) (severity : Nat) : FaultRecord :=
  { (default : FaultRecord) with source := some 1, active := active, severity := severity }

/-- Fault memory full of one record, but for a later one at position 39. -/
def fullMemory (active : Bool) (severity : Nat) : State :=
  { faulty with faults := { faulty.faults with
      memory := vput (Vector.replicate 40 (some (stored active severity))) 39
        (some { stored active severity with firstCycle := 1 }) } }

theorem test_witness_ConfirmationStoresThePair :
    faulty.awake = true ∧ liveSpeed ∈ faulty.faults.live ∧ liveSpeed.confirmed = false ∧
      liveSpeed.deadline = some 500000 ∧ 500000 ≤ faulty.now + 500000 ∧
      (faulty.recordAt .speedLost none).isSome = false ∧ faulty.emptyPosition.isSome = true ∧
      (fullMemory true 2).recordAt .speedLost none = none ∧ (fullMemory true 2).emptyPosition = none ∧
      liveSpeed ∈ (fullMemory true 2).faults.live ∧ codeSeverity .speedLost = 3 ∧
      (∀ q : Fin 40, q ≠ 39 → (fullMemory true 2).faults.memory[q] = some (stored true 2)) ∧
      (stored true 2).active = true ∧ (stored true 2).severity < 3 ∧ ¬(stored true 3).severity < 3 ∧
      (fullMemory true 3).emptyPosition = none ∧ (fullMemory false 3).emptyPosition = none ∧
      (stored false 3).active = false ∧ (stored false 3).severity ≤ 3 ∧
      faulty.capture.state ≠ .armed ∧
      ({ faulty.capture with state := .armed, code := some .speedLost } : CaptureUnit).state = .armed := by
  decide +kernel

theorem test_witness_FaultClearsEmptyTheMemory :
    braked.serving = true ∧ braked.clearAllowed = true ∧ rn.serving = true ∧ rn.clearAllowed = false ∧
      braked.onAir = true ∧ net.onAir = true ∧ net.clearAllowed = false ∧
      ({ braked with faults := { braked.faults with live := [liveSpeed] } } : State).confirmTime .speedLost ≠ 0 := by
  decide +kernel

theorem test_witness_ServiceReadsAnswer :
    net.onAir = true ∧ 40 ≤ (40 : Byte).toNat ∧ net.faults.memory[(39 : Fin 40)] = none ∧ net.faults.latch = none ∧
      1 ≤ (47 : Byte).toNat ∧ (47 : Byte).toNat ≤ 47 ∧ (81 : Byte).toNat + (47 : Byte).toNat ≤ 128 ∧
      3 ≤ (3 : Byte).toNat ∧ (0 : Byte).toNat = 0 ∧ 47 < (48 : Byte).toNat ∧
      128 < (82 : Byte).toNat + (47 : Byte).toNat ∧
      ({ withRecord net 0 default with faults := { net.faults with latch := some default } } : State).onAir = true ∧
      (withRecord net 0 default).onAir = true := by
  decide +kernel

theorem test_witness_CaptureServicesMoveTheBuffer :
    net.onAir = true ∧ 1 ≤ (7 : Byte).toNat ∧ (7 : Byte).toNat ≤ 7 ∧ (1 : Byte).toNat ≤ 1 ∧
      triggerCode? 255 = some none ∧ (triggerCode? 20).isSome = true ∧ 8 ≤ (8 : Byte).toNat ∧
      (2 : Nat) ≤ (2 : Byte).toNat ∧ 21 ≤ (254 : Byte).toNat ∧ (254 : Byte).toNat ≤ 254 ∧
      net.capture.state ≠ .armed ∧ net.capture.state ≠ .frozen ∧
      ({ net with capture := { net.capture with state := .armed } } : State).onAir = true ∧
      ({ net with capture := { net.capture with state := .frozen } } : State).onAir = true ∧
      (let s : State := { net with mode := .setup, stage := 0 }
       s.awake = true ∧ s.ports[(0 : Fin 3)].open_ = true ∧ dataFrame.remote = false ∧ s.mode = .setup ∧
         s.diverts 0 (takenFrame dataFrame) = false ∧ s.capture.state = .idle) ∧
      everyone.ports.has 0 = true ∧ (List.replicate 255 (default : CaptureRecord)).length < 256 ∧
      (let s : State := withMatch
        { net with capture := { net.capture with state := .armed, ports := everyone.ports, flagged := true } } 0
        { MatchUnit.initial with entry := { takingEntry with capture := true } }
       s.awake = true ∧ s.mode = .run ∧ s.diverts 0 (takenFrame dataFrame) = false ∧
         entryTakes s.matchTable[(0 : Fin 128)].entry 0 (takenFrame dataFrame) = true ∧ s.capture.state = .armed ∧
         s.capture.code = none ∧ s.capture.ports.has 0 = true ∧ s.capture.ring.length < 256 ∧
         s.matchTable[(0 : Fin 128)].entry.capture = true ∧ takingEntry.capture = false) := by
  decide +kernel

theorem test_witness_OutputTestsStartAndEnd :
    let x : OutputTest := { unit := .telltale 63, deadline := 30000000 }
    braked.onAir = true ∧ braked.testUnit? 1 63 = some (.telltale 63) ∧ braked.startConditions = true ∧
      braked.canTest (.telltale 63) = true ∧ braked.testUnit? 1 64 = none ∧ net.startConditions = false ∧
      net.testUnit? 0 5 = some (.gauge 5) ∧ braked.testUnit? 0 5 = some (.gauge 5) ∧
      braked.canTest (.gauge 5) = false ∧ braked.service.test = none ∧
      ({ braked with service := { braked.service with test := some x } } : State).onAir = true ∧
      x.deadline ≤ braked.now + 30000000 := by
  decide +kernel

theorem test_witness_SegmentsCarryTheMessage :
    3 ≤ (List.replicate 3 (0 : Byte)).length ∧ (List.replicate 384 (0 : Byte)).length ≤ 384 ∧
      0 < (384 + 5) / 6 := by
  decide +kernel

def answering : State :=
  let r : Response := { serial := 0, code := 0x10, message := List.replicate 12 1, index := 0, phase := .spacing 5000 }
  { net with service := { net.service with response := some r } }

theorem test_witness_SpacingSendsTheNextSegment :
    answering.awake = true ∧ answering.service.response.isSome = true ∧ 5000 ≤ answering.now + 5000 ∧
      answering.ports[answering.service.entry.port].open_ = true ∧
      answering.ports[answering.service.entry.port].queue.length < 16 ∧
      (let h : QueuedFrame := { panelFrame 0 true with origin := .service 4 }
       let r : Response := { serial := 4, code := 0x10, message := List.replicate 12 1, index := 0, phase := .queued }
       let s : State := withPort { net with service := { net.service with response := some r } } 2
         { openPort with queue := [h] }
       s.awake = true ∧ s.ports[(2 : Fin 3)].queue = h :: [] ∧ h.origin = .service 4 ∧ h.onBus = true ∧
         s.service.response = some r ∧ r.serial = 4 ∧ r.phase = .queued ∧ 6 * (0 + 1) < r.message.length ∧
         r.message.length ≤ 6 * (1 + 1) ∧ h.joined + 1000 * openPort.entry.maxAge ≤ s.now + 100000 ∧
         net.service.response = none) := by
  decide +kernel

theorem test_witness_IgnitionEventsTakeEffect :
    let s (on : Bool) : State :=
      { rn with ignition := { rn.ignition with accepted := on, pending := some 0, first := true } }
    (s false).awake = true ∧ (s false).ignition.first = true ∧ braked.ignition.pending = none ∧
      braked.ignition.first = true ∧ (s false).ignition.accepted = false ∧ (s false).ignition.pending = some 0 ∧
      0 + 50000 ≤ rn.now + 50000 ∧ (s true).ignition.accepted = true ∧ rn.mode = .run ∧ su.awake = true ∧
      su.ignition.first = false ∧ su.ignition.accepted = false ∧ su.ignition.pending = none ∧
      su.ignition.offHold = some 0 ∧ ({ su.ignition with pending := some 0 } : Ignition).pending = some 0 := by
  decide +kernel

theorem test_witness_RunOnExpiryParksOrRestarts :
    let s : State := { rn with runOn := some 5000000 }
    let o : State := withDoor s 0 { DoorUnit.initial with state := .opened }
    s.awake = true ∧ s.runOn = some 5000000 ∧ 5000000 ≤ s.now + 5000000 ∧ s.mayPark = true ∧
      s.link.restarting = false ∧ o.awake = true ∧ o.mayPark = false := by
  decide +kernel

theorem test_witness_CommandsTakeTheirTime : isNext (exec (.heartbeat 5 7) su) (fun t => t.now = 5) = true := by
  decide +kernel

theorem test_witness_TablesChangeByWritesAndResetsOnly :
    isNext (exec (.signalWrite 5 7 0 99) hostSlots) (fun t => (t.record 0).value = 9) = true ∧
      hostSlots.link.ingress = [] ∧ hostSlots.link.restarting = false ∧
      requestCode (parseRequest [0x08]) ≠ 1 := by
  decide +kernel

theorem test_witness_InterlocksAreKept :
    rn.interlocked = true ∧ doors.interlocked = true ∧
      isNext (exec (.doorRequest 5 7 0 (some .release)) doors) (fun t => !t.drivePermit && t.interlocked) = true := by
  decide +kernel

/-- A relay line that follows the drive permit and is on with it. -/
def permitted : State :=
  withOutput rn 8
    { entry := { source := .drivePermit, polarity := .normal, direct := .drivePermit }, panelValue := false,
      on := true }

theorem test_witness_PermitLinesAreOnOnlyWithThePermit :
    permitted.interlocked = true ∧ permitted.relaysSafe = true ∧
      isNext (exec (.flagsClear 5 7 0) permitted) (fun t => t.outputs[(8 : Fin 16)].on && t.relaysSafe) = true := by
  decide +kernel

theorem test_witness_QueuesKeepTheirBounds :
    su.linkBounded = true ∧ (withEgress su (responses 31)).linkBounded = true ∧
      isNext (exec (.heartbeat 5 7) su) (fun t => t.linkBounded) = true ∧
      (∀ p : Fin 3, net.ports[p].queue.length ≤ 16 ∧ ascending net.ports[p].queue = true) ∧
      isNext (exec (.txFrame 5 7 0 0 2047 [1]) net) (fun t => t.ports[(0 : Fin 3)].queue.length = 1) = true := by
  decide +kernel

theorem test_witness_LiveFaultSetKeepsItsBound :
    faulty.liveBounded = true ∧ isNext (exec (.busOff 5 0) net) (fun t => t.isLive .portOff (some 0)) = true := by
  decide +kernel

theorem test_witness_HeldInResetNothingActs :
    isNext (exec (.heartbeat 5 7) { su with resetLow := true }) (fun t => t.link.egress.isEmpty && t.resetLow) =
      true := by
  decide +kernel

/-! ### Well-formedness: each check refuses an ill-formed term -/

theorem test_wf_index_byte : (Instr.tableWritePort 0 7 256 (some PortEntry.initial)).wellFormed = false := by
  decide +kernel

theorem test_wf_field_size :
    (Instr.tableWritePort 0 7 0 (some { PortEntry.initial with maxAge := 65536 })).wellFormed = false := by
  decide +kernel

theorem test_wf_signed_field :
    (Instr.tableWriteSlot 0 7 0 (some { SlotDesc.initial with num := 32768 })).wellFormed = false ∧
      (Instr.tableWriteSlot 0 7 0 (some { SlotDesc.initial with num := -32768 })).wellFormed = true := by
  decide +kernel

theorem test_wf_none_value :
    (Instr.tableWriteSpeed 0 7 0 (some { SpeedEntry.initial with primary := some 255 })).wellFormed = false := by
  decide +kernel

theorem test_wf_plain_source :
    (Instr.tableWriteCondition 0 7 0 (some { CondEntry.initial with source := .num 254 })).wellFormed = false := by
  decide +kernel

theorem test_wf_fault_cfg_index :
    (Instr.tableWriteFaultCfg 0 7 21 (some (.code 0))).wellFormed = false ∧
      (Instr.tableWriteFaultCfg 0 7 20 (some (.general 1 (Vector.replicate 6 none)))).wellFormed = false := by
  decide +kernel

theorem test_wf_bad_table : (Request.badTable 3).wellFormed = false := by decide

theorem test_wf_signal_value : (Instr.signalWrite 0 7 0 2147483648).wellFormed = false := by decide +kernel

theorem test_wf_tx_data : (Instr.txFrame 0 7 0 0 0 (List.replicate 113 0)).wellFormed = false := by decide +kernel

theorem test_wf_received_frame :
    (Instr.frameReceived 0 0 { dataFrame with id := 2048 }).wellFormed = false ∧
      (Instr.frameReceived 0 0 { dataFrame with data := [] }).wellFormed = false ∧
      (Instr.frameReceivedParked 0 0 { dataFrame with remote := true }).wellFormed = false ∧
      (Instr.frameReceived 0 0 dataFrame).wellFormed = true := by
  decide +kernel

theorem test_wf_queue_place : (Instr.queueAgeExpiry 0 0 16).wellFormed = false := by decide

theorem test_wf_fault_pair :
    (Instr.confirmationDeadlineExpiry 0 .frameMissing none).wellFormed = false ∧
      (Instr.confirmationDeadlineExpiry 0 .portOff (some 3)).wellFormed = false ∧
      (Instr.confirmationDeadlineExpiry 0 .speedLost (some 0)).wellFormed = false := by
  decide

theorem test_wf_payload :
    (Instr.panelFrameReceived 0 1 7 (List.replicate 121 0) 0).wellFormed = false ∧
      (Instr.panelLengthAbove120 0 120).wellFormed = false := by
  decide +kernel

/-! ### Worked cases of the manual -/

/-- R185: the CRC over "123456789". -/
theorem test_crc_check_value : crc16 [0x31, 0x32, 0x33, 0x34, 0x35, 0x36, 0x37, 0x38, 0x39] = 0x29B1 := by
  decide +kernel

/-- 00_scope.md 6.5. -/
theorem test_round_half_away : roundDiv 3 2 = 2 ∧ roundDiv (-3) 2 = -2 := by decide +kernel

/-- 1.9.3: the keys of frames A to D. -/
theorem test_arbitration_keys :
    arbitrationKey { format := .base, id := 0x100, data := [] } = 134217728 ∧
      arbitrationKey { format := .extended, id := 0x4000005, data := [] } = 134479877 ∧
      arbitrationKey { format := .base, id := 0x0FF, data := [] } = 133693440 ∧
      arbitrationKey { format := .extended, id := 0x3FC0010, data := [] } = 133955600 := by
  decide +kernel

/-- Table 2.5. -/
theorem test_scaling_cases :
    scaled { SlotDesc.initial with den := 8 } 6699 = 837 ∧
      scaled { SlotDesc.initial with num := 10, offset := -400 } 130 = 900 ∧
      scaled { SlotDesc.initial with num := 4 } 201 = 804 ∧
      readPattern { SlotDesc.initial with signed := true, length := 8 } 253 = -3 ∧
      scaled { SlotDesc.initial with den := 2 } (-3) = -2 ∧ scaled { SlotDesc.initial with den := 2 } 3 = 2 ∧
      scaled SlotDesc.initial 3000000000 = 2147483647 := by
  decide +kernel

/-- 2.5.2. -/
theorem test_extraction_cases :
    rawPattern { SlotDesc.initial with order := .big, startBit := 7, length := 16 } [0x1A, 0x2B] = 6699 ∧
      rawPattern { SlotDesc.initial with startBit := 0, length := 16 } [0x2B, 0x1A] = 6699 ∧
      rawPattern { SlotDesc.initial with order := .big, startBit := 3, length := 12 } [0x0C, 0x35] = 3125 ∧
      rawPattern { SlotDesc.initial with startBit := 4, length := 12 } [0x50, 0xC3] = 3125 ∧
      fitsLength { SlotDesc.initial with order := .big, startBit := 3, length := 12 } 1 = false := by
  decide +kernel

/-- 3.7: the result of 11 edges, and slot 41 from it and from 2,500 mHz; the bounds of a silent line. -/
theorem test_wheel_pulse_speed :
    frequencyOf 11 99000 = 111111 ∧ scaled { SlotDesc.initial with num := 360, den := 8000 } 111111 = 5000 ∧
      scaled { SlotDesc.initial with num := 360, den := 8000 } 2500 = 113 ∧ silenceBound 2000000 = 500 ∧
      silenceBound 2100000 = 476 := by
  decide +kernel

/-- 3.8: 700 at 6,000 is a mismatch, a difference of exactly 500 is none. -/
theorem test_mismatch_limits :
    speedsMismatch SpeedEntry.initial (some 6000) (some 5300) = true ∧
      speedsMismatch SpeedEntry.initial (some 6100) (some 5600) = false := by
  decide +kernel

/-- 4.10.1 and 4.10.2. -/
theorem test_gauge_points :
    let coolant : GaugeEntry := { GaugeEntry.initial with
      fullScale := 1440, pointCount := 4,
      points :=
        vput (vput (vput (vput GaugeEntry.initial.points 0 (400, 0)) 1 (800, 480)) 2 (900, 1200)) 3 (1200, 1440) }
    let falling : GaugeEntry := { GaugeEntry.initial with
      fullScale := 900, points := vput (vput GaugeEntry.initial.points 0 (0, 900)) 1 (600, 0) }
    pwl coolant 703 = 364 ∧ pwl coolant 853 = 862 ∧ pwl coolant 350 = 0 ∧ pwl coolant 1300 = 1440 ∧
      pwl falling 101 = 748 ∧ pwl falling 100 = 750 := by
  decide +kernel

/-- 5.10.1: the hysteresis of an overheat warning. -/
theorem test_hysteresis :
    let e : CondEntry := { CondEntry.initial with comparator := .above, threshold := 1050, hysteresis := 30 }
    compareUsable e false 1040 = false ∧ compareUsable e false 1060 = true ∧ compareUsable e true 1045 = true ∧
      compareUsable e true 1015 = false ∧ compareUsable e false 1030 = false := by
  decide +kernel

/-- R185: the payload of a SIGNAL_WRITE, written out: code 0x10, slot 30, the value −2 in 4 bytes. -/
theorem test_payload_signal_write :
    requestPayload (.signalWrite 30 (-2)) = some [0x10, 30, 0xFF, 0xFF, 0xFF, 0xFE] ∧
      parseRequest [0x10, 30, 0xFF, 0xFF, 0xFF, 0xFE] = .signalWrite 30 (-2) := by
  decide +kernel

/-- R191: the payload of a PORT write, written out from Table 10.5 and Table 1.1. -/
theorem test_payload_port_write :
    parseRequest [0x01, 0, 1, 1, 2, 0, 1, 0, 100, 3, 232] = .tableWritePort 1 (some
      { enabled := true, bitRate := .k500, defaultAction := .drop, wakeEnabled := true, maxAge := 100,
        quietTime := 1000 }) := by
  decide +kernel

/-- R190: an unknown code, and a length that is not the request's. -/
theorem test_payload_refused :
    parseRequest [0x7F] = .badRequest 0x7F ∧ parseRequest [0x08, 0] = .badLength 8 ∧
      parseRequest [0x02, 15, 0] = .badTable 2 := by
  decide +kernel

/-- Table 10.1, Table 10.3, R195: the bytes of a RESPONSE, written out, but for its CRC. -/
theorem test_response_bytes :
    (EgressFrame.response 9 0x13 .wrongMode .none).bytes.take 6 = [0xA5, 2, 9, 2, 0x13, 8] ∧
      (EgressFrame.response 9 6 .ok (.flags 0x0801)).payload = [6, 0, 8, 1] ∧
      (EgressFrame.response 9 7 .ok (.counters [258])).payload = [7, 0, 0, 0, 1, 2] ∧
      (EgressFrame.response 9 0x21 .ok (.acknowledged none 0)).payload = [0x21, 0, 3, 0] := by
  decide +kernel

/-! ### Single steps -/

/-- R193, R105: telltale 63, on DRIVE_PERMIT 1, lights after the doors; telltale 0, on DRIVE_PERMIT 0, stays DARK. -/
theorem test_step_start_telltales :
    let t := takeUpTelltales (takeUpDoors (takeUpConditions { readyTelltales with mode := .run }))
    t.telltales[(0 : Fin 64)].state = .dark ∧ t.telltales[(63 : Fin 64)].state = .litNew ∧
      t.flag .telltale = true := by
  decide +kernel

/-- 3.8: the primary lost, the fallback is selected, and a speed below the threshold is standstill. -/
theorem test_step_selection :
    let t := select (speedSlotsAt 0 99 1)
    t.slots[slotVehicleSpeed].value = 99 ∧ t.slots[slotSpeedSource].value = 1 ∧ t.slots[slotStandstill].value = 1 ∧
      t.isLive .speedPrimaryLost none = true := by
  decide +kernel

/-- 7.10: the closed switch of a CLOSING door with its lock active completes the cycle. -/
theorem test_step_door_closes :
    isNext (exec (.debounceEnd 500000 23) (doorLine .closing { noLevel with locked := true } .closed false))
      (fun t => t.doors[(3 : Fin 4)].state = .closedLocked && t.doors[(3 : Fin 4)].cycles = 1 && t.drivePermit) =
      true := by
  decide +kernel

/-- R158: the lowest position of the oldest of the records of lower severity is replaced. -/
theorem test_step_replacement :
    isNext (exec (.confirmationDeadlineExpiry 500000 .speedLost none) (fullMemory true 2))
      (fun t => t.faults.memory[(0 : Fin 40)].map (·.code) = some .speedLost && t.faults.memoryOverflow = 0) =
      true := by
  decide +kernel

/-- 2.12 at 700 ms: 150 is stored as 100, with the clamped mark. -/
theorem test_step_signal_write_clamps :
    let s : State := withDesc rn 0 { SlotDesc.initial with kind := .panel, min := 0, max := 100 }
    isNext (exec (.signalWrite 0 7 0 150) s)
      (fun t => (t.record 0).value = 100 && (t.record 0).raw = 150 && (t.record 0).clamped &&
        (t.record 0).clampCount = 1) = true := by
  decide +kernel

/-- 1.9.1, first row: the lookup stops at entry 0, which counts the frame and forwards it to PANEL. -/
theorem test_step_lookup :
    let e : MatchEntry := { takingEntry with id := 0x180, mask := 0x7F0, forward := { ports := .none, panel := true } }
    let s : State := withMatch net 0 { MatchUnit.initial with entry := e }
    isNext (exec (.frameReceived 0 0 { dataFrame with id := 0x185 }) s)
      (fun t => t.matchTable[(0 : Fin 128)].hits = 1 && t.link.egress.length = 1) = true := by
  decide +kernel

/-- 1.9.4 at 0 ms: bus-off flushes the queue. -/
theorem test_step_bus_off :
    isNext (exec (.busOff 0 1) (withPort net 1 { openPort with queue := List.replicate 3 (panelFrame 0 false) }))
      (fun t => t.ports[(1 : Fin 3)].state = .off && t.ports[(1 : Fin 3)].counters.flushed = 3 &&
        t.isLive .portOff (some 1) && t.flag .portState) = true := by
  decide +kernel

/-- 1.9.3 at 2 ms: C joins ahead of A, which is on the bus. -/
theorem test_step_tx_frame_order :
    let a : QueuedFrame := { panelFrame 0 true with key := 134217728 }
    isNext (exec (.txFrame 0 7 0 0 0x0FF []) (withPort net 0 { openPort with queue := [a] }))
      (fun t => t.ports[(0 : Fin 3)].queue.map (·.key) = [133693440, 134217728]) = true := by
  decide +kernel

/-- 3.9.1, tick 3: two metres. -/
theorem test_step_distance_tick :
    let u : SpeedUnit := { rn.speed with tick := some 0, speedResidue := 2800, total := 1234592 }
    isNext (exec (.distanceTick 0) (withSlot { rn with speed := u } slotVehicleSpeed 5000))
      (fun t => t.speed.total = 1234594 && t.speed.speedResidue = 600 && t.speed.tick = some 100000) = true := by
  decide +kernel

/-- 3.2.1: the edge is stamped with the moment at which the line rose. -/
theorem test_step_noise_rejection :
    isNext (exec (.noiseRejectionEnd 1500 2) (pulsing .frequency { meas with pending := some 1300 }))
      (fun t => t.pulses[(2 : Fin 4)].meas.map (fun m => (m.accepted, m.count, m.lastEdge)) = some (true, 1, 1300)) =
      true := by
  decide +kernel

/-- 4.10.4: step 288 of the descent reaches 0, and the sweep turns to full scale. -/
theorem test_step_sweep_turns :
    let u : GaugeUnit := { GaugeUnit.initial with
      state := .tracking, position := 1, target := 862, sweep := some 0, motion := some 0,
      entry := { GaugeEntry.initial with enabled := true, fullScale := 1440, slew := 3 } }
    isNext (exec (.motionStep 0 2) (withGauge rn 2 u)) (fun t => t.gauges[(2 : Fin 6)].position = 0 &&
      t.gauges[(2 : Fin 6)].sweep = some 1440 && t.gauges[(2 : Fin 6)].target = 862) = true := by
  decide +kernel

/-- 4.10.3 at 4,920 ms: the third attempt fails. -/
theorem test_step_homing_fails :
    let u : GaugeUnit := { GaugeUnit.initial with
      state := .homing, attempt := 3, travel := some 0, entry := { GaugeEntry.initial with enabled := true } }
    isNext (exec (.travelDeadlineExpiry 0 2) (withGauge rn 2 u)) (fun t => t.gauges[(2 : Fin 6)].state = .fault &&
      t.isConfirmed .gaugeHome (some 2) && t.flag .gaugeFault) = true := by
  decide +kernel

/-- 5.10.1 at 10,000 ms: the off-delay expires and the telltale is LATCHED. -/
theorem test_step_off_delay :
    isNext (exec (.delayDeadlineExpiry 1000 95) (waiting .releasing .litNew))
      (fun t => t.conds[(95 : Fin 96)].state = .off && t.telltales[(63 : Fin 64)].state = .latched &&
        t.flag .telltale) = true := by
  decide +kernel

/-- 6.8.2 at 2,060 ms: the third short locks the line out. -/
theorem test_step_third_short :
    let u : LampUnit := { protection := .normal, shorts := 2, proving := none, openLoad := false }
    let s : State := withOutput (withLamp rn 2 u) 2
      { entry := { OutputEntry.initial with source := .on }, panelValue := false, on := true }
    isNext (exec (.shortReport 0 2) s) (fun t => t.lamps[(2 : Fin 8)].protection = .lockedOut &&
      !t.outputs[(2 : Fin 16)].on && t.isLive .lampShort (some 2)) = true := by
  decide +kernel

/-- 7.10.1 at 6,000 ms: OPEN is taken at 250, the permit falls and the stop brake is requested. -/
theorem test_step_door_open_request :
    isNext (exec (.doorRequest 0 7 0 (some .open_)) (withSlot { doors with drivePermit := true } slotVehicleSpeed 250))
      (fun t => t.doors[(0 : Fin 4)].released && t.doors[(0 : Fin 4)].openCommand && !t.drivePermit && t.stopBrake) =
      true := by
  decide +kernel

/-- 8.11.1 at 1,500 ms: the record, the latch and the flag. -/
theorem test_step_confirmation :
    let s : State := withSlot (withSlot faulty slotTotalDistance 12345) slotIgnitionCycles 812
    isNext (exec (.confirmationDeadlineExpiry 500000 .speedLost none) s) (fun t =>
      t.isConfirmed .speedLost none && t.flag .faultConfirmed &&
      t.faults.memory[(0 : Fin 40)].map (fun r => (r.active, r.occurrences, r.firstDistance, r.firstCycle, r.heal)) =
        some (true, 1, 12345, 812, 0) && t.faults.latch.map (·.distance) = some 12345) = true := by
  decide +kernel

/-- 9.9.3 at 0 ms: a relay line is no unit of a test. -/
theorem test_step_output_test_of_a_relay : braked.testUnit? 2 9 = none ∧ braked.testUnit? 2 7 = some (.line 7) := by
  decide +kernel

/-- 10.7.2: with 31 frames in the egress queue a request waits. -/
theorem test_step_request_waits :
    isNext (exec (.signalRead 0 7 0) (withEgress su (responses 31)))
      (fun t => t.link.ingress.length = 1 && t.link.egress.length = 31) = true := by
  decide +kernel

/-- 10.7.1 at 500 ms: the panel deadline expires. -/
theorem test_step_panel_loss :
    isNext (exec (.panelTimerExpiry 500000) su) (fun t => t.link.lost && t.direct && t.link.linkLosses = 1 &&
      t.slots[slotPanelLinkLost].value = 1 && t.isLive .panelLinkLost none) = true := by
  decide +kernel

/-- R193 and R17: an enabled match entry with an empty port set fails the START check, first of the tables. -/
theorem test_step_start_check :
    isNext (exec (.start 0 7 5) unready) (fun t => t.mode = .setup &&
      t.link.egress = [.response 7 3 .checkFailed (.checkFailed .matchTable 0)]) = true := by
  decide +kernel

/-- 11.5 at 80 s: the part parks with its only door in FAULT. -/
theorem test_step_park :
    let s : State := withDoor { rn with runOn := some 0, drivePermit := false } 0
      { DoorUnit.initial with entry := { DoorEntry.initial with enabled := true }, state := .fault }
    isNext (exec (.runOnTimerExpiry 0) s) (fun t => t.power = .parked && t.mode = .run && t.faults.live.isEmpty) =
      true := by
  decide +kernel

/-- R206: a command that arrives while RESET is low is lost. -/
theorem test_step_held_in_reset :
    isNext (exec (.busOff 9 0) { net with resetLow := true }) (fun t => t.ports = net.ports && t.now = 9) = true := by
  decide +kernel

/-- The block idles on an empty queue (assumption 9). -/
theorem test_step_idle : step su = .next su := rfl

end Sys2Proof.Tests
end

section
/-! PROOFS. DISTANCE_READ and ODOMETER_SET (R64, R65), with the two facts they rest on: a request that arrives while
the link can serve it is served at its arrival, and telling the readers of a slot writes no slot. -/

namespace Sys2Proof.Machine

/-! ### A request that is served at its arrival (R187, R189) -/

theorem State.serving_iff (s : State) : s.serving = true ↔
    s.resetLow = false ∧ s.isActive = true ∧ s.link.restarting = false ∧ s.link.ingress = [] ∧
      s.link.egress.length < 31 ∧ s.link.lost = false := by
  simp [State.serving, and_assoc]

/-- With the link not lost, an arrival only restarts the panel timer. -/
theorem noteArrival_of_not_lost {s : State} (dt : Nat) (h : s.link.lost = false) :
    noteArrival (s.elapse dt) = s.noted dt := by
  simp [noteArrival, State.noted, h]

theorem joinIngress_of_empty (f : IngressFrame) {s : State} (h : s.link.ingress = []) :
    joinIngress f s = { s with link := { s.link with ingress := [f] } } := by
  simp [joinIngress, h]

/-- A frame that waits alone is served, and leaves the buffer empty. -/
theorem serveAll_single (f : IngressFrame) {s : State} (hmay : s.mayServe = true) (hempty : s.link.ingress = []) :
    serveAll { s with link := { s.link with ingress := [f] } } = serveOne f s := by
  have hback : { s with link := { s.link with ingress := [] } } = s := by rw [← hempty]
  have hmay' : State.mayServe { s with link := { s.link with ingress := [f] } } = true := hmay
  simp [serveAll, serveIngress, hmay', hback]

theorem requestArrives_of_active (tag : Byte) (r : Request) {s : State} (h : s.isActive = true) :
    requestArrives tag r s = serveAll (joinIngress { tag := tag, request := r } (noteArrival s)) := if_pos h

theorem event_requestArrives_of_serving {s : State} (hs : s.serving = true) (dt : Nat) (tag : Byte) (r : Request) :
    event dt s (requestArrives tag r) = .next
      (joinResponse tag (requestCode r) (serveRequest r (s.noted dt)).result (serveRequest r (s.noted dt)).data
        (serveRequest r (s.noted dt)).after) := by
  obtain ⟨hreset, hactive, hrestart, hempty, hroom, hlost⟩ := s.serving_iff.mp hs
  have hactive' : (s.elapse dt).isActive = true := hactive
  have hempty' : (s.noted dt).link.ingress = [] := hempty
  have hmay : (s.noted dt).mayServe = true := by simp [State.mayServe, hrestart, hroom]
  have hserved : requestArrives tag r (s.elapse dt) = serveOne { tag := tag, request := r } (s.noted dt) := by
    rw [requestArrives_of_active tag r hactive', noteArrival_of_not_lost dt hlost, joinIngress_of_empty _ hempty',
      serveAll_single _ hmay hempty']
  simp [event, hreset, hserved, serveOne]

/-! ### Telling writes no slot -/

/-- A round of visits that each leave the slots leaves them. -/
theorem each_slots {n : Nat} {f : Fin n → State → State} (h : ∀ i s, (f i s).slots = s.slots) (s : State) :
    (each n f s).slots = s.slots :=
  each_rel (fun a b : State => b.slots = a.slots) (fun _ => rfl) (fun h h' => h'.trans h) f h s

theorem ite_slots {p : Prop} [Decidable p] {s a b : State} (ha : a.slots = s.slots) (hb : b.slots = s.slots) :
    (if p then a else b).slots = s.slots := by
  split
  · exact ha
  · exact hb

@[simp] theorem driveLine_slots (l : Fin 16) (s : State) : (driveLine l s).slots = s.slots := by
  unfold driveLine
  split <;> rfl

@[simp] theorem redrive_slots (s : State) : (redrive s).slots = s.slots := each_slots driveLine_slots s

@[simp] theorem arbitrate_slots (s : State) : (arbitrate s).slots = s.slots := by
  unfold arbitrate
  rw [redrive_slots]
  split
  · rfl
  · split
    · exact ite_slots rfl rfl
    · rfl

@[simp] theorem placeRequest_slots (r : Fin 70) (p : Nat) (s : State) : (placeRequest r p s).slots = s.slots := by
  rw [placeRequest, arbitrate_slots]

@[simp] theorem placeIf_slots (r : Fin 70) (p : Option Nat) (s : State) : (placeIf r p s).slots = s.slots := by
  cases p with
  | none => rfl
  | some p => exact placeRequest_slots r p s

@[simp] theorem withdrawRequest_slots (r : Fin 70) (s : State) : (withdrawRequest r s).slots = s.slots :=
  ite_slots (arbitrate_slots _) rfl

@[simp] theorem setTelltale_slots (t : Fin 64) (st : TelltaleState) (s : State) :
    (setTelltale t st s).slots = s.slots := by
  refine ite_slots rfl ?_
  rw [redrive_slots]
  exact ite_slots (placeIf_slots _ _ _) (ite_slots (withdrawRequest_slots _ _) rfl)

@[simp] theorem tellTelltales_slots (c : Fin 96) (truth : Bool) (s : State) :
    (tellTelltales c truth s).slots = s.slots :=
  ite_slots (each_slots (fun _ _ => ite_slots (setTelltale_slots _ _ _) rfl) s) rfl

@[simp] theorem evaluateGated_slots (c : Fin 96) (s : State) : (evaluateGated c s).slots = s.slots := by
  refine ite_slots (ite_slots rfl ?_) rfl
  rw [redrive_slots, tellTelltales_slots]

@[simp] theorem putCond_slots (c : Fin 96) (u : CondUnit) (s : State) : (putCond c u s).slots = s.slots := by
  refine ite_slots rfl ?_
  rw [redrive_slots, each_slots (fun _ _ => ite_slots (evaluateGated_slots _ _) rfl), tellTelltales_slots]

@[simp] theorem tellConditions_slots (k : Fin 256) (s : State) : (tellConditions k s).slots = s.slots :=
  each_slots (fun _ _ => ite_slots (ite_slots (putCond_slots _ _ _) rfl) rfl) s

@[simp] theorem tellGauges_slots (k : Fin 256) (s : State) : (tellGauges k s).slots = s.slots :=
  ite_slots rfl rfl

/-- What an owner writes stands in its slot, whether or not it was a change (R40). -/
theorem writeInternal_value (k : Fin 256) (v : Int) (st : SlotState) (s : State) :
    (writeInternal k v st s).slots[k].value = v := by
  simp only [writeInternal]
  split
  next hsame => exact hsame.1
  next => simp

theorem publish_value (k : Fin 256) (v : Nat) (s : State) : (publish k v s).slots[k].value = v :=
  writeInternal_value k v .valid s

/-! ### Distance requests -/

theorem State.noted_belowMemory (s : State) (dt metres : Nat) :
    (s.noted dt).belowMemory metres = s.belowMemory metres := rfl

theorem serveOdometer_of_run {s : State} (metres : Nat) (h : s.isRun = true) :
    serveOdometer metres s = refuse .wrongMode s := by
  simp [serveOdometer, h]

theorem serveOdometer_of_belowMemory {s : State} {metres : Nat} (hmode : s.isRun = false)
    (h : s.belowMemory metres = true) : serveOdometer metres s = refuse .badField s := by
  simp [serveOdometer, hmode, h]

theorem serveOdometer_of_notBelow {s : State} {metres : Nat} (hmode : s.isRun = false)
    (h : s.belowMemory metres = false) :
    serveOdometer metres s = accept (.total metres) (publish slotTotalDistance (metres / 100)
      { s with speed := { s.speed with total := metres, delta := 0, pulseResidue := 0, speedResidue := 0 } }) := by
  simp [serveOdometer, hmode, h, clearResidues]

theorem exec_distanceRead (dt : Nat) (tag : Byte) (s : State) :
    exec (.distanceRead dt tag) s = event dt s (requestArrives tag .distanceRead) := rfl

theorem exec_odometerSet (dt : Nat) (tag : Byte) (metres : Nat) (s : State) :
    exec (.odometerSet dt tag metres) s = event dt s (requestArrives tag (.odometerSet metres)) := rfl

theorem exec_odometerSet_of_serving {s : State} (hs : s.serving = true) (dt : Nat) (tag : Byte) (metres : Nat) :
    exec (.odometerSet dt tag metres) s = .next
      (joinResponse tag 0x13 (serveOdometer metres (s.noted dt)).result (serveOdometer metres (s.noted dt)).data
        (serveOdometer metres (s.noted dt)).after) :=
  (exec_odometerSet dt tag metres s).trans (event_requestArrives_of_serving hs dt tag (.odometerSet metres))

/-- Settles O16: both requests are served at their arrival, and the new total is published by a `Tell`. -/
theorem distanceRequests : Obligations.DistanceRequests := by
  intro s dt tag hs
  refine ⟨?_, ?_, ?_, ?_⟩
  · exact (exec_distanceRead dt tag s).trans (event_requestArrives_of_serving hs dt tag .distanceRead)
  · intro metres hsetup hfits
    have hfits' : (s.noted dt).belowMemory metres = false := (s.noted_belowMemory dt metres).trans hfits
    have hmode : (s.noted dt).isRun = false := by simp [State.isRun, hsetup]
    refine ⟨_, ?_, publish_value slotTotalDistance (metres / 100) _, publish_tell (by decide) _ _⟩
    rw [exec_odometerSet_of_serving hs, serveOdometer_of_notBelow hmode hfits']
    rfl
  · intro metres hsetup hbelow
    have hbelow' : (s.noted dt).belowMemory metres = true := (s.noted_belowMemory dt metres).trans hbelow
    have hmode : (s.noted dt).isRun = false := by simp [State.isRun, hsetup]
    rw [exec_odometerSet_of_serving hs, serveOdometer_of_belowMemory hmode hbelow']
    rfl
  · intro metres hrun
    have hmode : (s.noted dt).isRun = true := by simp [State.isRun, hrun]
    rw [exec_odometerSet_of_serving hs, serveOdometer_of_run metres hmode]
    rfl

end Sys2Proof.Machine
end

section
/-! PROOFS. The segments of a response message (R170): each segment's frame, and the message put together again. -/

namespace Sys2Proof.Machine

/-! ### The cut of a message into segments of 6 bytes -/

/-- The test for a following segment, by bytes in the model and by the count of the segments in R170. -/
theorem segment_follows_iff (len k : Nat) : 6 * (k + 1) < len ↔ k + 1 < (len + 5) / 6 := by omega

theorem flatMap_segments_eq_take (msg : List Byte) (n : Nat) :
    (List.range n).flatMap (fun k => (msg.drop (6 * k)).take 6) = msg.take (6 * n) := by
  induction n with
  | zero => simp
  | succ n ih =>
    rw [List.range_succ, List.flatMap_append, ih, List.flatMap_singleton, ← List.take_add, Nat.mul_succ]

/-! ### The frame of one segment -/

@[simp] theorem segmentData_payload (code : Byte) (msg : List Byte) (k : Nat) :
    (segmentData code msg k).drop 2 = (msg.drop (6 * k)).take 6 := rfl

theorem segmentData_length (code : Byte) (msg : List Byte) (k : Nat) :
    (segmentData code msg k).length = min 6 (msg.length - 6 * k) + 2 := by
  simp [segmentData]

theorem segmentData_length_le (code : Byte) (msg : List Byte) (k : Nat) :
    (segmentData code msg k).length ≤ 8 := by
  rw [segmentData_length]
  omega

/-- Every segment that another one follows fills its frame. -/
theorem segmentData_length_of_follows (code : Byte) {msg : List Byte} {k : Nat} (h : 6 * (k + 1) < msg.length) :
    (segmentData code msg k).length = 8 := by
  rw [segmentData_length]
  omega

/-- An index below 64 stands in the sequence byte as it is. -/
theorem sequenceByte_of_lt (msg : List Byte) {k : Nat} (h : k < 64) :
    sequenceByte msg k = BitVec.ofNat 8 (k + if k + 1 < (msg.length + 5) / 6 then 128 else 0) := by
  simp only [sequenceByte, byteOf, Nat.mod_eq_of_lt h, segment_follows_iff]

/-- The segments of a message, in their order, put together are the message. -/
theorem flatMap_segmentData (code : Byte) (msg : List Byte) :
    (List.range ((msg.length + 5) / 6)).flatMap (fun k => (segmentData code msg k).drop 2) = msg := by
  have hall : msg.length ≤ 6 * ((msg.length + 5) / 6) := by omega
  simp only [segmentData_payload, flatMap_segments_eq_take, List.take_of_length_le hall]

/-- Settles O49: at most 64 segments, so every index fits its sequence byte, and their 6-byte cuts cover the message. -/
theorem segmentsCarryTheMessage : Obligations.SegmentsCarryTheMessage := by
  intro code msg hmin hmax n
  have hn : n = (msg.length + 5) / 6 := rfl
  have hcount : n ≤ 64 := by omega
  refine ⟨by omega, hcount, flatMap_segmentData code msg, fun k hk => ⟨?_, segmentData_length_le code msg k, ?_⟩⟩
  · rw [segmentData, sequenceByte_of_lt msg (by omega)]
    rfl
  · exact fun hmore => segmentData_length_of_follows code ((segment_follows_iff msg.length k).mpr hmore)

end Sys2Proof.Machine
end

section
/-! PROOFS. What telling can do, step by step. `Quiet` takes the operations of chapters 4 to 6 apart into the few
primitive updates they are made of, so that what all of them keep is proved once for each primitive. Conditions move
only from stage 3 on, telltales only from stage 5 on, a chime is placed only with a telltale, and of a gauge only the points
it aims at change, unless `free` holds. -/

namespace Sys2Proof.Machine

/-- No chime request is pending and none is granted. -/
def ChimeArbiter.idle (c : ChimeArbiter) : Prop := c.grant = none ∧ ∀ r : Fin 70, c.pending[r] = none

/-- A gauge keeps all but the points it aims at. -/
def GaugeUnit.sameCourse (u v : GaugeUnit) : Prop := v = { u with target := v.target, sweep := v.sweep }

/-- `t` follows from `s` by the primitive updates of telling. -/
inductive Quiet (free : Prop) : State → State → Prop
  | refl (s : State) : Quiet free s s
  | trans {a b c : State} : Quiet free a b → Quiet free b c → Quiet free a c
  | line (l : Fin 16) (s : State) : Quiet free s (driveLine l s)
  | flags {s : State} {f : BitVec 12} {a : Bool} (h : ∀ k, s.flags.getLsbD k = true → f.getLsbD k = true) :
      Quiet free s { s with flags := f, attn := a }
  | chime {s : State} {c : ChimeArbiter} (hp : c.patterns = s.chime.patterns)
      (h : free ∨ 5 ≤ s.stage ∨ (s.chime.idle → c.idle)) : Quiet free s { s with chime := c }
  | telltales {s : State} {tt : Vector TelltaleUnit 64} (h : free ∨ 5 ≤ s.stage)
      (he : tt.toArray.toList.map (·.entry) = s.telltales.toArray.toList.map (·.entry)) :
      Quiet free s { s with telltales := tt }
  | conds {s : State} {cs : Vector CondUnit 96} (h : free ∨ 3 ≤ s.stage)
      (he : cs.toArray.toList.map (·.entry) = s.conds.toArray.toList.map (·.entry)) :
      Quiet free s { s with conds := cs }
  | gauges {s : State} {g : Vector GaugeUnit 6} (h : free ∨ ∀ k : Fin 6, s.gauges[k].sameCourse g[k])
      (he : g.toArray.toList.map (·.entry) = s.gauges.toArray.toList.map (·.entry)) :
      Quiet free s { s with gauges := g }

namespace Quiet

variable {free : Prop} {s t : State}

theorem tell (h : Quiet free s t) : Tell s t := by
  induction h with
  | refl s => exact Tell.refl s
  | trans _ _ ih1 ih2 => exact ih1.trans ih2
  | line l s => exact driveLine_tell l s
  | flags _ => exact tell_attention
  | chime hp _ => exact tell_chime hp
  | telltales _ he => exact tell_telltales he
  | conds _ he => exact tell_conds he
  | gauges _ he => exact tell_gauges he

theorem slots (h : Quiet free s t) : t.slots = s.slots := by
  induction h with
  | trans _ _ ih1 ih2 => exact ih2.trans ih1
  | line l s => exact driveLine_slots l s
  | _ => rfl

theorem stage (h : Quiet free s t) : t.stage = s.stage := by
  obtain ⟨_, _, _, _, _, _, _, _, _, rfl, -, -⟩ := h.tell
  rfl

theorem mono {s t : State} (h : Quiet False s t) : Quiet free s t := by
  induction h with
  | refl s => exact refl s
  | trans _ _ ih1 ih2 => exact ih1.trans ih2
  | line l s => exact line l s
  | flags h => exact flags h
  | chime hp h => exact chime hp (h.imp False.elim id)
  | telltales h he => exact telltales (h.imp False.elim id) he
  | conds h he => exact conds (h.imp False.elim id) he
  | gauges h he => exact gauges (h.imp False.elim id) he

theorem ite {p : Prop} [Decidable p] {a b : State} (ha : p → Quiet free s a) (hb : ¬p → Quiet free s b) :
    Quiet free s (if p then a else b) := by
  split
  next h => exact ha h
  next h => exact hb h

/-- A round of tellings, each made at the stage the round begins at. -/
theorem eachAt {n : Nat} {f : Fin n → State → State} (m : Nat)
    (h : ∀ i s, s.stage = m → Quiet free s (f i s)) (s : State) (hs : s.stage = m) :
    Quiet free s (Sys2Proof.each n f s) :=
  each_rel (fun a b : State => a.stage = m → Quiet free a b) (fun s _ => refl s)
    (fun h1 h2 ha => (h1 ha).trans (h2 ((h1 ha).stage.trans ha))) f h s hs

theorem each {n : Nat} {f : Fin n → State → State} (h : ∀ i s, Quiet free s (f i s)) (s : State) :
    Quiet free s (Sys2Proof.each n f s) :=
  each_rel (Quiet free) refl trans f h s

end Quiet

section
variable {free : Prop}

/-! ### Lines and flags -/

theorem redrive_quiet (s : State) : Quiet free s (redrive s) := Quiet.each Quiet.line s

theorem setFlag_quiet (f : Attention) (s : State) : Quiet free s (setFlag f s) :=
  Quiet.flags fun k h => by simp [h]

theorem decideAttn_quiet (s : State) : Quiet free s (decideAttn s) := Quiet.flags fun _ h => h

theorem setFlagIf_quiet (b : Bool) (f : Attention) (s : State) : Quiet free s (setFlagIf b f s) :=
  Quiet.ite (fun _ => setFlag_quiet f s) fun _ => Quiet.refl s

/-! ### Chimes -/

/-- With nothing pending no request has the grant. -/
theorem bestRequest_of_idle {s : State} (h : s.chime.idle) : s.bestRequest = none := by
  have hp : ∀ r : Fin 70, s.chime.pending[r] = none := h.2
  simp only [State.bestRequest, hp]
  exact List.foldl_fixed _

theorem startGrant_quiet (r : Fin 70) (p : Nat) {s : State} (h : ¬ s.chime.idle) :
    Quiet free s (startGrant r p s) :=
  Quiet.chime rfl (.inr (.inr fun hi => absurd hi h))

theorem arbitrate_quiet (s : State) : Quiet free s (arbitrate s) := by
  unfold arbitrate
  refine Quiet.trans ?_ (redrive_quiet _)
  split
  · exact Quiet.chime rfl (.inr (.inr fun hi => ⟨rfl, hi.2⟩))
  next r p hbest =>
    have hbusy : ¬ s.chime.idle := fun hi => by simp [bestRequest_of_idle hi] at hbest
    split
    · exact Quiet.ite (fun _ => Quiet.refl s) fun _ => startGrant_quiet r p hbusy
    · exact startGrant_quiet r p hbusy

theorem dropGrant_idle {c : ChimeArbiter} (h : c.idle) (r : Fin 70) : c.dropGrant r = c := by
  simp [ChimeArbiter.dropGrant, h.1]

theorem placeRequest_quiet (r : Fin 70) (p : Nat) {s : State} (h : free ∨ 5 ≤ s.stage) :
    Quiet free s (placeRequest r p s) := by
  refine Quiet.trans ?_ (arbitrate_quiet _)
  exact Quiet.chime (dropGrant_patterns _ _) (h.imp_right .inl)

theorem placeIf_quiet (r : Fin 70) (p : Option Nat) {s : State} (h : free ∨ 5 ≤ s.stage) :
    Quiet free s (placeIf r p s) := by
  cases p with
  | none => exact Quiet.refl s
  | some p => exact placeRequest_quiet r p h

theorem withdrawRequest_quiet (r : Fin 70) (s : State) : Quiet free s (withdrawRequest r s) := by
  refine Quiet.ite (fun hsome => Quiet.trans ?_ (arbitrate_quiet _)) fun _ => Quiet.refl s
  exact Quiet.chime (dropGrant_patterns _ _) (.inr (.inr fun hi => by simp [hi.2 r] at hsome))

theorem withdrawGroup_quiet (rs : List (Fin 70)) (s : State) : Quiet free s (withdrawGroup rs s) := by
  refine Quiet.ite (fun hsome => Quiet.trans ?_ (arbitrate_quiet _)) fun _ => Quiet.refl s
  refine Quiet.chime ?_ (.inr (.inr fun hi => ?_))
  · refine foldl_rel (fun a b : ChimeArbiter => b.patterns = a.patterns) (fun _ => rfl) (fun h h' => h'.trans h) _
      (fun c r => ?_) rs s.chime
    simp
  · obtain ⟨r, -, hr⟩ := List.any_eq_true.mp hsome
    simp [hi.2 r] at hr

theorem emptyChimes_quiet (s : State) : Quiet free s (emptyChimes s) := by
  refine Quiet.trans ?_ (redrive_quiet _)
  exact Quiet.chime rfl (.inr (.inr fun _ => ⟨rfl, fun r => by simp [Fin.getElem_fin]⟩))

theorem endOnTime_quiet (s : State) : Quiet free s (endOnTime s) := by
  unfold endOnTime
  split
  next g hg =>
    refine Quiet.ite (fun _ => Quiet.chime rfl (.inr (.inr fun hi => ?_))) fun _ => Quiet.refl s
    simp [hi.1] at hg
  next => exact Quiet.refl s

theorem endOffTime_quiet (s : State) : Quiet free s (endOffTime s) := by
  unfold endOffTime
  split
  next g hg =>
    refine Quiet.ite (fun _ => ?_) fun _ => Quiet.refl s
    split
    · exact Quiet.refl s
    · refine Quiet.ite (fun _ => withdrawRequest_quiet _ s) fun _ => Quiet.chime rfl (.inr (.inr fun hi => ?_))
      simp [hi.1] at hg
  next => exact Quiet.refl s

/-! ### Telltales -/

theorem setTelltale_quiet (t : Fin 64) (st : TelltaleState) {s : State} (h : free ∨ 5 ≤ s.stage) :
    Quiet free s (setTelltale t st s) := by
  refine Quiet.ite (fun _ => Quiet.refl s) fun _ => Quiet.trans ?_ (redrive_quiet _)
  have h1 : Quiet free s
      (setFlag .telltale { s with telltales := vput s.telltales t { s.telltales[t] with state := st } }) := by
    refine Quiet.trans ?_ (setFlag_quiet _ _)
    exact Quiet.telltales h (vput_map _ _ _ _ rfl)
  exact Quiet.ite (fun _ => h1.trans (placeIf_quiet _ _ h)) fun _ =>
    Quiet.ite (fun _ => h1.trans (withdrawRequest_quiet _ _)) fun _ => h1

theorem tellTelltales_quiet (c : Fin 96) (truth : Bool) (s : State) : Quiet free s (tellTelltales c truth s) := by
  refine Quiet.ite (fun hstage => ?_) fun _ => Quiet.refl s
  refine Quiet.eachAt s.stage (fun i a ha => ?_) s rfl
  exact Quiet.ite (fun _ => setTelltale_quiet _ _ (.inr (ha ▸ hstage))) fun _ => Quiet.refl a

theorem lightTelltales_quiet {s : State} (h : free ∨ 5 ≤ s.stage) : Quiet free s (lightTelltales s) := by
  refine Quiet.eachAt s.stage (fun i a ha => ?_) s rfl
  exact Quiet.ite (fun _ => setTelltale_quiet _ _ (ha ▸ h)) fun _ => Quiet.refl a

theorem acknowledge_quiet {s : State} (h : free ∨ 5 ≤ s.stage) : Quiet free s (acknowledge s).2.2 := by
  unfold acknowledge
  split
  · exact Quiet.refl s
  · refine Quiet.trans (Quiet.trans (Quiet.trans ?_ (setFlag_quiet _ _)) (withdrawGroup_quiet _ _)) (redrive_quiet _)
    exact Quiet.telltales h (vmap_map _ _ _ fun u => acknowledge_entry u _)

/-! ### Conditions -/

theorem evaluates_stage {s : State} {c : Fin 96} (h : s.evaluates c = true) : 3 ≤ s.stage := by
  simp only [State.evaluates, Bool.and_eq_true, decide_eq_true_eq] at h
  exact h.1

theorem putGated_quiet (c : Fin 96) (u : CondUnit) {s : State} (hs : free ∨ 3 ≤ s.stage)
    (h : u.entry = s.conds[c].entry) : Quiet free s (putGated c u s) := by
  have h1 : Quiet free s { s with conds := vput s.conds c u } := Quiet.conds hs (vput_map _ _ _ _ h)
  exact Quiet.ite (fun _ => h1) fun _ => (h1.trans (tellTelltales_quiet _ _ _)).trans (redrive_quiet _)

theorem evaluateGated_quiet (c : Fin 96) (s : State) : Quiet free s (evaluateGated c s) :=
  Quiet.ite (fun h => putGated_quiet c _ (.inr (evaluates_stage h)) (evaluated_entry s c)) fun _ => Quiet.refl s

/-- What a condition's new record brings about once it is in the table. -/
theorem putCond_tells (c : Fin 96) (u : CondUnit) (s : State) :
    Quiet free { s with conds := vput s.conds c u } (putCond c u s) := by
  refine Quiet.ite (fun _ => Quiet.refl _) fun _ => Quiet.trans ?_ (redrive_quiet _)
  exact (tellTelltales_quiet _ _ _).trans
    (Quiet.each (fun _ a => Quiet.ite (fun _ => evaluateGated_quiet _ a) fun _ => Quiet.refl a) _)

theorem putCond_quiet (c : Fin 96) (u : CondUnit) {s : State} (hs : free ∨ 3 ≤ s.stage)
    (h : u.entry = s.conds[c].entry) : Quiet free s (putCond c u s) :=
  Quiet.trans (Quiet.conds hs (vput_map _ _ _ _ h)) (putCond_tells c u s)

theorem evaluate_quiet (c : Fin 96) (s : State) : Quiet free s (evaluate c s) :=
  Quiet.ite (fun h => putCond_quiet c _ (.inr (evaluates_stage h)) (evaluated_entry s c)) fun _ => Quiet.refl s

theorem tellConditions_quiet (k : Fin 256) (s : State) : Quiet free s (tellConditions k s) :=
  Quiet.each (fun _ a => Quiet.ite (fun _ => evaluate_quiet _ a) fun _ => Quiet.refl a) s

theorem tellFaultConditions_quiet (s : State) : Quiet free s (tellFaultConditions s) :=
  Quiet.each (fun _ a => Quiet.ite (fun _ => evaluate_quiet _ a) fun _ => Quiet.refl a) s

theorem evaluateAll_quiet (s : State) : Quiet free s (evaluateAll s) := Quiet.each evaluate_quiet s

theorem expireDelay_quiet (c : Fin 96) {s : State} (h : free ∨ 3 ≤ s.stage) : Quiet free s (expireDelay c s) := by
  refine Quiet.ite (fun _ => ?_) fun _ => Quiet.refl s
  split
  · exact putCond_quiet c _ h rfl
  · exact putCond_quiet c _ h rfl
  · exact Quiet.refl s

/-! ### Gauges -/

theorem hearing_course (s : State) (u : GaugeUnit) : u.sameCourse (s.hearing u) := by
  unfold State.hearing
  split
  · rfl
  · split
    · rfl
    · split <;> rfl
    · rfl

theorem tellGauges_quiet (k : Fin 256) (s : State) : Quiet free s (tellGauges k s) := by
  refine Quiet.ite (fun _ => Quiet.gauges (.inr fun g => ?_) (vmap_map _ _ _ fun u => ?_)) fun _ => Quiet.refl s
  · rw [vmap_get]
    split
    · exact hearing_course s _
    · rfl
  · split <;> simp

theorem beginHoming_quiet (g : Fin 6) (s : State) : Quiet True s (beginHoming g s) :=
  Quiet.gauges (.inl trivial) (vput_map _ _ _ _ (homed_entry _ _))

theorem motionStep_quiet (g : Fin 6) (s : State) : Quiet True s (motionStep g s) :=
  Quiet.ite (fun _ => Quiet.gauges (.inl trivial) (vput_map _ _ _ _ rfl)) fun _ => Quiet.refl s

theorem stall_quiet (g : Fin 6) (s : State) : Quiet True s (stall g s) :=
  Quiet.ite (fun _ => Quiet.gauges (.inl trivial) (vput_map _ _ _ _ rfl)) fun _ => Quiet.refl s

theorem setSweep_quiet (u : TestUnit) (target : Option Nat) (s : State) : Quiet free s (setSweep u target s) := by
  cases u with
  | gauge g =>
    refine Quiet.gauges (.inr fun k => ?_) (vput_map _ _ _ _ rfl)
    rw [vput_get]
    split
    next h => rw [h]; rfl
    next => rfl
  | telltale t => exact Quiet.refl s
  | line l => exact Quiet.refl s

end

end Sys2Proof.Machine
end

section
/-! PROOFS. What the fault monitor, the doors, the speed unit, the output test and the signal store do, step by step.
`Busy` adds to `Quiet` the primitive updates of those blocks. A change of the doors comes with the publication of what
the doors derive together (R137), and a change of VEHICLE_SPEED with the decision of the stop-brake request (R144), so
each of the two is one primitive that ends in its decision. -/

namespace Sys2Proof.Machine

/-- The live fault set keeps its bound and holds each pair once (R151). -/
def FaultUnit.bounded (f : FaultUnit) : Prop :=
  f.live.length ≤ 48 ∧ (f.live.map fun e => (e.code, e.source)).Nodup

/-- The FAULT_CFG table is the same in both. -/
def FaultUnit.sameConfig (f g : FaultUnit) : Prop :=
  g.confirm = f.confirm ∧ g.healLimit = f.healLimit ∧ g.freezeList = f.freezeList

/-- An internal slot that the interlocks read or publish: VEHICLE_SPEED, ANY_DOOR_OPEN, DRIVE_PERMIT. -/
def interlockSlot (k : Fin 256) : Bool := k = slotVehicleSpeed || k = slotAnyDoorOpen || k = slotDrivePermit

/-- `t` follows from `s` by the primitive updates of the blocks. Chimes are placed only where `place` holds. -/
inductive Busy (free place : Prop) : State → State → Prop
  | refl (s : State) : Busy free place s s
  | trans {a b c : State} : Busy free place a b → Busy free place b c → Busy free place a c
  | quiet {s t : State} : Quiet free s t → Busy free place s t
  | chime {s : State} {c : ChimeArbiter} (h : place) (hp : c.patterns = s.chime.patterns) :
      Busy free place s { s with chime := c }
  | slot {s : State} {k : Fin 256} {r : SlotRec} (h : interlockSlot k = false) :
      Busy free place s { s with slots := vput s.slots k r }
  | deadlines {s : State} {pd : Vector (Option Nat) 240} : Busy free place s { s with panelDeadlines := pd }
  | faults {s : State} {fu : FaultUnit} (hc : s.faults.sameConfig fu) (hb : s.faults.bounded → fu.bounded) :
      Busy free place s { s with faults := fu }
  | capture {s : State} {c : CaptureUnit} : Busy free place s { s with capture := c }
  | service {s : State} {se : ServiceUnit} (he : se.entry = s.service.entry) :
      Busy free place s { s with service := se }
  | door {s : State} {d : Fin 4} {u : DoorUnit} (he : u.entry = s.doors[d].entry) (hs : u.state = s.doors[d].state)
      (hr : u.released = s.doors[d].released) : Busy free place s (putDoor d u s)
  | latch {s : State} {l : Bool} {ro : Option Nat} : Busy free place s { s with stopLatch := l, runOn := ro }
  | speedUnit {s : State} {sp : SpeedUnit} (he : sp.entry = s.speed.entry) : Busy free place s { s with speed := sp }
  | doors {s u : State} {d : Vector DoorUnit 4}
      (he : d.toArray.toList.map (·.entry) = s.doors.toArray.toList.map (·.entry)) :
      Busy free place { s with doors := d } u → Busy free place s (publishDoors u)
  | speed {s u : State} {r : SlotRec} :
      Busy free place { s with slots := vput s.slots slotVehicleSpeed r } u → Busy free place s (decideBrake u)
  | speedUnheard {s : State} {r : SlotRec} (h : s.stage < 4) :
      Busy free place s { s with slots := vput s.slots slotVehicleSpeed r }

namespace Busy

variable {free place : Prop} {s t : State}

theorem stored (h : Busy free place s t) : Stored s t := by
  induction h with
  | refl s => exact Stored.refl s
  | trans _ _ ih1 ih2 => exact ih1.trans ih2
  | quiet h => exact h.tell.told.stored
  | chime _ hp => exact (tell_chime hp).told.stored
  | slot _ => exact stored_slots
  | deadlines => exact stored_slots
  | faults hc _ => exact (told_faults hc.1 hc.2.1 hc.2.2).stored
  | capture => exact told_capture.stored
  | service he => exact (moved_service he).stored
  | door he _ _ => exact (putDoor_moved _ _ _ he).stored
  | latch => exact moved_interlock.stored
  | speedUnit he => exact (moved_speed he).stored
  | doors he _ ih => exact ((moved_doors he).stored.trans ih).trans (publishDoors_moved _).stored
  | speed _ ih => exact Stored.trans stored_slots (ih.trans (decideBrake_moved _).stored)
  | speedUnheard _ => exact stored_slots

theorem tables (h : Busy free place s t) : t.tables = s.tables := h.stored.tables

theorem stage (h : Busy free place s t) : t.stage = s.stage := by
  obtain ⟨_, _, _, _, _, _, _, _, _, _, _, _, _, _, _, _, _, _, _, rfl, -⟩ := h.stored
  rfl

theorem ite {p : Prop} [Decidable p] {a b : State} (ha : p → Busy free place s a) (hb : ¬p → Busy free place s b) :
    Busy free place s (if p then a else b) := by
  split
  next h => exact ha h
  next h => exact hb h

theorem each {n : Nat} {f : Fin n → State → State} (h : ∀ i s, Busy free place s (f i s)) (s : State) :
    Busy free place s (Sys2Proof.each n f s) :=
  each_rel (Busy free place) refl trans f h s

end Busy

section
variable {free place : Prop}

/-! ### Internal slots -/

theorem writeInternal_busy {k : Fin 256} (h : interlockSlot k = false) (v : Int) (st : SlotState) (s : State) :
    Busy free place s (writeInternal k v st s) := by
  refine Busy.ite (fun _ => Busy.refl s) fun _ => Busy.trans ?_
    (.quiet ((tellGauges_quiet _ _).trans (tellConditions_quiet _ _)))
  exact Busy.slot h

theorem publish_busy {k : Fin 256} (h : interlockSlot k = false) (v : Nat) (s : State) :
    Busy free place s (publish k v s) :=
  writeInternal_busy h v .valid s

/-! ### Faults and capture (chapters 8 and 9) -/

/-- An update of the fault monitor that keeps its table and its live set. -/
theorem faults_busy {s : State} {fu : FaultUnit} (hc : s.faults.sameConfig fu) (h : fu.live = s.faults.live) :
    Busy free place s { s with faults := fu } :=
  Busy.faults hc fun hb => by rwa [FaultUnit.bounded, h]

/-- An update of the live set that keeps its pairs. -/
theorem bounded_of_samePairs {f g : FaultUnit}
    (h : g.live.map (fun e => (e.code, e.source)) = f.live.map fun e => (e.code, e.source)) (hb : f.bounded) :
    g.bounded := by
  have hlen : g.live.length = f.live.length := by simpa using congrArg List.length h
  exact ⟨hlen ▸ hb.1, h ▸ hb.2⟩

theorem offerCapture_busy (p : Fin 3) (f : Frame) (e : Option Nat) (b : Bool) (s : State) :
    Busy free place s (offerCapture p f e b s) := by
  refine Busy.ite (fun _ => ?_) fun _ => Busy.refl s
  refine Busy.ite (fun _ => Busy.ite (fun _ => ?_) fun _ => Busy.capture) fun _ => Busy.capture
  exact Busy.capture.trans (.quiet (setFlag_quiet _ _))

theorem triggerCapture_busy (s : State) : Busy free place s (triggerCapture s) :=
  Busy.ite (fun _ => Busy.capture) fun _ => Busy.refl s

theorem confirmationTold_busy (c : FaultCode) (s : State) : Busy free place s (confirmationTold c s) :=
  Busy.ite (fun _ => triggerCapture_busy s) fun _ => Busy.refl s

theorem handOn_busy (s : State) : Busy free place s (handOn s) :=
  (publish_busy (by decide) _ s).trans (.quiet (tellFaultConditions_quiet _))

theorem putRecord_busy (p : Fin 40) (r : Option FaultRecord) (s : State) : Busy free place s (putRecord p r s) :=
  faults_busy ⟨rfl, rfl, rfl⟩ rfl

theorem storePair_busy (c : FaultCode) (src : Option Nat) (s : State) : Busy free place s (storePair c src s) := by
  unfold storePair
  split
  · exact putRecord_busy _ _ s
  · split
    · exact putRecord_busy _ _ s
    · split
      · exact putRecord_busy _ _ s
      · refine Busy.trans ?_ (.quiet (setFlag_quiet _ _))
        exact faults_busy ⟨rfl, rfl, rfl⟩ rfl

theorem fillLatch_busy (c : FaultCode) (src : Option Nat) (s : State) : Busy free place s (fillLatch c src s) := by
  unfold fillLatch
  split
  · exact Busy.refl s
  · exact faults_busy ⟨rfl, rfl, rfl⟩ rfl

/-- Marking entries in place keeps the pairs of the live set. -/
theorem map_pairs {f : LiveEntry → LiveEntry} (h : ∀ e, (f e).code = e.code ∧ (f e).source = e.source)
    (l : List LiveEntry) :
    (l.map f).map (fun e => (e.code, e.source)) = l.map fun e => (e.code, e.source) := by
  simp [h]

theorem markConfirmed_busy (c : FaultCode) (src : Option Nat) (s : State) :
    Busy free place s (markConfirmed c src s) := by
  refine Busy.faults ⟨rfl, rfl, rfl⟩ (bounded_of_samePairs (map_pairs (fun e => ?_) _))
  split <;> exact ⟨rfl, rfl⟩

theorem confirmPair_busy (c : FaultCode) (src : Option Nat) (s : State) : Busy free place s (confirmPair c src s) :=
  (((markConfirmed_busy c src s).trans (storePair_busy _ _ _)).trans (fillLatch_busy _ _ _)).trans
    ((Busy.quiet (setFlag_quiet _ _)).trans (confirmationTold_busy _ _))

theorem isLive_iff (s : State) (c : FaultCode) (src : Option Nat) :
    s.isLive c src = true ↔ (c, src) ∈ s.faults.live.map fun e => (e.code, e.source) := by
  simp [State.isLive, LiveEntry.isPair]

/-- A pair that is not live joins a live set with room. -/
theorem raiseFault_busy (c : FaultCode) (src : Option Nat) (s : State) : Busy free place s (raiseFault c src s) := by
  refine Busy.ite (fun _ => Busy.refl s) fun hnew => Busy.ite (fun _ => faults_busy ⟨rfl, rfl, rfl⟩ rfl) fun hroom => ?_
  have hnot : ¬ s.isLive c src = true := fun h => hnew (by simp [h])
  have hjoin : ∀ e : LiveEntry, e.code = c → e.source = src →
      Busy free place s { s with faults := { s.faults with live := s.faults.live ++ [e] } } := by
    rintro e rfl rfl
    refine Busy.faults ⟨rfl, rfl, rfl⟩ fun hb => ⟨?_, ?_⟩
    · simp only [List.length_append, List.length_singleton]
      omega
    · rw [isLive_iff] at hnot
      rw [List.map_append]
      exact hb.2.append (List.nodup_singleton _) (by simpa using hnot)
  exact Busy.ite (fun _ => ((hjoin _ rfl rfl).trans (handOn_busy _)).trans (confirmPair_busy _ _ _)) fun _ =>
    (hjoin _ rfl rfl).trans (handOn_busy _)

theorem deactivate_busy (c : FaultCode) (src : Option Nat) (s : State) : Busy free place s (deactivate c src s) := by
  unfold deactivate
  split
  · exact putRecord_busy _ _ s
  · exact Busy.refl s

theorem clearFault_busy (c : FaultCode) (src : Option Nat) (s : State) : Busy free place s (clearFault c src s) := by
  refine Busy.ite (fun _ => Busy.trans ?_ (handOn_busy _)) fun _ => Busy.refl s
  have hleave : Busy free place s
      { s with faults := { s.faults with live := s.faults.live.filter fun e => !e.isPair c src } } := by
    refine Busy.faults ⟨rfl, rfl, rfl⟩ fun hb => ⟨?_, ?_⟩
    · exact (List.length_filter_le _ _).trans hb.1
    · exact hb.2.sublist (List.filter_sublist.map _)
  exact Busy.ite (fun _ => hleave.trans (deactivate_busy _ _ _)) fun _ => hleave

theorem clearCodes_busy (p : FaultCode → Bool) (s : State) : Busy free place s (clearCodes p s) :=
  foldl_rel (Busy free place) Busy.refl Busy.trans _ (fun _ _ => clearFault_busy _ _ _) _ s

theorem setFault_busy (b : Bool) (c : FaultCode) (src : Option Nat) (s : State) :
    Busy free place s (setFault b c src s) :=
  Busy.ite (fun _ => raiseFault_busy _ _ s) fun _ => clearFault_busy _ _ s

theorem expireConfirmation_busy (c : FaultCode) (src : Option Nat) (s : State) :
    Busy free place s (expireConfirmation c src s) :=
  Busy.ite (fun _ => confirmPair_busy _ _ s) fun _ => Busy.refl s

theorem confirmDue_busy (p : LiveEntry → Bool) (s : State) : Busy free place s (confirmDue p s) :=
  foldl_rel (Busy free place) Busy.refl Busy.trans _ (fun _ _ => confirmPair_busy _ _ _) _ s

theorem clearMemory_busy (s : State) : Busy free place s (clearMemory s) := by
  refine Busy.trans ?_ (confirmDue_busy _ _)
  refine Busy.faults ⟨rfl, rfl, rfl⟩ (bounded_of_samePairs (map_pairs (fun e => ?_) _))
  exact ⟨rfl, rfl⟩

theorem healingPass_busy (s : State) : Busy free place s (healingPass s) := faults_busy ⟨rfl, rfl, rfl⟩ rfl

/-! ### Output test (R175, R176) and gauges in fault (R78) -/

theorem endTest_busy (s : State) : Busy free place s (endTest s) := by
  unfold endTest
  split
  · exact Busy.refl s
  · refine Busy.trans ?_ (.quiet (((setSweep_quiet _ _ _).trans (setFlag_quiet _ _)).trans (redrive_quiet _)))
    exact Busy.service rfl

theorem startTest_busy (u : TestUnit) (s : State) : Busy free place s (startTest u s) := by
  refine Busy.trans (Busy.trans (endTest_busy s) ?_)
    (.quiet (((setSweep_quiet u _ _).trans (setFlag_quiet _ _)).trans (redrive_quiet _)))
  exact Busy.service rfl

theorem tellTest_busy (s : State) : Busy free place s (tellTest s) :=
  Busy.ite (fun _ => Busy.refl s) fun _ => endTest_busy s

theorem expireTest_busy (s : State) : Busy free place s (expireTest s) :=
  Busy.ite (fun _ => endTest_busy s) fun _ => Busy.refl s

theorem gaugeFault_busy (g : Fin 6) (s : State) : Busy True place s (gaugeFault g s) := by
  refine Busy.trans (Busy.trans ?_ (raiseFault_busy _ _ _)) (.quiet (setFlag_quiet _ _))
  apply Busy.quiet
  exact Quiet.gauges (.inl trivial) (vput_map _ _ _ _ rfl)

theorem expireTravel_busy (g : Fin 6) (s : State) : Busy True place s (expireTravel g s) := by
  refine Busy.ite (fun _ => Busy.ite (fun _ => ?_) fun _ => gaugeFault_busy g s) fun _ => Busy.refl s
  apply Busy.quiet
  exact Quiet.gauges (.inl trivial) (vput_map _ _ _ _ rfl)

/-! ### Doors (chapter 7) -/

theorem startRunOn_busy (s : State) : Busy free place s (startRunOn s) := Busy.latch

theorem doorDeparted_busy (s : State) : Busy free place s (doorDeparted s) :=
  Busy.ite (fun _ => startRunOn_busy s) fun _ => Busy.refl s

theorem slotDoorState_plain : ∀ d : Fin 4, interlockSlot (slotDoorState d) = false := by decide

/-- One door's record is replaced, whatever it derives; the publication follows at once. -/
theorem publishDoors_putDoor_busy (d : Fin 4) (u : DoorUnit) (s : State) (h : u.entry = s.doors[d].entry) :
    Busy free place s (publishDoors (putDoor d u s)) :=
  Busy.doors (vput_map _ _ _ _ h) (Busy.refl _)

theorem handOnDoor_putDoor_busy (d : Fin 4) (old : DoorState) (u : DoorUnit) (s : State)
    (h : u.entry = s.doors[d].entry) : Busy free place s (handOnDoor d old (putDoor d u s)) := by
  have h1 := Busy.doors (free := free) (place := place) (s := s) (vput_map (·.entry) s.doors d u h)
    (publish_busy (slotDoorState_plain d) (putDoor d u s).doors[d].state.code _)
  have h2 := h1.trans (.quiet (setFlag_quiet .door _))
  exact Busy.ite (fun _ => h2.trans (doorDeparted_busy _)) fun _ => h2

theorem clearStopLatch_busy (s : State) : Busy free place s (clearStopLatch s) := by
  refine Busy.trans ?_ ((publish_busy (by decide) _ _).trans (.quiet (withdrawRequest_quiet _ _)))
  exact Busy.latch

theorem clearForced_busy (d : Fin 4) (s : State) : Busy free place s (clearForced d s) :=
  (clearFault_busy _ _ s).trans (clearFault_busy _ _ _)

theorem clearDoorFaults_busy (d : Fin 4) (s : State) : Busy free place s (clearDoorFaults d s) :=
  ((clearFault_busy _ _ s).trans (clearFault_busy _ _ _)).trans (clearFault_busy _ _ _)

theorem setFields_busy (d : Fin 4) (r o : Bool) (s : State) : Busy free place s (setFields d r o s) :=
  Busy.ite (fun _ => Busy.refl s) fun _ => publishDoors_putDoor_busy d _ s rfl

/-- The publication of all doors after any change of them. -/
theorem publishAllDoors_busy {s u : State} {d : Vector DoorUnit 4} (old : Vector DoorUnit 4)
    (he : d.toArray.toList.map (·.entry) = s.doors.toArray.toList.map (·.entry))
    (h : Busy free place { s with doors := d } u) : Busy free place s (publishAllDoors old u) := by
  have hpub : Busy free place u (each 4 (fun d s => publish (slotDoorState d) s.doors[d].state.code s) u) :=
    Busy.each (fun d a => publish_busy (slotDoorState_plain d) _ a) u
  have h1 : Busy free place s
      (publishDoors (each 4 (fun d s => publish (slotDoorState d) s.doors[d].state.code s) u)) :=
    Busy.doors he (h.trans hpub)
  have h2 := fun b => h1.trans (.quiet (setFlagIf_quiet b .door _))
  exact Busy.ite (fun _ => (h2 _).trans (doorDeparted_busy _)) fun _ => h2 _

theorem stopDoors_busy (s : State) : Busy free place s (stopDoors s) :=
  publishAllDoors_busy _ (vmap_map _ DoorUnit.disable s.doors fun _ => rfl)
    ((clearCodes_busy _ _).trans (clearStopLatch_busy _))

theorem tellDoorsBrake_busy (k : Fin 256) (s : State) : Busy free place s (tellDoorsBrake k s) :=
  Busy.ite (fun _ => Busy.each (fun _ a => Busy.ite (fun _ => setFields_busy _ _ _ a) fun _ => Busy.refl a) s)
    fun _ => Busy.refl s

/-! ### Speed and distance (chapter 3) -/

theorem writeSpeed_busy (v : Int) (st : SlotState) (s : State) : Busy free place s (writeSpeed v st s) := by
  simp only [writeSpeed, writeInternal]
  refine Busy.ite (fun _ => Busy.refl s) fun hne => ?_
  rw [if_neg hne]
  have htold := fun r => (Busy.quiet (free := free) (place := place)
    ((tellGauges_quiet slotVehicleSpeed { s with slots := vput s.slots slotVehicleSpeed r }).trans
      (tellConditions_quiet slotVehicleSpeed _)))
  refine Busy.ite (fun _ => Busy.speed ((htold _).trans (Busy.each (fun d a => ?_) _))) fun hquiet =>
    Busy.trans (Busy.speedUnheard ?_) (htold _)
  · exact Busy.ite (fun _ => Busy.refl a) fun _ => setFields_busy _ _ _ a
  · simpa [State.doorsRun, (htold _).stage] using hquiet

theorem writeSource_busy (n : Nat) (s : State) : Busy free place s (writeSource n s) :=
  (publish_busy (by decide) n s).trans (.quiet (setFlagIf_quiet _ _ _))

theorem writeStandstill_busy (b : Bool) (s : State) : Busy free place s (writeStandstill b s) :=
  Busy.ite (fun _ => Busy.refl s) fun _ => (publish_busy (by decide) _ s).trans (tellTest_busy _)

theorem selectSpeed_busy (p f : Option Nat) (s : State) : Busy free place s (selectSpeed p f s) := by
  unfold selectSpeed
  split <;> exact writeSpeed_busy _ _ s

theorem speedFaults_busy (n : Nat) (s : State) : Busy free place s (speedFaults n s) :=
  (setFault_busy _ _ _ s).trans (setFault_busy _ _ _ _)

theorem putMismatch_busy (t : Option Nat) (s : State) : Busy free place s (putMismatch t s) := Busy.speedUnit rfl

theorem mismatchTest_busy (p f : Option Nat) (s : State) : Busy free place s (mismatchTest p f s) :=
  Busy.ite (fun _ => Busy.ite (fun _ => Busy.refl s) fun _ =>
      Busy.ite (fun _ => raiseFault_busy _ _ s) fun _ => putMismatch_busy _ s)
    fun _ => (putMismatch_busy _ s).trans (clearFault_busy _ _ _)

theorem expireMismatch_busy (s : State) : Busy free place s (expireMismatch s) :=
  Busy.ite (fun _ => (putMismatch_busy _ s).trans (raiseFault_busy _ _ _)) fun _ => Busy.refl s

theorem select_busy (s : State) : Busy free place s (select s) := by
  refine Busy.ite (fun _ => ?_) fun _ => Busy.refl s
  exact (((selectSpeed_busy _ _ s).trans (writeSource_busy _ _)).trans
    ((speedFaults_busy _ _).trans (mismatchTest_busy _ _ _))).trans (writeStandstill_busy _ _)

theorem tellSpeed_busy (k : Fin 256) (s : State) : Busy free place s (tellSpeed k s) :=
  Busy.ite (fun _ => select_busy s) fun _ => Busy.refl s

theorem speedAway_busy (s : State) : Busy free place s (speedAway s) := by
  have h := ((writeSpeed_busy (free := free) (place := place) s.slots[slotVehicleSpeed].value .stale s).trans
    (writeSource_busy 2 _)).trans (writeStandstill_busy false _)
  exact h.trans (Busy.speedUnit rfl)

theorem stopSpeed_busy (s : State) : Busy free place s (stopSpeed s) := (speedAway_busy s).trans (clearCodes_busy _ _)

theorem addMetre_busy (s : State) : Busy free place s (addMetre s) := by
  refine Busy.ite (fun _ => Busy.trans ?_ (publish_busy (by decide) _ _)) fun _ => Busy.refl s
  exact Busy.speedUnit rfl

theorem countPulse_busy (s : State) : Busy free place s (countPulse s) := by
  unfold countPulse
  split
  · exact Busy.refl s
  · refine Busy.trans ?_ (times_rel (Busy free place) Busy.refl Busy.trans _ addMetre_busy _ _)
    exact Busy.speedUnit rfl

theorem startTick_busy (s : State) : Busy free place s (startTick s) := by
  unfold startTick
  split
  · exact Busy.speedUnit rfl
  · exact Busy.refl s

theorem distanceTick_busy (s : State) : Busy free place s (distanceTick s) := by
  refine Busy.ite (fun _ => Busy.ite (fun _ => ?_) fun _ => ?_) fun _ => Busy.refl s
  · refine Busy.trans ?_ (times_rel (Busy free place) Busy.refl Busy.trans _ addMetre_busy _ _)
    exact Busy.speedUnit rfl
  · exact Busy.speedUnit rfl

theorem clearResidues_busy (s : State) : Busy free place s (clearResidues s) := Busy.speedUnit rfl

/-! ### Signal store (chapter 2) -/

theorem configSlot_plain (k : Fin 240) : interlockSlot (configSlot k) = false := by
  have hne : ∀ n : Fin 256, 240 ≤ n.val → configSlot k ≠ n := fun n hn e => by
    have := congrArg Fin.val e
    simp only [configSlot] at this
    omega
  simp [interlockSlot, hne _ (show 240 ≤ slotVehicleSpeed.val by decide),
    hne _ (show 240 ≤ slotAnyDoorOpen.val by decide), hne _ (show 240 ≤ slotDrivePermit.val by decide)]

theorem putRec_busy (k : Fin 240) (r : SlotRec) (s : State) : Busy free place s (putRec k r s) :=
  Busy.slot (configSlot_plain k)

theorem tellConsumers_busy (k : Fin 256) (s : State) : Busy free place s (tellConsumers k s) := by
  have h := ((Busy.quiet (free := free) (place := place) (tellGauges_quiet k s)).trans
    (.quiet (tellConditions_quiet k _))).trans ((tellSpeed_busy k _).trans (tellDoorsBrake_busy k _))
  unfold tellConsumers
  simp only
  split
  · exact h.trans (tellTest_busy _)
  · exact h

theorem changeSlot_busy (k : Fin 240) (v : Int) (st : SlotState) (s : State) :
    Busy free place s (changeSlot k v st s) :=
  Busy.ite (fun _ => Busy.refl s) fun _ => (putRec_busy k _ s).trans (tellConsumers_busy _ _)

theorem recordLimited_busy (k : Fin 240) (raw v : Int) (s : State) : Busy free place s (recordLimited k raw v s) :=
  Busy.ite (fun _ => Busy.ite (fun _ => (putRec_busy k _ s).trans (raiseFault_busy _ _ _)) fun _ => putRec_busy k _ s)
    fun _ => (putRec_busy k _ s).trans (clearFault_busy _ _ _)

theorem storeValue_busy (k : Fin 240) (raw v : Int) (s : State) : Busy free place s (storeValue k raw v s) :=
  (recordLimited_busy k raw v s).trans (changeSlot_busy _ _ _ _)

theorem decodeSlot_busy (k : Fin 240) (data : List Byte) (s : State) : Busy free place s (decodeSlot k data s) := by
  refine Busy.ite (fun _ => (putRec_busy k _ s).trans (changeSlot_busy _ _ _ _)) fun _ =>
    Busy.ite (fun _ => ?_) fun _ => ((putRec_busy k _ s).trans (storeValue_busy _ _ _ _)).trans (clearFault_busy _ _ _)
  have h := (putRec_busy (free := free) (place := place) k
    { s.record k with raw := rawPattern s.descs[k] data } s).trans
    (changeSlot_busy k (s.record k).value .senderError _)
  exact Busy.ite (fun _ => h.trans (raiseFault_busy _ _ _)) fun _ => h

theorem decodeEntry_busy (e : Fin 128) (data : List Byte) (s : State) : Busy free place s (decodeEntry e data s) :=
  Busy.each (fun _ a => Busy.ite (fun _ => decodeSlot_busy _ _ a) fun _ => Busy.refl a) s

theorem silence_busy (k : Fin 240) (s : State) : Busy free place s (silence k s) := by
  unfold silence
  split <;> exact changeSlot_busy _ _ _ s

theorem entryMissing_busy (e : Fin 128) (s : State) : Busy free place s (entryMissing e s) := by
  refine Busy.each (fun k a => Busy.ite (fun _ => ?_) fun _ => Busy.refl a) s
  split
  · exact silence_busy k a
  · exact silence_busy k a
  · exact silence_busy k a
  · exact Busy.refl a

theorem putPanelDeadline_busy (k : Fin 240) (t : Option Nat) (s : State) :
    Busy free place s (putPanelDeadline k t s) := Busy.deadlines

theorem startPanelDeadline_busy (k : Fin 240) (s : State) : Busy free place s (startPanelDeadline k s) :=
  Busy.ite (fun _ => Busy.deadlines) fun _ => Busy.refl s

theorem expirePanelDeadline_busy (k : Fin 240) (s : State) : Busy free place s (expirePanelDeadline k s) := by
  have h := (putPanelDeadline_busy (free := free) (place := place) k none s).trans
    (raiseFault_busy .panelSignalStale (slotSource k) _)
  exact Busy.ite (fun _ => Busy.ite (fun _ => h.trans (silence_busy k _)) fun _ => h) fun _ => Busy.refl s

theorem signalWritten_busy (k : Fin 240) (v : Int) (s : State) : Busy free place s (signalWritten k v s) :=
  ((storeValue_busy k v v s).trans (clearFault_busy _ _ _)).trans (startPanelDeadline_busy k _)

theorem deliverPulse_busy (i : Fin 4) (q : Quantity) (r : Option Nat) (s : State) :
    Busy free place s (deliverPulse i q r s) := by
  refine Busy.each (fun k a => Busy.ite (fun _ => ?_) fun _ => Busy.refl a) s
  cases r with
  | none => exact changeSlot_busy _ _ _ _
  | some r => exact storeValue_busy _ _ _ _

theorem writeInputSlot_busy (k : Fin 240) (s : State) : Busy free place s (writeInputSlot k s) := by
  unfold writeInputSlot
  simp only
  split
  · exact storeValue_busy _ _ _ _
  · exact Busy.refl s

theorem deliverInput_busy (l : Fin 24) (s : State) : Busy free place s (deliverInput l s) :=
  Busy.each (fun _ a => Busy.ite (fun _ => writeInputSlot_busy _ a) fun _ => Busy.refl a) s

theorem emptySlot_busy (k : Fin 240) (zero : Bool) (s : State) : Busy free place s (emptySlot k zero s) :=
  (putRec_busy k _ s).trans (changeSlot_busy _ _ _ _)

theorem stampSlot_busy (k : Fin 240) (s : State) : Busy free place s (stampSlot k s) := putRec_busy k _ s

theorem emptySlots_busy (zero : Bool) (s : State) :
    Busy free place s (each 240 (fun k s => stampSlot k (emptySlot k zero s)) s) :=
  Busy.each (fun k a => (emptySlot_busy k zero a).trans (stampSlot_busy k _)) s

theorem fillSlots_busy (s : State) : Busy free place s (fillSlots s) :=
  (Busy.each writeInputSlot_busy s).trans (Busy.each startPanelDeadline_busy _)

theorem startSlots_busy (s : State) : Busy free place s (startSlots s) :=
  (Busy.deadlines.trans (emptySlots_busy true _)).trans ((clearCodes_busy isSlotFault _).trans (fillSlots_busy _))

theorem stopSlots_busy (s : State) : Busy free place s (stopSlots s) :=
  (Busy.deadlines.trans (clearCodes_busy isSlotFault _)).trans (emptySlots_busy false _)

end

/-! ### Door movements, which place chimes -/

section
variable {free : Prop}

theorem placeRequest_busy (r : Fin 70) (p : Nat) (s : State) : Busy free True s (placeRequest r p s) := by
  refine Busy.trans ?_ (.quiet (arbitrate_quiet _))
  exact Busy.chime trivial (dropGrant_patterns _ _)

theorem placeIf_busy (r : Fin 70) (p : Option Nat) (s : State) : Busy free True s (placeIf r p s) := by
  cases p with
  | none => exact Busy.refl s
  | some p => exact placeRequest_busy r p s

theorem pressStop_busy (s : State) : Busy free True s (pressStop s) := by
  refine Busy.ite (fun _ => Busy.refl s) fun _ =>
    Busy.trans ?_ ((publish_busy (by decide) _ _).trans (placeIf_busy _ _ _))
  exact Busy.latch

theorem moveDoor_busy (d : Fin 4) (u : DoorUnit) (s : State) (h : u.entry = s.doors[d].entry) :
    Busy free True s (moveDoor d u s) := by
  have h1 : Busy free True s (handOnDoor d s.doors[d].state (putDoor d u s)) := handOnDoor_putDoor_busy d _ u s h
  have h2 := Busy.ite (p := s.doors[d].state = .closing)
    (fun _ => h1.trans (.quiet (withdrawRequest_quiet (doorRequester d) _))) (fun _ => h1)
  unfold moveDoor
  split
  · exact h2.trans (placeIf_busy _ _ _)
  · exact h2.trans (clearStopLatch_busy _)
  · exact h2.trans (clearForced_busy _ _)
  · exact h2

theorem goDoor_busy (d : Fin 4) (st : DoorState) (s : State) : Busy free True s (goDoor d st s) :=
  moveDoor_busy d _ s (enter_entry _ _ _)

theorem enterEmergency_busy (d : Fin 4) (s : State) : Busy free True s (enterEmergency d s) := by
  have h1 : Busy free True s (handOnDoor d s.doors[d].state (putDoor d (s.doors[d].enter .emergency s) s)) :=
    handOnDoor_putDoor_busy d _ _ s (enter_entry _ _ _)
  have h2 := Busy.ite (p := s.doors[d].state = .fault) (fun _ => h1.trans (clearDoorFaults_busy d _)) (fun _ => h1)
  have h3 := h2.trans (raiseFault_busy .doorEmergency (doorSource d) _)
  unfold enterEmergency
  simp only
  split
  · exact h3.trans (placeRequest_busy _ _ _)
  · exact h3.trans (.quiet (withdrawRequest_quiet _ _))

theorem conflict_busy (d : Fin 4) (s : State) : Busy free True s (conflict d s) :=
  (goDoor_busy d _ s).trans (raiseFault_busy _ _ _)

theorem deriveDoor_busy (d : Fin 4) (s : State) : Busy free True s (deriveDoor d s) := by
  unfold deriveDoor
  split
  · exact enterEmergency_busy d s
  · exact conflict_busy d s
  · exact goDoor_busy d _ s

/-- A refused request is counted, and changes nothing the interlocks read. -/
theorem countRefused_busy (d : Fin 4) (s : State) :
    Busy free True s (putDoor d { s.doors[d] with refused := bump32 s.doors[d].refused } s) :=
  Busy.door rfl rfl rfl

theorem requestDoor_busy (d : Fin 4) (a : DoorAction) (s : State) : Busy free True s (requestDoor d a s).2 := by
  cases a with
  | release =>
    simp only [requestDoor]
    split
    · exact setFields_busy _ _ _ s
    · exact countRefused_busy d s
  | open_ =>
    simp only [requestDoor]
    split
    · exact setFields_busy _ _ _ s
    · exact countRefused_busy d s
  | close =>
    simp only [requestDoor]
    split
    · exact Busy.refl s
    · exact setFields_busy _ _ _ s

theorem reverseDoor_busy (d : Fin 4) (s : State) : Busy free True s (reverseDoor d s) := by
  have h1 : Busy free True s (moveDoor d { s.doors[d].enter .opening s with
      reversals := bump8 s.doors[d].reversals, obstructions := bump32 s.doors[d].obstructions } s) :=
    moveDoor_busy d _ s (enter_entry _ _ _)
  exact Busy.ite (fun _ => h1.trans ((raiseFault_busy _ _ _).trans (setFields_busy _ _ _ _))) fun _ => h1

theorem openByHand_busy (d : Fin 4) (s : State) : Busy free True s (openByHand d s) :=
  Busy.ite (fun _ => (goDoor_busy d _ s).trans (raiseFault_busy _ _ _)) fun _ => goDoor_busy d _ s

theorem completeClosing_busy (d : Fin 4) (s : State) : Busy free True s (completeClosing d s) :=
  moveDoor_busy d
    { s.doors[d].enter .closedLocked s with
      cycles := bump32 (s.doors[d].enter .closedLocked s).cycles, openCommand := false } s (enter_entry _ _ _)

theorem moveBySwitch_busy (d : Fin 4) (f : DoorFunction) (b : Bool) (s : State) :
    Busy free True s (moveBySwitch d f b s) := by
  unfold moveBySwitch
  split
  · exact goDoor_busy d _ s
  · exact Busy.ite (fun _ => goDoor_busy d _ s) fun _ => Busy.refl s
  · exact openByHand_busy d s
  · exact openByHand_busy d s
  · exact goDoor_busy d _ s
  · exact goDoor_busy d _ s
  · exact goDoor_busy d _ s
  · exact Busy.ite (fun _ => completeClosing_busy d s) fun _ => goDoor_busy d _ s
  · exact goDoor_busy d _ s
  · exact reverseDoor_busy d s
  · exact Busy.refl s

theorem leaveFault_busy (d : Fin 4) (f : DoorFunction) (s : State) : Busy free True s (leaveFault d f s) :=
  Busy.ite (fun _ => (deriveDoor_busy d s).trans (clearDoorFaults_busy d _)) fun _ => Busy.refl s

theorem switchChange_busy (d : Fin 4) (f : DoorFunction) (b : Bool) (s : State) :
    Busy free True s (switchChange d f b s) := by
  unfold switchChange
  split
  · exact Busy.refl s
  · exact Busy.refl s
  · exact Busy.ite (fun _ => raiseFault_busy _ _ s) fun _ => leaveFault_busy d f s
  · exact Busy.ite (fun _ => conflict_busy d s) fun _ => moveBySwitch_busy d f b s

theorem doorInput_busy (d : Fin 4) (f : DoorFunction) (b : Bool) (s : State) :
    Busy free True s (doorInput d f b s) := by
  have hset : Busy free True s (putDoor d { s.doors[d] with levels := s.doors[d].levels.set f b } s) :=
    Busy.door rfl rfl rfl
  have hswitch := hset.trans (switchChange_busy d f b _)
  have hbutton : ∀ a, Busy free True s (if b then (requestDoor d a (switchChange d f b
      (putDoor d { s.doors[d] with levels := s.doors[d].levels.set f b } s))).2 else switchChange d f b
      (putDoor d { s.doors[d] with levels := s.doors[d].levels.set f b } s)) := fun a =>
    Busy.ite (fun _ => hswitch.trans (requestDoor_busy d a _)) fun _ => hswitch
  cases f with
  | emergency =>
    refine Busy.ite (fun _ => Busy.ite (fun _ => hset) fun _ => hset.trans (enterEmergency_busy d _)) fun _ =>
      Busy.ite (fun _ => ?_) fun _ => hset
    exact hset.trans (((clearFault_busy _ _ _).trans (.quiet (withdrawRequest_quiet _ _))).trans
      (deriveDoor_busy d _))
  | releaseRequest => exact hbutton _
  | openRequest => exact hbutton _
  | closeRequest => exact hbutton _
  | closed => exact hswitch
  | locked => exact hswitch
  | openEnd => exact hswitch
  | obstruction => exact hswitch

theorem expireDoor_busy (d : Fin 4) (s : State) : Busy free True s (expireDoor d s) := by
  refine Busy.ite (fun _ => ?_) fun _ => Busy.refl s
  split
  · exact (goDoor_busy d _ s).trans (raiseFault_busy _ _ _)
  · exact (goDoor_busy d _ s).trans (raiseFault_busy _ _ _)
  · exact (goDoor_busy d _ s).trans (raiseFault_busy _ _ _)
  · exact Busy.refl s

theorem setUpEffects_busy (d : Fin 4) (s : State) : Busy free True s (setUpEffects d s) := by
  unfold setUpEffects
  split
  · exact (raiseFault_busy _ _ s).trans (placeIf_busy _ _ _)
  · exact raiseFault_busy _ _ s
  · exact clearForced_busy d s
  · exact Busy.refl s

/-- Setting up each door in turn changes the doors alone. -/
theorem setUpEach_eq (s : State) : ∃ d : Vector DoorUnit 4,
    d.toArray.toList.map (·.entry) = s.doors.toArray.toList.map (·.entry) ∧
      each 4 (fun d s => putDoor d (s.setUpDoor d) s) s = { s with doors := d } := by
  refine each_keeps (fun a : State => ∃ d : Vector DoorUnit 4,
    d.toArray.toList.map (·.entry) = s.doors.toArray.toList.map (·.entry) ∧ a = { s with doors := d }) _ ?_ s
    ⟨s.doors, rfl, rfl⟩
  rintro i a ⟨d, hd, rfl⟩
  exact ⟨_, (vput_map _ _ _ _ (setUpDoor_entry _ i)).trans hd, rfl⟩

theorem setUpDoors_busy (s : State) : Busy free True s (setUpDoors s) := by
  obtain ⟨d, hd, hset⟩ := setUpEach_eq s
  unfold setUpDoors
  simp only
  rw [hset]
  exact publishAllDoors_busy _ hd (Busy.each setUpEffects_busy _)

end

end Sys2Proof.Machine
end

section
/-! PROOFS. What commands do, step by step. `Runs` adds to `Busy` every other primitive update of a part that does not
restart: of the ports, the classifier, the inputs, the panel link, the tables, the mode and the power state. A
`Scope` says which of the last four kinds a run may hold. Each invariant of the part is proved once, for each primitive. -/

namespace Sys2Proof.Machine

/-- Which updates a run may hold beside those of the blocks: changes of the mode; of the stage; of the power state; the
withdrawal of the drive permit at park; table writes; changes of the panel link. -/
structure Scope where
  turn : Prop
  stage : Prop
  power : Prop
  permit : Prop
  edit : Prop
  link : Prop

/-- The bound and the order of one transmit queue (R20, R21). -/
def QueueOk (q : List QueuedFrame) : Prop := q.length ≤ 16 ∧ ascending q = true

/-- The bounds of the link's buffers (R187, R188). -/
def PanelLink.bounded (l : PanelLink) : Prop :=
  l.ingress.length ≤ 4 ∧ l.egress.length ≤ 32 ∧ (l.egress.length < 32 ∨ hasUnsentReport l.egress = true)

/-- `t` follows from `s` by primitive updates that the scope `k` admits. -/
inductive Runs (k : Scope) : State → State → Prop
  | refl (s : State) : Runs k s s
  | trans {a b c : State} : Runs k a b → Runs k b c → Runs k a c
  | busy {s t : State} : Busy True True s t → Runs k s t
  | ports {s : State} {v : Vector PortUnit 3}
      (he : v.toArray.toList.map (·.entry) = s.ports.toArray.toList.map (·.entry))
      (hq : ∀ p : Fin 3, QueueOk s.ports[p].queue → QueueOk v[p].queue) : Runs k s { s with ports := v }
  | matchTable {s : State} {m : Vector MatchUnit 128}
      (he : m.toArray.toList.map (·.entry) = s.matchTable.toArray.toList.map (·.entry)) :
      Runs k s { s with matchTable := m }
  | pulses {s : State} {p : Vector PulseUnit 4}
      (he : p.toArray.toList.map (·.entry) = s.pulses.toArray.toList.map (·.entry)) : Runs k s { s with pulses := p }
  | inputs {s : State} {i : Vector InputUnit 24}
      (he : i.toArray.toList.map (·.entry) = s.inputs.toArray.toList.map (·.entry)) : Runs k s { s with inputs := i }
  | panelValues {s : State} {o : Vector OutputUnit 16} {l : Vector LampUnit 8}
      (he : o.toArray.toList.map (·.entry) = s.outputs.toArray.toList.map (·.entry))
      (ho : ∀ l : Fin 16, o[l].on = s.outputs[l].on) : Runs k s { s with outputs := o, lamps := l }
  | marks {s : State} {ba fo cy : Nat} {bu : Option Nat} {ig : Ignition} {di : Bool} {la : BitVec 32} :
      Runs k s
        { s with base := ba, flashOrigin := fo, cycles := cy, bulb := bu, ignition := ig, direct := di, label := la }
  | flags {s : State} {f : BitVec 12} {a : Bool} : Runs k s { s with flags := f, attn := a }
  | stamps {s : State} {f : SlotRec → SlotRec} (hv : ∀ r, (f r).value = r.value ∧ (f r).state = r.state) :
      Runs k s { s with slots := vmap f s.slots }
  | link {s : State} {l : PanelLink} (h : k.link) (hl : s.link.bounded → l.bounded) : Runs k s { s with link := l }
  | turn {s : State} {m : Mode} (h : k.turn) : Runs k s { s with mode := m }
  | stage {s : State} {n : Nat} (h : k.stage) : Runs k s { s with stage := n }
  | power {s : State} {p : Power} (h : k.power) : Runs k s { s with power := p }
  | unpermit {s : State} {d : Vector DoorUnit 4} (h : k.permit)
      (he : d.toArray.toList.map (·.entry) = s.doors.toArray.toList.map (·.entry)) :
      Runs k s { s with doors := d, drivePermit := false, stopBrake := false }
  | anySlot {s : State} {i : Fin 256} {r : SlotRec} (h : k.permit) : Runs k s { s with slots := vput s.slots i r }
  | edit {s : State} {p : Vector PortUnit 3} {m : Vector MatchUnit 128} {ds : Vector SlotDesc 240} {sp : SpeedUnit}
      {pu : Vector PulseUnit 4} {inp : Vector InputUnit 24} {g : Vector GaugeUnit 6} {cs : Vector CondUnit 96}
      {tt : Vector TelltaleUnit 64} {ch : ChimeArbiter} {fu : FaultUnit} {se : ServiceUnit} {sy : SystemEntry}
      (h : k.edit) (hq : ∀ i : Fin 3, p[i].queue = s.ports[i].queue) (hb : s.faults.bounded → fu.bounded) :
      Runs k s { s with ports := p, matchTable := m, descs := ds, speed := sp, pulses := pu, inputs := inp, gauges := g,
                        conds := cs, telltales := tt, chime := ch, faults := fu, service := se, system := sy }
  | editOutput {s : State} {l : Fin 16} {u : OutputUnit} (h : k.edit) (hs : safetyOk l.val u.entry = true) :
      Runs k s (redrive { s with outputs := vput s.outputs l u })
  | editDoor {s : State} {d : Fin 4} {u : DoorUnit} (h : k.edit) (hm : s.mode = .setup)
      (hs : u.state = s.doors[d].state) (hr : u.released = s.doors[d].released) : Runs k s (putDoor d u s)

namespace Runs

variable {k : Scope} {s t : State}

theorem quiet (h : Quiet True s t) : Runs k s t := .busy (.quiet h)

/-- One port is changed. -/
theorem port {s : State} {p : Fin 3} {u : PortUnit} (he : u.entry = s.ports[p].entry)
    (hq : QueueOk s.ports[p].queue → QueueOk u.queue) : Runs k s (putPort p u s) := by
  refine Runs.ports (vput_map PortUnit.entry _ _ _ he) fun j hj => ?_
  rw [vput_get]
  split
  next h => exact hq (h ▸ hj)
  next => exact hj

theorem ite {p : Prop} [Decidable p] {a b : State} (ha : p → Runs k s a) (hb : ¬p → Runs k s b) :
    Runs k s (if p then a else b) := by
  split
  next h => exact ha h
  next h => exact hb h

theorem each {n : Nat} {f : Fin n → State → State} (h : ∀ i s, Runs k s (f i s)) (s : State) :
    Runs k s (Sys2Proof.each n f s) :=
  each_rel (Runs k) refl trans f h s

/-! ### What no run changes -/

theorem now_pending (h : Runs k s t) : t.now = s.now ∧ t.pending = s.pending := by
  induction h with
  | trans _ _ ih1 ih2 => exact ⟨ih2.1.trans ih1.1, ih2.2.trans ih1.2⟩
  | busy h =>
    obtain ⟨_, _, _, _, _, _, _, _, _, _, _, _, _, _, _, _, _, _, _, rfl, -⟩ := h.stored
    exact ⟨rfl, rfl⟩
  | editOutput _ _ =>
    obtain ⟨_, _, _, _, _, _, _, _, _, hr, -, -⟩ := redrive_tell _
    rw [hr]
    exact ⟨rfl, rfl⟩
  | _ => exact ⟨rfl, rfl⟩

/-- Only the panel link's own updates change it. -/
theorem link_eq (h : Runs k s t) (hk : ¬ k.link) : t.link = s.link := by
  induction h with
  | trans _ _ ih1 ih2 => exact ih2.trans ih1
  | busy h =>
    obtain ⟨_, _, _, _, _, _, _, _, _, _, _, _, _, _, _, _, _, _, _, rfl, -⟩ := h.stored
    rfl
  | editOutput _ _ =>
    obtain ⟨_, _, _, _, _, _, _, _, _, hr, -, -⟩ := redrive_tell _
    rw [hr]
  | link h _ => exact absurd h hk
  | _ => rfl

/-- Only a turn changes the mode. -/
theorem mode_eq (h : Runs k s t) (hk : ¬ k.turn) : t.mode = s.mode := by
  induction h with
  | trans _ _ ih1 ih2 => exact ih2.trans ih1
  | busy h =>
    obtain ⟨_, _, _, _, _, _, _, _, _, _, _, _, _, _, _, _, _, _, _, rfl, -⟩ := h.stored
    rfl
  | editOutput _ _ =>
    obtain ⟨_, _, _, _, _, _, _, _, _, hr, -, -⟩ := redrive_tell _
    rw [hr]
  | turn h => exact absurd h hk
  | _ => rfl

theorem stage_eq (h : Runs k s t) (hk : ¬ k.stage) : t.stage = s.stage := by
  induction h with
  | trans _ _ ih1 ih2 => exact ih2.trans ih1
  | busy h => exact h.stage
  | editOutput _ _ =>
    obtain ⟨_, _, _, _, _, _, _, _, _, hr, -, -⟩ := redrive_tell _
    rw [hr]
  | stage h => exact absurd h hk
  | _ => rfl

/-- Only park and wake change the power state. -/
theorem power_eq (h : Runs k s t) (hk : ¬ k.power) : t.power = s.power := by
  induction h with
  | trans _ _ ih1 ih2 => exact ih2.trans ih1
  | busy h =>
    obtain ⟨_, _, _, _, _, _, _, _, _, _, _, _, _, _, _, _, _, _, _, rfl, -⟩ := h.stored
    rfl
  | editOutput _ _ =>
    obtain ⟨_, _, _, _, _, _, _, _, _, hr, -, -⟩ := redrive_tell _
    rw [hr]
  | power h => exact absurd h hk
  | _ => rfl

/-! ### The tables -/

/-- Only a table write changes an entry. -/
theorem tables (h : Runs k s t) (hk : ¬ k.edit) : t.tables = s.tables := by
  induction h with
  | refl s => rfl
  | trans _ _ ih1 ih2 => exact ih2.trans ih1
  | busy h => exact h.tables
  | ports he _ => simp [State.tables, he]
  | matchTable he => simp [State.tables, he]
  | pulses he => simp [State.tables, he]
  | inputs he => simp [State.tables, he]
  | panelValues he _ => simp [State.tables, he]
  | unpermit _ he => simp [State.tables, he]
  | edit h _ _ => exact absurd h hk
  | editOutput h _ => exact absurd h hk
  | editDoor h _ _ _ => exact absurd h hk
  | _ => rfl

/-! ### The queues -/

/-- Every transmit queue keeps its bound and its order. -/
theorem queues (h : Runs k s t) (hs : ∀ p : Fin 3, QueueOk s.ports[p].queue) :
    ∀ p : Fin 3, QueueOk t.ports[p].queue := by
  induction h with
  | trans _ _ ih1 ih2 => exact ih2 (ih1 hs)
  | busy h =>
    obtain ⟨_, _, _, _, _, _, _, _, _, _, _, _, _, _, _, _, _, _, _, rfl, -⟩ := h.stored
    exact hs
  | ports _ hq => exact fun p => hq p (hs p)
  | edit _ hq _ => exact fun p => hq p ▸ hs p
  | editOutput _ _ =>
    obtain ⟨_, _, _, _, _, _, _, _, _, hr, -, -⟩ := redrive_tell _
    rw [hr]
    exact hs
  | _ => exact hs

/-- The link's buffers keep their bounds. -/
theorem link_bounded (h : Runs k s t) (hs : s.link.bounded) : t.link.bounded := by
  induction h with
  | trans _ _ ih1 ih2 => exact ih2 (ih1 hs)
  | busy h =>
    obtain ⟨_, _, _, _, _, _, _, _, _, _, _, _, _, _, _, _, _, _, _, rfl, -⟩ := h.stored
    exact hs
  | link _ hl => exact hl hs
  | editOutput _ _ =>
    obtain ⟨_, _, _, _, _, _, _, _, _, hr, -, -⟩ := redrive_tell _
    rw [hr]
    exact hs
  | _ => exact hs

end Runs

/-! ### The live fault set -/

theorem Tell.faults {s t : State} (h : Tell s t) : t.faults = s.faults := by
  obtain ⟨_, _, _, _, _, _, _, _, _, rfl, -, -⟩ := h
  rfl

theorem publishDoors_faults (s : State) : (publishDoors s).faults = s.faults := by
  unfold publishDoors decidePermit
  rw [(redrive_tell _).faults, (publish_tell (by decide) _ _).faults]
  exact (publish_tell (by decide) _ s).faults

theorem decideBrake_faults (s : State) : (decideBrake s).faults = s.faults := by
  rw [decideBrake, (redrive_tell _).faults]

theorem Busy.bounded {free place : Prop} {s t : State} (h : Busy free place s t) (hs : s.faults.bounded) :
    t.faults.bounded := by
  induction h with
  | trans _ _ ih1 ih2 => exact ih2 (ih1 hs)
  | quiet h => rw [h.tell.faults]; exact hs
  | faults _ hb => exact hb hs
  | doors _ _ ih => rw [publishDoors_faults]; exact ih hs
  | speed _ ih => rw [decideBrake_faults]; exact ih hs
  | _ => exact hs

theorem Runs.bounded {k : Scope} {s t : State} (h : Runs k s t) (hs : s.faults.bounded) : t.faults.bounded := by
  induction h with
  | trans _ _ ih1 ih2 => exact ih2 (ih1 hs)
  | busy h => exact h.bounded hs
  | edit _ _ hb => exact hb hs
  | editOutput _ _ => rw [(redrive_tell _).faults]; exact hs
  | _ => exact hs

/-! ### The permit lines (R116, R118) -/

/-- Every OUTPUT entry keeps the safety-line rule. -/
def State.entriesSafe (s : State) : Prop := ∀ l : Fin 16, safetyOk l.val s.outputs[l].entry = true

/-- A line that follows DRIVE_PERMIT is on only with the permit. -/
def State.permitSafe (s : State) (l : Fin 16) : Prop :=
  s.outputs[l].entry.source = .drivePermit → s.outputs[l].on = true → s.drivePermit = true

/-- `State.relaysSafe` as a proposition. -/
def State.linesSafe (s : State) : Prop := s.entriesSafe ∧ ∀ l, s.permitSafe l

theorem relaysSafe_iff (s : State) : s.relaysSafe = true ↔ s.linesSafe := by
  simp only [State.linesSafe, State.relaysSafe, allUnits_iff, Bool.and_eq_true, forall_and, State.entriesSafe, State.permitSafe]
  refine and_congr_right fun _ => forall_congr' fun l => ?_
  cases s.outputs[l].on <;> cases s.drivePermit <;> simp

theorem tables_output {s t : State} (h : t.tables = s.tables) (l : Fin 16) :
    t.outputs[l].entry = s.outputs[l].entry := by
  have hl := congrArg (fun o : List OutputEntry => o[l.val]?) (congrArg Tables.output h)
  simpa [State.tables] using hl

theorem entriesSafe_of_tables {s t : State} (h : t.tables = s.tables) (hs : s.entriesSafe) : t.entriesSafe :=
  fun l => tables_output h l ▸ hs l

@[simp] theorem driveLine_drivePermit (l : Fin 16) (s : State) : (driveLine l s).drivePermit = s.drivePermit := by
  unfold driveLine
  split <;> rfl

@[simp] theorem driveLine_stage (l : Fin 16) (s : State) : (driveLine l s).stage = s.stage := by
  unfold driveLine
  split <;> rfl

/-- Driving a line leaves every other line. -/
theorem driveLine_other {l j : Fin 16} (h : j ≠ l) (s : State) : (driveLine l s).outputs[j] = s.outputs[j] := by
  unfold driveLine
  split <;> exact vput_other _ _ h

theorem driveLine_entry (l j : Fin 16) (s : State) : (driveLine l s).outputs[j].entry = s.outputs[j].entry :=
  tables_output (driveLine_tell l s).tables j

/-- A line is on after it is driven only if its demand is there. -/
theorem lineActive_of_driveLine_on {l : Fin 16} {s : State} (h : (driveLine l s).outputs[l].on = true) :
    s.lineActive l = true := by
  unfold driveLine at h
  split at h
  · simpa [vput_same] using h
  · simp only [vput_same, Bool.and_eq_true] at h
    exact h.1

/-- A safe line that follows DRIVE_PERMIT demands exactly the permit. -/
theorem drivePermit_of_lineActive {l : Fin 16} {s : State} (hsafe : safetyOk l.val s.outputs[l].entry = true)
    (hsrc : s.outputs[l].entry.source = .drivePermit) (h : s.lineActive l = true) : s.drivePermit = true := by
  have hrule : 8 ≤ l.val ∧ s.outputs[l].entry.direct = .drivePermit ∧ s.outputs[l].entry.polarity = .normal := by
    simp only [safetyOk, hsrc, isSafety, Bool.true_or, if_true, Bool.and_eq_true, decide_eq_true_eq] at hsafe
    exact ⟨hsafe.1.1, hsafe.1.2.symm, hsafe.2⟩
  obtain ⟨hrelay, hdirect, hpol⟩ := hrule
  have hheld : s.heldOn l = false := by simp [State.heldOn, lampOf, unit?_ge hrelay]
  have hline : s.lineSource l = .drivePermit := by simp only [State.lineSource, hdirect, hsrc, ite_self]
  simp only [State.lineActive, hheld, hpol, hline, State.sourceValue, Bool.false_or, Bool.and_eq_true] at h
  exact h.2

theorem driveLine_permitSafe {l : Fin 16} {s : State} (hsafe : s.entriesSafe) : (driveLine l s).permitSafe l := by
  intro hsrc hon
  rw [driveLine_entry] at hsrc
  rw [driveLine_drivePermit]
  exact drivePermit_of_lineActive (hsafe l) hsrc (lineActive_of_driveLine_on hon)

theorem driveLine_keeps_permitSafe {l j : Fin 16} {s : State} (hsafe : s.entriesSafe) (h : s.permitSafe j) :
    (driveLine l s).permitSafe j := by
  by_cases hj : j = l
  · exact hj ▸ driveLine_permitSafe hsafe
  · simpa [State.permitSafe, driveLine_other hj] using h

/-- The lines of a list, driven in turn, all end safe. -/
theorem foldl_driveLine_permitSafe (ls : List (Fin 16)) {s : State} (hsafe : s.entriesSafe) (j : Fin 16)
    (h : j ∈ ls ∨ s.permitSafe j) : (ls.foldl (fun s l => driveLine l s) s).permitSafe j := by
  induction ls generalizing s with
  | nil => simpa using h
  | cons l ls ih =>
    have hsafe' := entriesSafe_of_tables (driveLine_tell l s).tables hsafe
    refine ih hsafe' ?_
    rcases h with h | h
    · rcases List.mem_cons.mp h with rfl | h
      · exact .inr (driveLine_permitSafe hsafe)
      · exact .inl h
    · exact .inr (driveLine_keeps_permitSafe hsafe h)

/-- Driving every line again makes every permit line safe. -/
theorem redrive_linesSafe {s : State} (hsafe : s.entriesSafe) : (redrive s).linesSafe :=
  ⟨entriesSafe_of_tables (redrive_tell s).tables hsafe, fun l => foldl_driveLine_permitSafe _ hsafe l (.inl (List.mem_finRange l))⟩

/-- Only the lines and the permit matter. -/
theorem linesSafe_congr {s t : State} (ho : t.outputs = s.outputs) (hd : t.drivePermit = s.drivePermit)
    (hs : s.linesSafe) : t.linesSafe := by
  simpa only [State.linesSafe, State.entriesSafe, State.permitSafe, ho, hd] using hs

theorem Quiet.linesSafe {free : Prop} {s t : State} (h : Quiet free s t) (hs : s.linesSafe) : t.linesSafe := by
  induction h with
  | trans _ _ ih1 ih2 => exact ih2 (ih1 hs)
  | line l s =>
    obtain ⟨hsafe, hpermit⟩ := hs
    exact ⟨entriesSafe_of_tables (driveLine_tell l s).tables hsafe,
      fun j => driveLine_keeps_permitSafe hsafe (hpermit j)⟩
  | _ => exact linesSafe_congr rfl rfl hs

theorem publishDoors_linesSafe {s : State} (hsafe : s.entriesSafe) : (publishDoors s).linesSafe := by
  unfold publishDoors decidePermit
  refine redrive_linesSafe (entriesSafe_of_tables ((publish_tell (by decide) _ _).tables) ?_)
  exact entriesSafe_of_tables (publish_tell (by decide) _ s).tables hsafe

theorem Busy.linesSafe {free place : Prop} {s t : State} (h : Busy free place s t) (hs : s.linesSafe) :
    t.linesSafe := by
  induction h with
  | trans _ _ ih1 ih2 => exact ih2 (ih1 hs)
  | quiet h => exact h.linesSafe hs
  | @doors s u d _ h _ =>
    have hsafe : State.entriesSafe { s with doors := d } := hs.1
    exact publishDoors_linesSafe (entriesSafe_of_tables h.tables hsafe)
  | speed _ ih =>
    have hsafe := (ih hs).1
    exact redrive_linesSafe hsafe
  | _ => exact linesSafe_congr rfl rfl hs

/-! ### The interlocks (R143, R144) -/

/-- DRIVE_PERMIT and ANY_DOOR_OPEN are what the doors give, and published. -/
def State.permitDecided (s : State) : Prop :=
  s.drivePermit = s.permit ∧ s.slots[slotDrivePermit].value = bit s.drivePermit ∧
    s.slots[slotAnyDoorOpen].value = bit s.anyDoorOpen

/-- The stop-brake request is what the doors and the speed give. -/
def State.brakeDecided (s : State) : Prop := s.stopBrake = s.brakeWanted

/-- In RUN and ACTIVE the doors hear of a change of the speed. -/
def State.doorsHear (s : State) : Prop := s.isRun = true → s.isActive = true → 4 ≤ s.stage

theorem interlocked_iff (s : State) :
    s.interlocked = true ↔ s.settled = true ∧ s.permitDecided ∧ s.brakeDecided := by
  simp only [State.interlocked, State.permitDecided, State.brakeDecided, Bool.and_eq_true, decide_eq_true_eq]
  tauto

theorem doorsHear_of_settled {s : State} (h : s.settled = true) : s.doorsHear := by
  intro hrun hactive
  simp only [State.settled, hrun, hactive] at h
  simp_all

theorem Tell.permit {s t : State} (h : Tell s t) :
    t.permit = s.permit ∧ t.anyDoorOpen = s.anyDoorOpen ∧ t.drivePermit = s.drivePermit ∧
      t.stopBrake = s.stopBrake ∧ t.highestRelease = s.highestRelease ∧ t.isRun = s.isRun ∧ t.isActive = s.isActive := by
  obtain ⟨_, _, _, _, _, _, _, _, _, rfl, -, -⟩ := h
  exact ⟨rfl, rfl, rfl, rfl, rfl, rfl, rfl⟩

/-- The brake rule reads the doors, the mode, the power state and VEHICLE_SPEED alone. -/
theorem Tell.brakeWanted {s t : State} (h : Tell s t) (hspeed : t.slots[slotVehicleSpeed] = s.slots[slotVehicleSpeed]) :
    t.brakeWanted = s.brakeWanted := by
  obtain ⟨-, hdoor, -, -, hrel, hrun, hact⟩ := h.permit
  simp only [State.brakeWanted, State.speedWithin, hdoor, hrel, hrun, hact, hspeed]

/-- Writing an internal slot writes no other. -/
theorem writeInternal_other {k j : Fin 256} (h : j ≠ k) (v : Int) (st : SlotState) (s : State) :
    (writeInternal k v st s).slots[j] = s.slots[j] := by
  simp only [writeInternal]
  split
  · rfl
  · simp only [tellConditions_slots, tellGauges_slots]
    exact vput_other _ _ h

theorem publish_other {k j : Fin 256} (h : j ≠ k) (v : Nat) (s : State) : (publish k v s).slots[j] = s.slots[j] :=
  writeInternal_other h v .valid s

/-- The publication of the doors decides the permit and the stop-brake request, whatever stood before. -/
theorem publishDoors_decides (s : State) : (publishDoors s).permitDecided ∧ (publishDoors s).brakeDecided := by
  generalize ha : publish slotAnyDoorOpen (bit s.anyDoorOpen) s = a
  have hsa : Tell s a := ha ▸ publish_tell (by decide) _ s
  generalize hb : ({ a with drivePermit := a.permit, stopBrake := a.brakeWanted } : State) = b
  generalize hc : publish slotDrivePermit (bit a.permit) b = c
  have hbc : Tell b c := hc ▸ publish_tell (by decide) _ b
  have hd : publishDoors s = redrive c := by rw [publishDoors, ha, decidePermit, hb, hc]
  have htell : Tell c (redrive c) := redrive_tell c
  have hpermit : b.permit = a.permit ∧ b.anyDoorOpen = a.anyDoorOpen ∧ b.drivePermit = a.permit ∧
      b.stopBrake = a.brakeWanted ∧ b.brakeWanted = a.brakeWanted ∧ b.slots = a.slots := by
    subst hb
    exact ⟨rfl, rfl, rfl, rfl, rfl, rfl⟩
  obtain ⟨hp1, ho1, -⟩ := hsa.permit
  obtain ⟨hp2, ho2, hd2, hs2, hbw2, hsl2⟩ := hpermit
  obtain ⟨hp3, ho3, hd3, hs3, -⟩ := hbc.permit
  obtain ⟨hp4, ho4, hd4, hs4, -⟩ := htell.permit
  have h250 : c.slots[slotDrivePermit].value = bit a.permit := hc ▸ publish_value _ _ b
  have h249 : c.slots[slotAnyDoorOpen].value = bit s.anyDoorOpen := by
    rw [← hc, publish_other (by decide), hsl2, ← ha]
    exact publish_value _ _ s
  have h240 : c.slots[slotVehicleSpeed] = b.slots[slotVehicleSpeed] := by rw [← hc, publish_other (by decide)]
  rw [hd]
  refine ⟨⟨?_, ?_, ?_⟩, ?_⟩
  · rw [hd4, hd3, hd2, hp4, hp3, hp2]
  · rw [redrive_slots, h250, hd4, hd3, hd2]
  · rw [redrive_slots, h249, ho4, ho3, ho2, ho1]
  · rw [State.brakeDecided, hs4, hs3, hs2, htell.brakeWanted (by rw [redrive_slots]), hbc.brakeWanted h240, hbw2]

theorem decideBrake_decides {s : State} (h : s.permitDecided) :
    (decideBrake s).permitDecided ∧ (decideBrake s).brakeDecided := by
  have htell := redrive_tell { s with stopBrake := s.brakeWanted }
  obtain ⟨hp, ho, hd, hs, -⟩ := htell.permit
  refine ⟨?_, ?_⟩
  · rw [decideBrake, State.permitDecided, redrive_slots, hp, ho, hd]
    exact h
  · rw [decideBrake, State.brakeDecided, hs, htell.brakeWanted (by rw [redrive_slots])]
    rfl

/-- A table of doors in which one record keeps what the interlocks read. -/
theorem putDoor_derives {s : State} {d : Fin 4} {u : DoorUnit} (he : u.entry = s.doors[d].entry)
    (hs : u.state = s.doors[d].state) (hr : u.released = s.doors[d].released) :
    (putDoor d u s).permit = s.permit ∧ (putDoor d u s).anyDoorOpen = s.anyDoorOpen ∧
      (putDoor d u s).brakeWanted = s.brakeWanted := by
  have hdoor : ∀ j : Fin 4, (vput s.doors d u)[j].entry = s.doors[j].entry ∧
      (vput s.doors d u)[j].state = s.doors[j].state ∧ (vput s.doors d u)[j].released = s.doors[j].released := by
    intro j
    rw [vput_get]
    split
    next h => exact h ▸ ⟨he, hs, hr⟩
    next => exact ⟨rfl, rfl, rfl⟩
  simp only [State.permit, State.anyDoorOpen, State.brakeWanted, DoorUnit.unsafeToMove, State.highestRelease,
    State.speedWithin, State.isRun, State.isActive, putDoor, hdoor]
  exact ⟨rfl, trivial, rfl⟩

theorem brakeWanted_of_not_running {s : State} (h : ¬ (s.isRun = true ∧ s.isActive = true)) :
    s.brakeWanted = false := by
  rw [Bool.eq_false_iff]
  intro hb
  simp only [State.brakeWanted, Bool.and_eq_true] at hb
  exact h hb.1.1

theorem interlockSlot_ne {k : Fin 256} (h : interlockSlot k = false) :
    slotVehicleSpeed ≠ k ∧ slotAnyDoorOpen ≠ k ∧ slotDrivePermit ≠ k := by
  simp only [interlockSlot, Bool.or_eq_false_iff, decide_eq_false_iff_not] at h
  exact ⟨fun e => h.1.1 e.symm, fun e => h.1.2 e.symm, fun e => h.2 e.symm⟩

theorem Busy.doorsHear {free place : Prop} {s t : State} (h : Busy free place s t) (hs : s.doorsHear) :
    t.doorsHear := by
  obtain ⟨_, _, _, _, _, _, _, _, _, _, _, _, _, _, _, _, _, _, _, rfl, -⟩ := h.stored
  exact hs

/-- Telling keeps everything the interlocks read. -/
theorem Quiet.decides {free : Prop} {s t : State} (h : Quiet free s t) :
    (s.permitDecided → t.permitDecided) ∧ (s.permitDecided → s.brakeDecided → t.brakeDecided) := by
  obtain ⟨hp, ho, hd, hs, -⟩ := h.tell.permit
  have hb := h.tell.brakeWanted (by rw [h.slots])
  simp only [State.permitDecided, State.brakeDecided, hp, ho, hd, hs, hb, h.slots]
  exact ⟨id, fun _ => id⟩

/-- The blocks keep the permit decided, and with it the stop-brake request. -/
theorem Busy.decides {free place : Prop} {s t : State} (h : Busy free place s t) (hear : s.doorsHear) :
    (s.permitDecided → t.permitDecided) ∧ (s.permitDecided → s.brakeDecided → t.brakeDecided) := by
  induction h with
  | refl s => exact ⟨id, fun _ => id⟩
  | @trans a b c h1 _ ih1 ih2 =>
    obtain ⟨hp1, hb1⟩ := ih1 hear
    obtain ⟨hp2, hb2⟩ := ih2 (h1.doorsHear hear)
    exact ⟨hp2 ∘ hp1, fun hp hb => hb2 (hp1 hp) (hb1 hp hb)⟩
  | quiet h => exact h.decides
  | @slot s k r h =>
    obtain ⟨h240, h249, h250⟩ := interlockSlot_ne h
    simp only [State.permitDecided, State.brakeDecided, State.brakeWanted, State.speedWithin, vput_other _ _ h240,
      vput_other _ _ h249, vput_other _ _ h250]
    exact ⟨id, fun _ => id⟩
  | door he hs hr =>
    obtain ⟨hp, ho, hb⟩ := putDoor_derives he hs hr
    simp only [State.permitDecided, State.brakeDecided, hp, ho, hb]
    exact ⟨id, fun _ => id⟩
  | doors _ _ _ => exact ⟨fun _ => (publishDoors_decides _).1, fun _ _ => (publishDoors_decides _).2⟩
  | @speed s u r _ ih =>
    have hp : s.permitDecided → u.permitDecided := fun hp => (ih hear).1 (by
      simp only [State.permitDecided, vput_other s.slots r (show slotAnyDoorOpen ≠ slotVehicleSpeed by decide),
        vput_other s.slots r (show slotDrivePermit ≠ slotVehicleSpeed by decide)]
      exact hp)
    exact ⟨fun h => (decideBrake_decides (hp h)).1, fun h _ => (decideBrake_decides (hp h)).2⟩
  | @speedUnheard s r hstage =>
    have hnot : ¬ (s.isRun = true ∧ s.isActive = true) := fun h => absurd (hear h.1 h.2) (by omega)
    refine ⟨fun hp => ?_, fun _ hb => ?_⟩
    · simp only [State.permitDecided, vput_other s.slots r (show slotAnyDoorOpen ≠ slotVehicleSpeed by decide),
        vput_other s.slots r (show slotDrivePermit ≠ slotVehicleSpeed by decide)]
      exact hp
    · rw [State.brakeDecided, brakeWanted_of_not_running hnot] at hb
      rw [State.brakeDecided, brakeWanted_of_not_running (by exact hnot)]
      exact hb
  | _ => exact ⟨id, fun _ => id⟩

/-- An update that keeps everything the interlocks read keeps what they decide. -/
theorem decided_congr {s t : State} (hp : t.permit = s.permit) (ho : t.anyDoorOpen = s.anyDoorOpen)
    (hb : t.brakeWanted = s.brakeWanted) (hd : t.drivePermit = s.drivePermit) (hs : t.stopBrake = s.stopBrake)
    (hsl : t.slots = s.slots) (h : s.permitDecided ∧ s.brakeDecided) : t.permitDecided ∧ t.brakeDecided := by
  simpa only [State.permitDecided, State.brakeDecided, hp, ho, hb, hd, hs, hsl] using h

theorem permit_of_setup {s : State} (h : s.mode = .setup) : s.permit = false ∧ s.brakeWanted = false := by
  have hrun : s.isRun = false := by simp [State.isRun, h]
  simp [State.permit, State.brakeWanted, hrun]

theorem Runs.doorsHear {k : Scope} {s t : State} (h : Runs k s t) (hk : ¬ k.turn) (hst : ¬ k.stage) (hp : ¬ k.power)
    (hear : s.doorsHear) : t.doorsHear := by
  simpa only [State.doorsHear, State.isRun, State.isActive, h.mode_eq hk, h.stage_eq hst, h.power_eq hp] using hear

/-- Within one mode and power state every run keeps the interlocks decided. -/
theorem Runs.decides {k : Scope} {s t : State} (h : Runs k s t) (hk : ¬ k.turn) (hst : ¬ k.stage) (hpw : ¬ k.power)
    (hpm : ¬ k.permit)    (hear : s.doorsHear) (hs : s.permitDecided ∧ s.brakeDecided) : t.permitDecided ∧ t.brakeDecided := by
  induction h with
  | refl s => exact hs
  | @trans a b c h1 _ ih1 ih2 => exact ih2 (h1.doorsHear hk hst hpw hear) (ih1 hear hs)
  | busy h => exact ⟨(h.decides hear).1 hs.1, (h.decides hear).2 hs.1 hs.2⟩
  | @stamps s f hv =>
    have hslot : ∀ i : Fin 256, (vmap f s.slots)[i].value = s.slots[i].value ∧
        (vmap f s.slots)[i].state = s.slots[i].state := fun i => by rw [vmap_get]; exact hv _
    obtain ⟨⟨hp, hv, ho⟩, hb⟩ := hs
    refine ⟨⟨hp, (hslot _).1.trans hv, (hslot _).1.trans ho⟩, hb.trans ?_⟩
    simp only [State.brakeWanted, State.speedWithin, hslot]
    rfl
  | turn h => exact absurd h hk
  | stage h => exact absurd h hst
  | power h => exact absurd h hpw
  | unpermit h => exact absurd h hpm
  | anySlot h => exact absurd h hpm
  | @editOutput s l u _ _ =>
    have htell := redrive_tell { s with outputs := vput s.outputs l u }
    obtain ⟨hp, ho, hd, hsb, -⟩ := htell.permit
    have hb := htell.brakeWanted (by rw [redrive_slots])
    exact decided_congr hp ho hb hd hsb (redrive_slots _) hs
  | @editDoor s d u _ hm hst hr =>
    have hopen : (putDoor d u s).anyDoorOpen = s.anyDoorOpen := by
      have hdoor : ∀ j : Fin 4, (vput s.doors d u)[j].state = s.doors[j].state ∧
          (vput s.doors d u)[j].released = s.doors[j].released := by
        intro j
        rw [vput_get]
        split
        next h => exact h ▸ ⟨hst, hr⟩
        next => exact ⟨rfl, rfl⟩
      simp only [State.anyDoorOpen, DoorUnit.unsafeToMove, putDoor, hdoor]
    obtain ⟨hp1, hb1⟩ := permit_of_setup hm
    obtain ⟨hp2, hb2⟩ := permit_of_setup (s := putDoor d u s) hm
    exact decided_congr (hp2.trans hp1.symm) hopen (hb2.trans hb1.symm) rfl rfl rfl hs
  | _ => exact decided_congr rfl rfl rfl rfl rfl rfl hs

end Sys2Proof.Machine
end

section
/-! PROOFS. Every operation of the ports, the classifier, the service channel, the inputs, the pulse unit, the lamps and
the power controller is a run of primitive updates. -/

namespace Sys2Proof.Machine

/-! ### Transmit queues in ascending key (R20) -/

/-- Ascending from the head is ascending throughout. -/
theorem ascending_iff (q : List QueuedFrame) : ascending q = true ↔ q.Pairwise fun a b => a.key ≤ b.key := by
  induction q with
  | nil => simp [ascending]
  | cons a q ih =>
    cases q with
    | nil => simp [ascending]
    | cons b rest =>
      simp only [ascending, Bool.and_eq_true, decide_eq_true_eq, ih, List.pairwise_cons (a := a)]
      refine ⟨fun ⟨hab, hrest⟩ => ⟨fun c hc => ?_, hrest⟩, fun ⟨ha, hrest⟩ => ⟨ha b (by simp), hrest⟩⟩
      rcases List.mem_cons.mp hc with rfl | hc
      · exact hab
      · exact hab.trans ((List.pairwise_cons.mp hrest).1 c hc)

/-- What joins is there, and so is all that was there before. -/
theorem mem_joinQueue (q x : QueuedFrame) (l : List QueuedFrame) : x ∈ joinQueue q l ↔ x = q ∨ x ∈ l := by
  induction l with
  | nil => simp [joinQueue]
  | cons h t ih =>
    simp only [joinQueue]
    split
    · simp
    · simp only [List.mem_cons, ih]
      tauto

@[simp] theorem joinQueue_length (q : QueuedFrame) (l : List QueuedFrame) :
    (joinQueue q l).length = l.length + 1 := by
  induction l with
  | nil => rfl
  | cons h t ih =>
    simp only [joinQueue]
    split <;> simp [ih]

theorem joinQueue_ascending (q : QueuedFrame) {l : List QueuedFrame} (h : ascending l = true) :
    ascending (joinQueue q l) = true := by
  rw [ascending_iff] at h ⊢
  induction l with
  | nil => simp [joinQueue]
  | cons a t ih =>
    obtain ⟨ha, ht⟩ := List.pairwise_cons.mp h
    simp only [joinQueue]
    split
    next hlt =>
      refine List.pairwise_cons.mpr ⟨fun b hb => ?_, h⟩
      rcases List.mem_cons.mp hb with rfl | hb
      · exact hlt.le
      · exact hlt.le.trans (ha b hb)
    next hge =>
      refine List.pairwise_cons.mpr ⟨fun b hb => ?_, ih ht⟩
      rcases (mem_joinQueue q b t).mp hb with rfl | hb
      · exact Nat.not_lt.mp hge
      · exact ha b hb

/-- Frames that leave a queue keep its bound and order. -/
theorem QueueOk.sublist {q r : List QueuedFrame} (h : QueueOk q) (hr : r.Sublist q) : QueueOk r :=
  ⟨hr.length_le.trans h.1, (ascending_iff r).mpr (((ascending_iff q).mp h.2).sublist hr)⟩

/-- A change of the frames that keeps their keys keeps the bound and the order. -/
theorem QueueOk.map {q : List QueuedFrame} (h : QueueOk q) {f : QueuedFrame → QueuedFrame}
    (hf : ∀ x, (f x).key = x.key) : QueueOk (q.map f) := by
  refine ⟨by simpa using h.1, (ascending_iff _).mpr ?_⟩
  rw [List.pairwise_map]
  simpa only [hf] using (ascending_iff q).mp h.2

theorem QueueOk.nil : QueueOk [] := ⟨by simp, rfl⟩

section
variable {k : Scope}

/-! ### Ports (R2 to R7, R20 to R24) -/

/-- An update of a port that keeps its record and its queue. -/
theorem putPort_runs {p : Fin 3} {u : PortUnit} {s : State} (he : u.entry = s.ports[p].entry)
    (hq : u.queue = s.ports[p].queue) : Runs k s (putPort p u s) :=
  Runs.port he fun h => hq ▸ h

theorem setPortState_runs (p : Fin 3) (st : PortState) (s : State) : Runs k s (setPortState p st s) :=
  (putPort_runs (u := { s.ports[p] with state := st }) rfl rfl).trans (.quiet (setFlagIf_quiet _ _ _))

theorem abandon_busy (s : State) : Busy True True s (abandon s) := by
  unfold abandon
  split
  · exact Busy.refl s
  · exact Busy.service rfl

theorem tellLost_busy (o : Origin) (s : State) : Busy True True s (tellLost o s) := by
  cases o with
  | service n => exact Busy.ite (fun _ => abandon_busy s) fun _ => Busy.refl s
  | forward => exact Busy.refl s
  | panel => exact Busy.refl s

theorem offerFrame_runs (p : Fin 3) (f : Frame) (o : Origin) (s : State) : Runs k s (offerFrame p f o s).2 := by
  unfold offerFrame
  simp only
  split
  next h =>
    simp only [Bool.and_eq_true, decide_eq_true_eq] at h
    exact Runs.port rfl fun hq => ⟨by rw [joinQueue_length]; omega, joinQueue_ascending _ hq.2⟩
  next => exact (putPort_runs (by rfl) (by rfl)).trans (.quiet (setFlagIf_quiet _ _ _))

theorem flush_runs (p : Fin 3) (s : State) : Runs k s (flush p s) := by
  refine Runs.trans ?_ (.busy (foldl_rel (Busy True True) Busy.refl Busy.trans _ (fun _ _ => tellLost_busy _ _) _ _))
  exact Runs.port rfl fun _ => QueueOk.nil

theorem beginTransmission_runs (p : Fin 3) (s : State) : Runs k s (beginTransmission p s) := by
  refine Runs.ite (fun _ => ?_) fun _ => Runs.refl s
  split
  · exact Runs.refl s
  next h t hq =>
    refine Runs.port rfl fun hok => ?_
    rw [hq] at hok
    refine ⟨by simpa using hok.1, (ascending_iff _).mpr ?_⟩
    simpa [List.pairwise_cons] using (ascending_iff _).mp hok.2

/-- The frame on the bus leaves the rest of the queue as it was. -/
theorem takeOnBus_sublist {l rest : List QueuedFrame} {q : QueuedFrame} (h : takeOnBus l = some (q, rest)) :
    rest.Sublist l := by
  induction l generalizing rest with
  | nil => simp [takeOnBus] at h
  | cons a t ih =>
    simp only [takeOnBus] at h
    split at h
    · obtain ⟨-, rfl⟩ := Prod.mk.inj (Option.some.inj h)
      exact List.sublist_cons_self a t
    · obtain ⟨⟨q', rest'⟩, htake, heq⟩ := Option.map_eq_some_iff.mp h
      obtain ⟨rfl, rfl⟩ := Prod.mk.inj heq
      exact (ih htake).cons_cons a

theorem segmentSent_busy (s : State) : Busy True True s (segmentSent s) := by
  unfold segmentSent
  split
  · exact Busy.refl s
  · exact Busy.ite (fun _ => Busy.service rfl) fun _ => Busy.service rfl

theorem tellSent_busy (o : Origin) (s : State) : Busy True True s (tellSent o s) := by
  cases o with
  | service n => exact Busy.ite (fun _ => segmentSent_busy s) fun _ => Busy.refl s
  | forward => exact Busy.refl s
  | panel => exact Busy.refl s

theorem endTransmission_runs (p : Fin 3) (s : State) : Runs k s (endTransmission p s) := by
  unfold endTransmission
  simp only
  split
  · exact Runs.refl s
  next q rest htake =>
    refine Runs.trans (Runs.port (by rfl) fun hq => ?_) (.busy (tellSent_busy _ _))
    exact hq.sublist (takeOnBus_sublist htake)

theorem expireFrame_runs (p : Fin 3) (place : Nat) (s : State) : Runs k s (expireFrame p place s) := by
  unfold expireFrame
  simp only
  split
  · exact Runs.refl s
  · refine Runs.ite (fun _ => Runs.trans (Runs.port (by rfl) fun hq => ?_) (.busy (tellLost_busy _ _))) fun _ =>
      Runs.refl s
    exact hq.sublist (List.eraseIdx_sublist _ _)

theorem failTransmission_runs (p : Fin 3) (s : State) : Runs k s (failTransmission p s) := by
  unfold failTransmission
  simp only
  split
  · refine Runs.trans ?_ (expireFrame_runs p _ _)
    exact Runs.port rfl fun hq => hq.map fun _ => rfl
  · exact Runs.refl s

theorem clearRecovery_runs (p : Fin 3) (s : State) : Runs k s (clearRecovery p s) := putPort_runs rfl rfl

theorem tellOff_busy (p : Fin 3) (s : State) : Busy True True s (tellOff p s) :=
  Busy.ite (fun _ => abandon_busy s) fun _ => Busy.refl s

theorem enterOff_runs (p : Fin 3) (s : State) : Runs k s (enterOff p s) := by
  refine Runs.ite (fun _ => ?_) fun _ => Runs.refl s
  refine Runs.trans ?_ (.busy ((raiseFault_busy _ _ _).trans (tellOff_busy p _)))
  exact ((setPortState_runs p .off s).trans (flush_runs p _)).trans (putPort_runs rfl rfl)

theorem leaveOff_runs (p : Fin 3) (s : State) : Runs k s (leaveOff p s) :=
  ((clearRecovery_runs p s).trans (setPortState_runs p _ _)).trans (.busy (clearFault_busy _ _ _))

theorem recovered_runs (p : Fin 3) (s : State) : Runs k s (recovered p s) :=
  Runs.ite (fun _ => Runs.ite (fun _ => leaveOff_runs p s) fun _ => putPort_runs rfl rfl) fun _ => Runs.refl s

theorem expireQuiet_runs (p : Fin 3) (s : State) : Runs k s (expireQuiet p s) :=
  Runs.ite (fun _ => leaveOff_runs p s) fun _ => Runs.refl s

theorem errorPassive_runs (p : Fin 3) (s : State) : Runs k s (errorPassive p s) :=
  Runs.ite (fun _ => setPortState_runs p _ s) fun _ => Runs.refl s

theorem errorActive_runs (p : Fin 3) (s : State) : Runs k s (errorActive p s) :=
  Runs.ite (fun _ => setPortState_runs p _ s) fun _ => Runs.refl s

theorem parkPort_runs (p : Fin 3) (s : State) : Runs k s (parkPort p s) := by
  have h := (flush_runs (k := k) p s).trans (clearRecovery_runs p _)
  exact Runs.ite (fun _ => h.trans (setPortState_runs p _ _)) fun _ => h

theorem countReception_runs (p : Fin 3) (s : State) : Runs k s (countReception p s) := putPort_runs rfl rfl

theorem countRemote_runs (p : Fin 3) (s : State) : Runs k s (countRemote p s) := putPort_runs rfl rfl

theorem countUnmatched_runs (p : Fin 3) (s : State) : Runs k s (countUnmatched p s) := putPort_runs rfl rfl

/-! ### Service channel (R168 to R182) -/

theorem sendSegment_runs (s : State) : Runs k s (sendSegment s) := by
  unfold sendSegment
  split
  · exact Runs.refl s
  · have h := fun e f o => offerFrame_runs (k := k) e f o s
    exact Runs.ite (fun _ => h _ _ _) fun _ => (h _ _ _).trans (.busy (abandon_busy _))

theorem expireSpacing_runs (s : State) : Runs k s (expireSpacing s) := by
  unfold expireSpacing
  split
  · exact Runs.refl s
  · split
    · exact Runs.refl s
    · refine Runs.ite (fun _ => Runs.trans (.busy ?_) (sendSegment_runs _)) fun _ => Runs.refl s
      exact Busy.service rfl

theorem beginResponse_runs (code : Byte) (msg : List Byte) (s : State) : Runs k s (beginResponse code msg s) := by
  unfold beginResponse
  refine Runs.trans (.busy ?_) (sendSegment_runs _)
  exact Busy.service rfl

theorem answerClearFaults_busy (s : State) : Busy True True s (answerClearFaults s).after := by
  unfold answerClearFaults
  split
  · exact (clearMemory_busy s).trans (.quiet (setFlag_quiet _ _))
  · exact Busy.refl s

theorem answerFaultRecord_after (b : Byte) (s : State) : (answerFaultRecord b s).after = s := by
  unfold answerFaultRecord
  split
  · rfl
  · split <;> rfl

theorem answerFirstFault_after (s : State) : (answerFirstFault s).after = s := by
  unfold answerFirstFault
  split <;> rfl

theorem answerCounters_after (g f c : Byte) (s : State) : (answerCounters g f c s).after = s := by
  unfold answerCounters
  split
  · rfl
  · rfl
  · split <;> rfl
  · rfl

theorem answerArm_busy (p f n c : Byte) (s : State) : Busy True True s (answerArm p f n c s).after := by
  unfold answerArm
  split
  · exact Busy.refl s
  · split
    · exact Busy.refl s
    · exact Busy.capture

theorem answerTrigger_busy (s : State) : Busy True True s (answerTrigger s).after := by
  unfold answerTrigger
  split
  · exact triggerCapture_busy s
  · exact Busy.refl s

theorem answerCaptureRead_busy (b : Byte) (s : State) : Busy True True s (answerCaptureRead b s).after := by
  unfold answerCaptureRead
  split
  · exact Busy.refl s
  · split
    · exact Busy.capture
    · exact Busy.refl s

theorem answerTestStart_busy (a b : Byte) (s : State) : Busy True True s (answerTestStart a b s).after := by
  unfold answerTestStart
  split
  · exact Busy.refl s
  · split
    · exact Busy.refl s
    · split
      · exact Busy.refl s
      · exact startTest_busy _ s

theorem answerTestStop_busy (s : State) : Busy True True s (answerTestStop s).after := by
  unfold answerTestStop
  split
  · exact Busy.refl s
  · exact endTest_busy s

theorem answerService_busy (data : List Byte) (s : State) : Busy True True s (answerService data s).after := by
  unfold answerService
  simp only
  split
  · exact Busy.refl s
  · exact Busy.refl s
  · rw [answerFaultRecord_after]
    exact Busy.refl s
  · rw [answerFirstFault_after]
    exact Busy.refl s
  · exact Busy.refl s
  · exact answerClearFaults_busy s
  · exact Busy.refl s
  · rw [answerCounters_after]
    exact Busy.refl s
  · exact answerArm_busy _ _ _ _ s
  · exact answerTrigger_busy s
  · exact Busy.refl s
  · exact answerCaptureRead_busy _ s
  · exact answerTestStart_busy _ _ s
  · exact answerTestStop_busy s
  · exact Busy.refl s

theorem judgeService_busy (data : List Byte) (s : State) : Busy True True s (judgeService data s).after := by
  unfold judgeService
  split
  · exact Busy.refl s
  · split
    · exact Busy.refl s
    · split
      · exact answerService_busy _ s
      · exact Busy.refl s

theorem serveFrame_runs (data : List Byte) (s : State) : Runs k s (serveFrame data s) := by
  refine Runs.trans (.busy (((abandon_busy s).trans ?_).trans (judgeService_busy data _))) (beginResponse_runs _ _ _)
  exact Busy.service rfl

/-! ### Classifier (R9 to R19) -/

theorem putMatch_runs {e : Fin 128} {u : MatchUnit} {s : State} (he : u.entry = s.matchTable[e].entry) :
    Runs k s (putMatch e u s) :=
  Runs.matchTable (vput_map _ _ _ _ he)

theorem superviseArrival_runs (e : Fin 128) (s : State) : Runs k s (superviseArrival e s) := by
  unfold superviseArrival
  simp only
  split
  · exact Runs.refl s
  · exact putMatch_runs rfl

theorem expireSupervision_runs (e : Fin 128) (s : State) : Runs k s (expireSupervision e s) := by
  refine Runs.ite (fun _ => ?_) fun _ => Runs.refl s
  refine Runs.trans ?_ (.busy ((raiseFault_busy _ _ _).trans (entryMissing_busy e _)))
  exact putMatch_runs rfl

theorem startSupervision_runs (s : State) : Runs k s (startSupervision s) :=
  Runs.matchTable (vmap_map _ _ _ fun _ => rfl)

theorem noSupervision_runs (s : State) : Runs k s (noSupervision s) := Runs.matchTable (vmap_map _ _ _ fun _ => rfl)

theorem stopSupervision_runs (s : State) : Runs k s (stopSupervision s) :=
  (noSupervision_runs s).trans (.busy (clearCodes_busy _ _))

theorem goodArrival_runs (e : Fin 128) (f : Frame) (s : State) : Runs k s (goodArrival e f s) := by
  have h := superviseArrival_runs (k := k) e s
  refine Runs.trans ?_ (.busy ((clearFault_busy _ _ _).trans (clearFault_busy _ _ _)))
  exact Runs.ite (fun _ => h.trans (.busy (decodeEntry_busy e f.data _))) fun _ => h

theorem shortArrival_runs (e : Fin 128) (s : State) : Runs k s (shortArrival e s) :=
  (putMatch_runs (by rfl)).trans (.busy (raiseFault_busy _ _ _))

/-- An update of the link that keeps its buffers. -/
theorem link_runs (hk : k.link) {s : State} {l : PanelLink} (hi : l.ingress = s.link.ingress)
    (he : l.egress = s.link.egress) : Runs k s { s with link := l } :=
  Runs.link hk fun h => by rwa [PanelLink.bounded, hi, he]

theorem offerForward_runs (hk : k.link) (p : Fin 3) (f : Frame) (s : State) : Runs k s (offerForward p f s) := by
  refine Runs.trans (b := { s with link := { s.link with forwardSeq := s.link.forwardSeq + 1 } })
    (link_runs hk rfl rfl) (Runs.ite (fun hroom => Runs.link hk fun h => ?_) fun _ =>
      (link_runs hk (by rfl) (by rfl)).trans (.quiet (setFlag_quiet _ _)))
  have hlen : (s.link.egress ++ [EgressFrame.forward s.link.forwardSeq p f]).length ≤ 28 := by
    simpa using hroom
  exact ⟨h.1, hlen.trans (by decide), .inl (hlen.trans_lt (by decide))⟩

theorem forwardFrame_runs (hk : k.link) (set : ForwardSet) (p : Fin 3) (f : Frame) (s : State) :
    Runs k s (forwardFrame set p f s) := by
  have h : Runs k s
      (each 3 (fun q s => if set.ports.has q && q != p then (offerFrame q f .forward s).2 else s) s) :=
    Runs.each (fun _ a => Runs.ite (fun _ => offerFrame_runs _ _ _ a) fun _ => Runs.refl a) s
  exact Runs.ite (fun _ => h.trans (offerForward_runs hk p f _)) fun _ => h

theorem takenBy_runs (hk : k.link) (e : Fin 128) (p : Fin 3) (f : Frame) (s : State) : Runs k s (takenBy e p f s) := by
  have h1 : Runs k s (putMatch e { s.matchTable[e] with hits := bump32 s.matchTable[e].hits } s) :=
    putMatch_runs rfl
  have h2 := Runs.ite (p := s.matchTable[e].entry.minLength ≤ f.data.length)
    (fun _ => h1.trans (goodArrival_runs e f _)) (fun _ => h1.trans (shortArrival_runs e _))
  exact (h2.trans (forwardFrame_runs hk _ p f _)).trans (.busy (offerCapture_busy _ _ _ _ _))

theorem unmatched_runs (hk : k.link) (p : Fin 3) (f : Frame) (s : State) : Runs k s (unmatched p f s) := by
  have h := countUnmatched_runs (k := k) p s
  unfold unmatched
  simp only
  split
  · exact h.trans (.busy (offerCapture_busy _ _ _ _ _))
  · exact (h.trans (offerForward_runs hk p f _)).trans (.busy (offerCapture_busy _ _ _ _ _))

theorem classify_runs (hk : k.link) (p : Fin 3) (f : Frame) (s : State) : Runs k s (classify p f s) := by
  unfold classify
  split
  · exact takenBy_runs hk _ p f s
  · exact unmatched_runs hk p f s

theorem dataFrame_runs (hk : k.link) (p : Fin 3) (f : Frame) (s : State) : Runs k s (dataFrame p f s) :=
  Runs.ite (fun _ => serveFrame_runs _ s) fun _ =>
    Runs.ite (fun _ => classify_runs hk p f s) fun _ => .busy (offerCapture_busy _ _ _ _ s)

theorem receiveActive_runs (hk : k.link) (p : Fin 3) (f : RxFrame) (s : State) : Runs k s (receiveActive p f s) := by
  refine Runs.ite (fun _ => ?_) fun _ => Runs.refl s
  have h := countReception_runs (k := k) p s
  exact Runs.ite (fun _ => h.trans (countRemote_runs p _)) fun _ => h.trans (dataFrame_runs hk p _ _)

/-! ### Pulse inputs (R47 to R53, R61) -/

theorem putPulse_runs {i : Fin 4} {u : PulseUnit} {s : State} (he : u.entry = s.pulses[i].entry) :
    Runs k s (putPulse i u s) :=
  Runs.pulses (vput_map _ _ _ _ he)

theorem putMeas_runs (i : Fin 4) (m : PulseMeas) (s : State) : Runs k s (putMeas i m s) := putPulse_runs rfl

theorem pulseStart_entry (u : PulseUnit) (s : State) : (u.start s).entry = u.entry := by
  unfold PulseUnit.start
  simp only
  split <;> rfl

theorem startPulses_runs (s : State) : Runs k s (startPulses s) :=
  Runs.pulses (vmap_map _ _ _ fun u => pulseStart_entry u s)

theorem discardPulses_runs (s : State) : Runs k s (discardPulses s) := Runs.pulses (vmap_map _ _ _ fun _ => rfl)

theorem stopPulses_runs (s : State) : Runs k s (stopPulses s) :=
  (discardPulses_runs s).trans (.busy (clearCodes_busy _ _))

theorem closePeriod_busy (i : Fin 4) (period high : Nat) (s : State) :
    Busy True True s (closePeriod i period high s) :=
  Busy.ite (fun _ => (deliverPulse_busy _ _ _ s).trans (clearFault_busy _ _ _)) fun _ =>
    (deliverPulse_busy _ _ _ s).trans (raiseFault_busy _ _ _)

theorem dutyEdge_runs (i : Fin 4) (m : PulseMeas) (level : Bool) (start : Nat) (s : State) :
    Runs k s (dutyEdge i m level start s) := by
  have h : Runs k s (clearFault .pulseStuck (pulseSource i) s) := .busy (clearFault_busy _ _ s)
  refine Runs.ite (fun _ => ?_) fun _ => h.trans (putMeas_runs i _ _)
  split
  · exact (h.trans (putMeas_runs i _ _)).trans (.busy (closePeriod_busy i _ _ _))
  · exact h.trans (putMeas_runs i _ _)

theorem frequencyEdge_runs (i : Fin 4) (m : PulseMeas) (level : Bool) (start : Nat) (s : State) :
    Runs k s (frequencyEdge i m level start s) :=
  Runs.ite (fun _ => putMeas_runs i _ s) fun _ => putMeas_runs i _ s

theorem expireStuck_runs (i : Fin 4) (s : State) : Runs k s (expireStuck i s) := by
  unfold expireStuck
  split
  · exact Runs.refl s
  · exact Runs.ite (fun _ => (putMeas_runs i _ s).trans
      (.busy ((deliverPulse_busy _ _ _ _).trans (raiseFault_busy _ _ _)))) fun _ => Runs.refl s

theorem gateEnd_runs (i : Fin 4) (s : State) : Runs k s (gateEnd i s) := by
  unfold gateEnd
  simp only
  split
  · exact Runs.refl s
  · refine Runs.ite (fun _ => Runs.ite (fun _ => ?_) fun _ => putMeas_runs i _ s) fun _ => Runs.refl s
    exact (putMeas_runs i _ s).trans (.busy (deliverPulse_busy _ _ _ _))

theorem acceptEdge_runs (i : Fin 4) (m : PulseMeas) (start : Nat) (s : State) : Runs k s (acceptEdge i m start s) := by
  unfold acceptEdge
  simp only
  have hcount : ∀ a, Runs k s a →
      Runs k s (if i = 0 ∧ countsEdge s.pulses[i].entry (!m.accepted) = true then countPulse a else a) := fun a h =>
    Runs.ite (fun _ => h.trans (.busy (countPulse_busy a))) fun _ => h
  apply hcount
  split
  · exact Runs.refl s
  · exact frequencyEdge_runs i _ _ start s
  · exact dutyEdge_runs i _ _ start s

theorem pulseLine_runs (i : Fin 4) (level : Bool) (s : State) : Runs k s (pulseLine i level s) := by
  have h : Runs k s (putPulse i { s.pulses[i] with line := level } s) := putPulse_runs rfl
  unfold pulseLine
  simp only
  split
  · exact h
  · exact Runs.ite (fun _ => h.trans (putMeas_runs i _ _)) fun _ => Runs.ite (fun _ => h) fun _ =>
      Runs.ite (fun _ => h.trans (acceptEdge_runs i _ _ _)) fun _ => h.trans (putMeas_runs i _ _)

theorem noiseEnd_runs (i : Fin 4) (s : State) : Runs k s (noiseEnd i s) := by
  unfold noiseEnd
  split
  · exact Runs.refl s
  · split
    · exact Runs.refl s
    · exact Runs.ite (fun _ => acceptEdge_runs i _ _ s) fun _ => Runs.refl s

/-! ### Lamps and the bulb check (R104, R119 to R122) -/

theorem bulb_runs (t : Option Nat) (s : State) : Runs k s { s with bulb := t } :=
  Runs.marks (ba := s.base) (fo := s.flashOrigin) (cy := s.cycles) (ig := s.ignition) (di := s.direct) (la := s.label)

theorem beginBulb_runs (s : State) : Runs k s (beginBulb s) :=
  ((bulb_runs _ s).trans (.busy (publish_busy (by decide) _ _))).trans (.quiet (redrive_quiet _))

theorem endBulb_runs (s : State) : Runs k s (endBulb s) :=
  Runs.ite (fun _ => ((bulb_runs _ s).trans (.busy (publish_busy (by decide) _ _))).trans (.quiet (redrive_quiet _)))
    fun _ => Runs.refl s

theorem expireBulb_runs (s : State) : Runs k s (expireBulb s) :=
  Runs.ite (fun _ => endBulb_runs s) fun _ => Runs.refl s

theorem lamps_runs {s : State} {l : Vector LampUnit 8} : Runs k s { s with lamps := l } :=
  Runs.panelValues rfl fun _ => rfl

theorem openLoad_runs (l : Fin 8) (b : Bool) (s : State) : Runs k s (openLoad l b s) :=
  lamps_runs.trans (.busy (setFault_busy _ _ _ _))

theorem raiseOpenLoads_busy (s : State) : Busy True True s (raiseOpenLoads s) :=
  Busy.each (fun _ a => Busy.ite (fun _ => raiseFault_busy _ _ a) fun _ => Busy.refl a) s

theorem putLamp_redrive_runs (l : Fin 8) (u : LampUnit) (s : State) : Runs k s (redrive (putLamp l u s)) :=
  lamps_runs.trans (.quiet (redrive_quiet _))

theorem shortReported_runs (l : Fin 8) (s : State) : Runs k s (shortReported l s) :=
  Runs.ite (fun _ => (putLamp_redrive_runs l _ s).trans (.busy (raiseFault_busy _ _ _))) fun _ => Runs.refl s

theorem expireRetry_runs (l : Fin 8) (s : State) : Runs k s (expireRetry l s) := by
  unfold expireRetry
  simp only
  split
  · exact Runs.ite (fun _ => putLamp_redrive_runs l _ s) fun _ => Runs.refl s
  · exact Runs.refl s

theorem expireProving_runs (l : Fin 8) (s : State) : Runs k s (expireProving l s) :=
  Runs.ite (fun _ => lamps_runs.trans (.busy (clearFault_busy _ _ _))) fun _ => Runs.refl s

theorem liftLockouts_runs (s : State) : Runs k s (liftLockouts s) := lamps_runs.trans (.quiet (redrive_quiet _))

theorem quietLines_runs (s : State) : Runs k s (quietLines s) := by
  refine Runs.trans ?_ (.quiet (redrive_quiet _))
  exact Runs.panelValues (vmap_map _ _ _ fun _ => rfl) fun l => by rw [vmap_get]

/-! ### The rest of START, STOP, park and wake -/

/-- The conditions and telltales as a transition leaves them. -/
theorem conds_runs {s : State} {c : Vector CondUnit 96}
    (h : c.toArray.toList.map (·.entry) = s.conds.toArray.toList.map (·.entry)) : Runs k s { s with conds := c } :=
  .quiet (Quiet.conds (.inl trivial) h)

theorem clearConditions_runs (s : State) : Runs k s (clearConditions s) := conds_runs (vmap_map _ _ _ fun _ => rfl)

theorem darkenTelltales_runs (s : State) : Runs k s (darkenTelltales s) := by
  refine Runs.trans ?_ (.quiet (setFlagIf_quiet _ _ _))
  exact .quiet (Quiet.telltales (.inl trivial) (vmap_map _ _ _ fun _ => rfl))

theorem gauges_runs {s : State} {f : GaugeUnit → GaugeUnit} (h : ∀ u, (f u).entry = u.entry) :
    Runs k s { s with gauges := vmap f s.gauges } :=
  .quiet (Quiet.gauges (.inl trivial) (vmap_map _ _ _ h))

theorem wakeSlots_runs (s : State) : Runs k s (wakeSlots s) := by
  have h : Runs k s (each 240 (fun k s =>
      if s.descs[k].kind = .frame ∨ s.descs[k].kind = .panel then emptySlot k false s else s) s) :=
    .busy (Busy.each (fun _ a => Busy.ite (fun _ => emptySlot_busy _ _ a) fun _ => Busy.refl a) s)
  refine Runs.trans ?_ (Runs.stamps fun _ => ⟨rfl, rfl⟩)
  exact Runs.ite (fun _ => h.trans (.busy (fillSlots_busy _))) fun _ => h

theorem emptyLive_runs (s : State) : Runs k s (emptyLive s) := by
  refine Runs.busy (Busy.trans ?_ (publish_busy (by decide) _ _))
  exact Busy.faults ⟨rfl, rfl, rfl⟩ fun _ => ⟨by simp, by simp⟩

theorem setStage_runs (hk : k.stage) (n : Nat) (s : State) : Runs k s (setStage n s) := Runs.stage hk

theorem takeUpSpeed_runs (hk : k.stage) (s : State) : Runs k s (takeUpSpeed s) :=
  (setStage_runs hk 2 s).trans (.busy ((putMismatch_busy _ _).trans ((select_busy _).trans (startTick_busy _))))

theorem takeUpConditions_runs (hk : k.stage) (s : State) : Runs k s (takeUpConditions s) :=
  ((setStage_runs hk 3 s).trans (clearConditions_runs _)).trans (.quiet (evaluateAll_quiet _))

theorem takeUpDoors_runs (hk : k.stage) (s : State) : Runs k s (takeUpDoors s) :=
  (setStage_runs hk 4 s).trans (.busy (setUpDoors_busy _))

theorem takeUpTelltales_runs (hk : k.stage) (s : State) : Runs k s (takeUpTelltales s) :=
  (setStage_runs hk 5 s).trans (.quiet (lightTelltales_quiet (.inl trivial)))

theorem takeUpLines_runs (hk : k.stage) (s : State) : Runs k s (takeUpLines s) :=
  (setStage_runs hk 6 s).trans (.quiet (redrive_quiet _))

theorem startGauges_runs (s : State) : Runs k s { s with gauges := vmap s.startGauge s.gauges } :=
  gauges_runs (startGauge_entry s)

/-- START up to the speed. -/
def startSpeed (label : BitVec 32) (s : State) : State :=
  takeUpSpeed (startPulses (startSlots (startSupervision (setStage 1 { s with mode := .run, label := label }))))

/-- START from the gauges up to the doors. -/
def startConds (s : State) : State := takeUpConditions { s with gauges := vmap s.startGauge s.gauges }

/-- The doors, the telltales and the lines take up RUN, at START and at wake. -/
def takeUpRest (s : State) : State := takeUpLines (takeUpTelltales (takeUpDoors s))

/-- START begins a bulb check with the ignition on. -/
def startBulb (s : State) : State := if s.ignition.accepted then beginBulb s else s

theorem takeStart_eq (label : BitVec 32) (s : State) :
    takeStart label s = startBulb (takeUpRest (startConds (startSpeed label s))) := by
  unfold takeStart
  dsimp only
  exact id (startBulb.eq_1 _).symm

theorem startBulb_runs (s : State) : Runs k s (startBulb s) :=
  Runs.ite (fun _ => beginBulb_runs s) fun _ => Runs.refl s

theorem startSpeed_runs (hk : k.stage) (label : BitVec 32) (s : State) :
    Runs k { s with mode := .run, label := label } (startSpeed label s) :=
  (((setStage_runs hk 1 { s with mode := .run, label := label }).trans (startSupervision_runs _)).trans
    ((Runs.busy (startSlots_busy _)).trans (startPulses_runs _))).trans (takeUpSpeed_runs hk _)

theorem startConds_runs (hk : k.stage) (s : State) : Runs k s (startConds s) :=
  (startGauges_runs s).trans (takeUpConditions_runs hk _)

theorem takeUpRest_runs (hk : k.stage) (s : State) : Runs k s (takeUpRest s) :=
  ((takeUpDoors_runs hk s).trans (takeUpTelltales_runs hk _)).trans (takeUpLines_runs hk _)

theorem takeStart_rest_runs (hk : k.stage) (label : BitVec 32) (s : State) :
    Runs k { s with mode := .run, label := label } (takeStart label s) :=
  takeStart_eq label s ▸ (((startSpeed_runs hk label s).trans (startConds_runs hk _)).trans
    (takeUpRest_runs hk _)).trans (startBulb_runs _)

theorem takeStart_runs (hk : k.turn) (hst : k.stage) (label : BitVec 32) (s : State) :
    Runs k s (takeStart label s) := by
  have h1 : Runs k s { s with label := label } :=
    Runs.marks (ba := s.base) (fo := s.flashOrigin) (cy := s.cycles) (bu := s.bulb) (ig := s.ignition) (di := s.direct)
  have h2 : Runs k { s with label := label } { s with mode := .run, label := label } := Runs.turn hk
  exact (h1.trans h2).trans (takeStart_rest_runs hst label s)

/-- STOP up to the doors. -/
def stopFront (s : State) : State :=
  let s := setStage 0 { s with mode := .setup }
  let s := stopSpeed (stopPulses (stopSlots (stopSupervision s)))
  quietLines (emptyChimes (endBulb (darkenTelltales (clearConditions s))))

theorem takeStop_eq (s : State) : takeStop s = tellTest (stopDoors (stopFront s)) := rfl

/-- All that STOP does once the part is in SETUP. -/
theorem stopFront_runs (s : State) : Runs k (setStage 0 { s with mode := .setup }) (stopFront s) := by
  have h2 := ((stopSupervision_runs (k := k) (setStage 0 { s with mode := .setup })).trans (.busy (stopSlots_busy _))).trans
    ((stopPulses_runs _).trans (.busy (stopSpeed_busy _)))
  have h3 := (h2.trans (clearConditions_runs _)).trans ((darkenTelltales_runs _).trans (endBulb_runs _))
  exact (h3.trans (.quiet (emptyChimes_quiet _))).trans (quietLines_runs _)

theorem takeStop_runs (hk : k.turn) (hst : k.stage) (s : State) : Runs k s (takeStop s) := by
  have h1 : Runs k s { s with mode := .setup } := Runs.turn hk
  exact ((h1.trans (setStage_runs hst 0 _)).trans (stopFront_runs s)).trans (.busy ((stopDoors_busy _).trans (tellTest_busy _)))

theorem direct_runs (b : Bool) (s : State) : Runs k s { s with direct := b } :=
  Runs.marks (ba := s.base) (fo := s.flashOrigin) (cy := s.cycles) (bu := s.bulb) (ig := s.ignition) (la := s.label)

theorem clearLost_runs (hk : k.link) (s : State) : Runs k s (clearLost s) := by
  have h1 : Runs k s { s with link := { s.link with lost := false } } := link_runs hk rfl rfl
  exact ((h1.trans (direct_runs false _)).trans (.busy (publish_busy (by decide) _ _))).trans
    (.quiet (redrive_quiet _))

/-- Buffers that are emptied keep their bounds. -/
theorem emptyLink_runs (hk : k.link) {s : State} {l : PanelLink} (hi : l.ingress = []) (he : l.egress = []) :
    Runs k s { s with link := l } :=
  Runs.link hk fun _ => ⟨by simp [hi], by simp [he], by simp [he]⟩

theorem parkLink_runs (hk : k.link) (s : State) : Runs k s (parkLink s) := by
  refine Runs.trans (b := if s.link.lost then clearLost s else s) ?_ (emptyLink_runs hk rfl rfl)
  exact Runs.ite (fun _ => clearLost_runs hk s) fun _ => Runs.refl s

/-- The doors at park: their fields cleared, the permit and the stop-brake request 0. -/
theorem parkDoors_runs (hk : k.permit) (s : State) : Runs k s (parkDoors s) := by
  have hpub : ∀ i v a, Runs k a (publish i v a) := fun i v a =>
    Runs.ite (fun _ => Runs.refl a) fun _ => by
      refine Runs.trans ?_ (.quiet ((tellGauges_quiet _ _).trans (tellConditions_quiet _ _)))
      exact Runs.anySlot hk
  refine Runs.trans (Runs.trans (Runs.trans ?_ (hpub _ _ _)) (hpub _ _ _)) (.busy (clearStopLatch_busy _))
  exact Runs.unpermit hk (vmap_map _ _ _ fun _ => rfl)

theorem noPanelDeadlines_runs (s : State) : Runs k s (noPanelDeadlines s) := .busy Busy.deadlines

/-- Park up to the doors. -/
def parkFront (s : State) : State :=
  let s := setStage 0 { s with power := .parked, runOn := none }
  let s := noPanelDeadlines (noSupervision (each 3 parkPort s))
  let s := speedAway (discardPulses s)
  let s := endBulb (darkenTelltales (clearConditions { s with gauges := vmap GaugeUnit.parked s.gauges }))
  quietLines (emptyChimes s)

theorem parkBlocks_eq (s : State) :
    parkBlocks s = decideAttn (parkLink (abandon (emptyLive (parkDoors (parkFront s))))) := rfl

/-- All that park does once the part is PARKED. -/
theorem parkFront_runs (s : State) :
    Runs k (setStage 0 { s with power := .parked, runOn := none }) (parkFront s) := by
  have h3 := (Runs.each parkPort_runs (setStage 0 { s with power := .parked, runOn := none })).trans
    (noSupervision_runs (k := k) _)
  have h4 := ((h3.trans (noPanelDeadlines_runs _)).trans (discardPulses_runs _)).trans (.busy (speedAway_busy _))
  have h5 := (h4.trans (gauges_runs parked_entry)).trans
    ((clearConditions_runs _).trans ((darkenTelltales_runs _).trans (endBulb_runs _)))
  exact (h5.trans (.quiet (emptyChimes_quiet _))).trans (quietLines_runs _)

/-- Park after the doors. -/
theorem parkBack_runs (hl : k.link) (s : State) : Runs k s (decideAttn (parkLink (abandon (emptyLive s)))) :=
  (emptyLive_runs s).trans
    (((Runs.busy (abandon_busy _)).trans (parkLink_runs hl _)).trans (.quiet (decideAttn_quiet _)))

theorem parkBlocks_runs (hk : k.stage) (hp : k.power) (hpm : k.permit) (hl : k.link) (s : State) :
    Runs k s (parkBlocks s) := by
  have h1 : Runs k s { s with runOn := none } := .busy (Busy.latch (l := s.stopLatch))
  have h2 : Runs k { s with runOn := none } { s with power := .parked, runOn := none } := Runs.power hp
  exact ((((h1.trans h2).trans (setStage_runs hk 0 _)).trans (parkFront_runs s)).trans (parkDoors_runs hpm _)).trans
    (parkBack_runs hl _)

theorem wakeLink_runs (hp : k.power) (hl : k.link) (s : State) : Runs k s (wakeLink s) := by
  have h1 : Runs k s { s with power := .active } := Runs.power hp
  have h2 : Runs k { s with power := .active } { s with power := .active, base := s.now } :=
    Runs.marks (fo := s.flashOrigin) (cy := s.cycles) (bu := s.bulb) (ig := s.ignition) (di := s.direct) (la := s.label)
  exact ((h1.trans h2).trans (emptyLink_runs hl rfl rfl)).trans (.quiet (decideAttn_quiet _))

theorem wakeGauges_runs (s : State) : Runs k s (wakeGauges s) := by
  have h1 : Runs k s { s with flashOrigin := s.now } :=
    Runs.marks (ba := s.base) (cy := s.cycles) (bu := s.bulb) (ig := s.ignition) (di := s.direct) (la := s.label)
  unfold wakeGauges
  refine Runs.trans ?_ (.busy (clearCodes_busy _ _))
  exact h1.trans (gauges_runs (wokenGauge_entry _))

/-- Wake in RUN up to the doors. -/
def wakeFront (s : State) : State :=
  takeUpConditions (wakeGauges (takeUpSpeed (clearResidues (startPulses (startSupervision
    (wakeSlots (setStage 1 (wakeLink s))))))))

/-- Wake in RUN. -/
def wakeRun (s : State) : State := raiseOpenLoads (takeUpRest (wakeFront s))

/-- Wake in SETUP. -/
def wakeSetup (s : State) : State := raiseOpenLoads (wakeGauges (clearResidues (wakeSlots (wakeLink s))))

/-- With the ignition off the run-on timer starts at wake. -/
def wakeRunOn (s : State) : State := if s.ignition.accepted then s else startRunOn s

theorem wakeRunOn_busy (s : State) : Busy True True s (wakeRunOn s) :=
  Busy.ite (fun _ => Busy.refl s) fun _ => startRunOn_busy s

theorem wake_eq_of_run {s : State} (h : s.isRun = true) : wake s = wakeRunOn (wakeRun s) := by
  have h' : (wakeLink s).isRun = true := h
  unfold wake
  dsimp only
  rw [if_pos h']
  exact id (wakeRunOn.eq_1 _).symm

theorem wake_eq_of_setup {s : State} (h : s.isRun = false) : wake s = wakeRunOn (wakeSetup s) := by
  have h' : (wakeLink s).isRun = false := h
  unfold wake
  dsimp only
  rw [if_neg (by simp [h'])]
  exact id (wakeRunOn.eq_1 _).symm

theorem wakeFront_runs (hk : k.stage) (s : State) : Runs k (wakeLink s) (wakeFront s) := by
  have h := (((setStage_runs hk 1 (wakeLink s)).trans (wakeSlots_runs _)).trans (startSupervision_runs _)).trans
    ((startPulses_runs _).trans (.busy (clearResidues_busy _)))
  exact (h.trans (takeUpSpeed_runs hk _)).trans ((wakeGauges_runs _).trans (takeUpConditions_runs hk _))

theorem wakeRun_runs (hk : k.stage) (s : State) : Runs k (wakeLink s) (wakeRun s) :=
  ((wakeFront_runs hk s).trans (takeUpRest_runs hk _)).trans (.busy (raiseOpenLoads_busy _))

theorem wakeSetup_runs (s : State) : Runs k (wakeLink s) (wakeSetup s) :=
  (wakeSlots_runs _).trans (((Runs.busy (clearResidues_busy _)).trans (wakeGauges_runs _)).trans
    (.busy (raiseOpenLoads_busy _)))

/-- Wake after its first step. -/
theorem wake_rest_runs (hk : k.stage) (s : State) : Runs k (wakeLink s) (wake s) := by
  cases hrun : s.isRun with
  | true => exact wake_eq_of_run hrun ▸ (wakeRun_runs hk s).trans (.busy (wakeRunOn_busy _))
  | false => exact wake_eq_of_setup hrun ▸ (wakeSetup_runs s).trans (.busy (wakeRunOn_busy _))

theorem wake_runs (hk : k.stage) (hp : k.power) (hl : k.link) (s : State) : Runs k s (wake s) :=
  (wakeLink_runs hp hl s).trans (wake_rest_runs hk s)

/-! ### Ignition (R200 to R202) -/

theorem writeIgnition_busy (on : Bool) (s : State) : Busy True True s (writeIgnition on s) :=
  publish_busy (by decide) _ s

theorem cycles_runs (n : Nat) (s : State) : Runs k s { s with cycles := n } :=
  Runs.marks (ba := s.base) (fo := s.flashOrigin) (bu := s.bulb) (ig := s.ignition) (di := s.direct) (la := s.label)

theorem putIgnition_runs (i : Ignition) (s : State) : Runs k s (putIgnition i s) :=
  Runs.marks (ba := s.base) (fo := s.flashOrigin) (cy := s.cycles) (bu := s.bulb) (di := s.direct) (la := s.label)

theorem stopRunOn_runs (s : State) : Runs k s { s with runOn := none } := .busy (Busy.latch (l := s.stopLatch))

/-- The cycle is counted and published, the memory healed, the run-on timer stopped and the lockouts lifted. -/
theorem ignitionOn_front_runs (s : State) : Runs k s
    (let n := bump16 (writeIgnition true s).cycles
     liftLockouts
      { healingPass (publish slotIgnitionCycles n { writeIgnition true s with cycles := n }) with runOn := none }) := by
  have h1 := (Runs.busy (k := k) (writeIgnition_busy true s)).trans
    (cycles_runs (bump16 (writeIgnition true s).cycles) _)
  have h2 := (h1.trans (.busy (publish_busy (k := slotIgnitionCycles) (by decide)
    (bump16 (writeIgnition true s).cycles) _))).trans (.busy (healingPass_busy _))
  exact (h2.trans (stopRunOn_runs _)).trans (liftLockouts_runs _)

theorem ignitionOnGauges_runs (s : State) : Runs k s { s with gauges := vmap s.ignitionOnGauge s.gauges } :=
  gauges_runs (ignitionOnGauge_entry s)

theorem ignitionOn_runs (s : State) : Runs k s (ignitionOn s) := by
  have h := (ignitionOn_front_runs (k := k) s).trans (ignitionOnGauges_runs _)
  unfold ignitionOn
  simp only
  split
  · exact h.trans (beginBulb_runs _)
  · exact h

theorem ignitionOff_runs (s : State) : Runs k s (ignitionOff s) :=
  (((Runs.busy (writeIgnition_busy false s)).trans (endBulb_runs _)).trans (gauges_runs ignitionOff_entry)).trans
    (.busy ((tellTest_busy _).trans (startRunOn_busy _)))

theorem firstIgnition_busy (on : Bool) (s : State) : Busy True True s (firstIgnition on s) :=
  Busy.ite (fun _ => writeIgnition_busy on s) fun _ => (writeIgnition_busy on s).trans (startRunOn_busy _)

/-! ### Input lines (R114, R115), while the part is ACTIVE -/

theorem putInput_runs {l : Fin 24} {u : InputUnit} {s : State} (he : u.entry = s.inputs[l].entry) :
    Runs k s (putInput l u s) :=
  Runs.inputs (vput_map _ _ _ _ he)

theorem deliverLine_runs (l : Fin 24) {s : State} (hact : s.isActive = true) : Runs k s (deliverLine l s) := by
  unfold deliverLine
  simp only
  split
  · exact Runs.refl s
  · exact Runs.ite (fun _ => .quiet (acknowledge_quiet (.inl trivial))) fun _ => Runs.refl s
  · exact Runs.ite (fun _ => .busy (pressStop_busy s)) fun _ => Runs.refl s
  · exact Runs.ite (fun _ => .busy (deliverInput_busy l s)) fun _ => Runs.refl s
  · refine Runs.ite (fun hp => ?_) fun _ => Runs.ite (fun _ => ?_) fun _ => Runs.refl s
    · simp [hact] at hp
    · split
      · exact .busy (doorInput_busy _ _ _ s)
      · exact Runs.refl s

theorem acceptLine_runs (l : Fin 24) {s : State} (hact : s.isActive = true) : Runs k s (acceptLine l s) :=
  (putInput_runs (by rfl)).trans (deliverLine_runs l hact)

theorem beginPending_runs (l : Fin 24) {s : State} (hact : s.isActive = true) : Runs k s (beginPending l s) :=
  Runs.ite (fun _ => acceptLine_runs l hact) fun _ => putInput_runs rfl

end

end Sys2Proof.Machine
end

section
/-! PROOFS. Every command is a run of updates and of transitions of the part: the table writes, the requests, the panel
link, and `exec` itself. -/

namespace Sys2Proof.Machine

section
variable {k : Scope}

/-- A unit that an index names has that index. -/
theorem val_of_unit? {n i : Nat} {u : Fin n} (h : unit? n i = some u) : u.val = i := by
  simp only [unit?] at h
  split at h
  · exact Option.some.inj h ▸ rfl
  · exact absurd h nofun

/-! ### Table writes (R1 to R192) -/

theorem writePort_runs (hk : k.edit) (i : Nat) (e : Option PortEntry) (s : State) :
    Runs k s (writePort i e s).2 := by
  unfold writePort
  split
  · exact Runs.refl s
  next p _ =>
    split
    · exact Runs.refl s
    · split
      · exact Runs.refl s
      next e =>
        split
        · have h1 : Runs k s (putPort p { s.ports[p] with entry := e } s) := by
            refine Runs.edit hk (fun i => ?_) id
            rw [vput_get]
            split
            next h => rw [h]
            next => rfl
          have h2 := ((h1.trans (flush_runs p _)).trans (clearRecovery_runs p _)).trans
            (setPortState_runs p (if e.enabled then .online else .disabled) _)
          exact Runs.ite (fun _ => h2.trans (.busy (clearFault_busy _ _ _))) fun _ => h2
        · exact Runs.refl s

theorem writeMatch_runs (hk : k.edit) (i : Nat) (e : Option MatchEntry) (s : State) :
    Runs k s (writeMatch i e s).2 := by
  unfold writeMatch
  split
  · exact Runs.refl s
  next m _ =>
    split
    · exact Runs.refl s
    · split
      · exact Runs.refl s
      · split
        · refine Runs.trans ?_ (.busy ((clearFault_busy _ _ _).trans (clearFault_busy _ _ _)))
          exact Runs.edit hk (fun _ => rfl) id
        · exact Runs.refl s

theorem writeSlot_runs (hk : k.edit) (i : Nat) (e : Option SlotDesc) (s : State) :
    Runs k s (writeSlot i e s).2 := by
  unfold writeSlot
  split
  · exact Runs.refl s
  next j _ =>
    split
    · exact Runs.refl s
    · split
      · exact Runs.refl s
      next e =>
        split
        · exact Runs.refl s
        · split
          · exact Runs.refl s
          · have h1 : Runs k s { s with descs := vput s.descs j e } := Runs.edit hk (fun _ => rfl) id
            exact h1.trans (.busy ((emptySlot_busy _ _ _).trans (stampSlot_busy _ _)))

theorem writeSpeedEntry_runs (hk : k.edit) (i : Nat) (e : Option SpeedEntry) (s : State) :
    Runs k s (writeSpeedEntry i e s).2 := by
  unfold writeSpeedEntry
  split
  · exact Runs.refl s
  · split
    · exact Runs.refl s
    · split
      · exact Runs.refl s
      next e =>
        split
        · have h1 : Runs k s { s with speed := { s.speed with entry := e } } := Runs.edit hk (fun _ => rfl) id
          exact h1.trans (.busy (clearResidues_busy _))
        · exact Runs.refl s

theorem writePulse_runs (hk : k.edit) (i : Nat) (e : Option PulseEntry) (s : State) :
    Runs k s (writePulse i e s).2 := by
  unfold writePulse
  split
  · exact Runs.refl s
  · split
    · exact Runs.refl s
    · split
      · exact Runs.refl s
      · split
        · exact Runs.edit hk (fun _ => rfl) id
        · exact Runs.refl s

theorem writeInput_runs (hk : k.edit) (i : Nat) (e : Option InputEntry) {s : State} (hact : s.isActive = true) :
    Runs k s (writeInput i e s).2 := by
  unfold writeInput
  split
  · exact Runs.refl s
  next l _ =>
    split
    · exact Runs.refl s
    · split
      · exact Runs.refl s
      next e =>
        split
        · have h1 : Runs k s (putInput l { s.inputs[l] with entry := e, pending := none } s) :=
            Runs.edit hk (fun _ => rfl) id
          exact Runs.ite (fun _ => h1) fun _ => h1.trans (beginPending_runs l hact)
        · exact Runs.refl s

theorem writeOutput_runs (hk : k.edit) (i : Nat) (e : Option OutputEntry) (s : State) :
    Runs k s (writeOutput i e s).2 := by
  unfold writeOutput
  split
  · exact Runs.refl s
  next l hl =>
    split
    · exact Runs.refl s
    · split
      · exact Runs.refl s
      · split
        next h =>
          refine Runs.editOutput hk ?_
          rw [val_of_unit? hl]
          exact (Bool.and_eq_true _ _ ▸ h).2
        next => exact Runs.refl s

theorem writeGauge_runs (hk : k.edit) (i : Nat) (e : Option GaugeEntry) (s : State) :
    Runs k s (writeGauge i e s).2 := by
  unfold writeGauge
  split
  · exact Runs.refl s
  next g _ =>
    split
    · exact Runs.refl s
    next e =>
      split
      · exact Runs.refl s
      · split
        · exact Runs.refl s
        · have h1 : Runs k s { s with gauges := vput s.gauges g (s.gaugeWritten s.gauges[g] e) } :=
            Runs.edit hk (fun _ => rfl) id
          have h2 := Runs.ite
            (p := s.gauges[g].state = .fault ∧ (s.gaugeWritten s.gauges[g] e).state ≠ .fault)
            (fun _ => h1.trans (.busy (clearFault_busy .gaugeHome (some g.val) _))) (fun _ => h1)
          exact Runs.ite (fun _ => h2.trans (.busy (endTest_busy _))) fun _ => h2

theorem writeCondition_runs (hk : k.edit) (i : Nat) (e : Option CondEntry) (s : State) :
    Runs k s (writeCondition i e s).2 := by
  unfold writeCondition
  split
  · exact Runs.refl s
  next c _ =>
    split
    · exact Runs.refl s
    next e =>
      split
      · exact Runs.refl s
      · split
        · have h1 : Runs k s
              { s with conds := vput s.conds c (CondUnit.clear { s.conds[c] with entry := e }) } :=
            Runs.edit hk (fun _ => rfl) id
          exact h1.trans (.quiet ((putCond_tells c _ s).trans (evaluate_quiet c _)))
        · exact Runs.refl s

theorem writeTelltale_runs (hk : k.edit) (i : Nat) (e : Option TelltaleEntry) (s : State) :
    Runs k s (writeTelltale i e s).2 := by
  unfold writeTelltale
  split
  · exact Runs.refl s
  next t _ =>
    split
    · exact Runs.refl s
    next e =>
      split
      · have h1 : Runs k s (setTelltale t .dark (withdrawRequest (telltaleRequester t) s)) :=
          .quiet ((withdrawRequest_quiet _ s).trans (setTelltale_quiet _ _ (.inl trivial)))
        have hput : ∀ a : State,
            Runs k a (redrive { a with telltales := vput a.telltales t { a.telltales[t] with entry := e } }) := fun a =>
          Runs.trans (b := { a with telltales := vput a.telltales t { a.telltales[t] with entry := e } })
            (Runs.edit hk (fun _ => rfl) id) (.quiet (redrive_quiet _))
        have h2 := h1.trans (hput _)
        unfold writeTelltaleEntry
        simp only
        split
        · exact Runs.ite (fun _ => h2.trans (.quiet (setTelltale_quiet _ _ (.inl trivial)))) fun _ => h2
        · exact h2
      · exact Runs.refl s

theorem writeChime_runs (hk : k.edit) (i : Nat) (e : Option ChimePattern) (s : State) :
    Runs k s (writeChime i e s).2 := by
  unfold writeChime
  split
  · exact Runs.refl s
  next p _ =>
    split
    · exact Runs.refl s
    next e =>
      split
      · have h1 : Runs k s { s with chime := { s.chime with patterns := vput s.chime.patterns p e } } :=
          Runs.edit hk (fun _ => rfl) id
        have h2 := h1.trans (.quiet (arbitrate_quiet _))
        unfold writeChimeEntry
        simp only
        split
        · split
          · exact Runs.ite (fun _ => h2.trans (.quiet (Quiet.chime rfl (.inl trivial)))) fun _ => h2
          · exact h2
        · exact h1
      · exact Runs.refl s

/-- In SETUP a DOOR write keeps the door's state and fields. -/
theorem writeDoor_runs (hk : k.edit) (i : Nat) (e : Option DoorEntry) (s : State) :
    Runs k s (writeDoor i e s).2 := by
  unfold writeDoor
  split
  · exact Runs.refl s
  · split
    · exact Runs.refl s
    next hlocked =>
      have hsetup : s.mode = .setup := by
        cases hm : s.mode with
        | setup => rfl
        | run => simp [State.locked, State.isRun, hm] at hlocked
      split
      · exact Runs.refl s
      · split
        · exact Runs.editDoor hk hsetup rfl rfl
        · exact Runs.refl s

/-- A confirm time written keeps the pairs of the live set. -/
theorem setConfirmTime_runs (hk : k.edit) (n : Fin 21) (ms : Nat) (s : State) : Runs k s (setConfirmTime n ms s) := by
  refine Runs.trans ?_ (.busy (confirmDue_busy _ _))
  refine Runs.edit hk (fun _ => rfl) fun hb => bounded_of_samePairs ?_ hb
  exact map_pairs (fun e => by split <;> exact ⟨rfl, rfl⟩) _

theorem writeFaultCfg_runs (hk : k.edit) (i : Nat) (e : Option FaultCfgEntry) (s : State) :
    Runs k s (writeFaultCfg i e s).2 := by
  unfold writeFaultCfg
  split
  · exact Runs.refl s
  · split
    · split
      · exact setConfirmTime_runs hk _ _ s
      · exact Runs.refl s
    · split
      · exact Runs.edit hk (fun _ => rfl) id
      · exact Runs.refl s
    · exact Runs.refl s
    · exact Runs.refl s

theorem writeService_runs (hk : k.edit) (i : Nat) (e : Option ServiceEntry) (s : State) :
    Runs k s (writeService i e s).2 := by
  unfold writeService
  split
  · exact Runs.refl s
  · split
    · exact Runs.refl s
    · split
      · exact Runs.refl s
      next e =>
        split
        · have h1 : Runs k s { s with service := { s.service with entry := e } } := Runs.edit hk (fun _ => rfl) id
          exact h1.trans (.busy (abandon_busy _))
        · exact Runs.refl s

theorem writeSystem_runs (hk : k.edit) (i : Nat) (e : Option SystemEntry) (s : State) :
    Runs k s (writeSystem i e s).2 := by
  unfold writeSystem
  split
  · exact Runs.refl s
  · split
    · exact Runs.refl s
    next e =>
      split
      · have h1 : Runs k s { s with system := e } := Runs.edit hk (fun _ => rfl) id
        exact (h1.trans (.quiet (decideAttn_quiet _))).trans (.busy (tellTest_busy _))
      · exact Runs.refl s

/-! ### Requests -/

@[simp] theorem accept_after (d : ResponseData) (s : State) : (accept d s).after = s := rfl

@[simp] theorem refuse_after (r : Result) (s : State) : (refuse r s).after = s := rfl

/-- START and STOP. -/
def turnsMode : Request → Bool
  | .start _ => true
  | .stop => true
  | _ => false

/-- The activity indications are cleared. -/
theorem clearActivity_runs (s : State) :
    Runs k s { s with ports := vmap (fun u => { u with activity := false }) s.ports } :=
  Runs.ports (vmap_map _ _ _ fun _ => rfl) fun p h => by rwa [vmap_get]

theorem serveTableRead_after (t : TableId) (i : Nat) (s : State) : (serveTableRead t i s).after = s := by
  unfold serveTableRead
  split <;> rfl

theorem serveFlagsClear_runs (f : BitVec 16) (s : State) : Runs k s (serveFlagsClear f s).after := by
  unfold serveFlagsClear
  split
  · exact Runs.refl s
  · exact Runs.flags

theorem serveCounters_after (g f c : Nat) (s : State) : (serveCounters g f c s).after = s := by
  unfold serveCounters
  split
  case h_2 => split <;> rfl
  all_goals rfl

theorem serveSignalWrite_runs (i : Nat) (v : Int) (s : State) : Runs k s (serveSignalWrite i v s).after := by
  unfold serveSignalWrite
  split
  · exact Runs.refl s
  · split
    · exact Runs.refl s
    · split
      · exact .busy (signalWritten_busy _ v s)
      · exact Runs.refl s

theorem serveSignalRead_after (i : Nat) (s : State) : (serveSignalRead i s).after = s := by
  unfold serveSignalRead
  split <;> rfl

theorem serveOdometer_runs (m : Nat) (s : State) : Runs k s (serveOdometer m s).after := by
  unfold serveOdometer
  split
  · exact Runs.refl s
  · split
    · exact Runs.refl s
    · have h1 : Runs k s { s with speed := { s.speed with total := m, delta := 0 } } := .busy (Busy.speedUnit rfl)
      exact h1.trans (.busy ((clearResidues_busy _).trans (publish_busy (by decide) _ _)))

theorem serveTx_runs (p f i : Nat) (d : List Byte) (s : State) : Runs k s (serveTx p f i d s).after := by
  unfold serveTx
  split
  · exact Runs.refl s
  · split
    · exact Runs.refl s
    · split
      · exact Runs.refl s
      · split
        · exact Runs.refl s
        · exact offerFrame_runs _ _ _ s

theorem serveDoor_runs (d : Nat) (a : Option DoorAction) (s : State) : Runs k s (serveDoor d a s).after := by
  unfold serveDoor
  split
  · exact Runs.refl s
  · split
    · exact Runs.refl s
    next a =>
      split
      · exact Runs.refl s
      · split
        · exact Runs.refl s
        · dsimp only
          split
          · exact .busy (requestDoor_busy _ a s)
          · exact .busy (requestDoor_busy _ a s)

theorem serveChime_runs (p : Nat) (s : State) : Runs k s (serveChime p s).after := by
  unfold serveChime
  split
  · exact Runs.refl s
  · split
    · exact Runs.refl s
    · exact .quiet (placeRequest_quiet _ _ (.inl trivial))

theorem serveOutput_runs (l v : Nat) (s : State) : Runs k s (serveOutput l v s).after := by
  unfold serveOutput
  split
  · exact Runs.refl s
  next l _ =>
    split
    · exact Runs.refl s
    · split
      · exact Runs.refl s
      · refine Runs.trans ?_ (.quiet (redrive_quiet _))
        refine Runs.panelValues (vput_map OutputUnit.entry _ _ _ rfl) fun j => ?_
        rw [vput_get]
        split
        next h => rw [h]
        next => rfl

theorem serveFaultRead_after (f : Option FaultSelector) (p : Nat) (s : State) : (serveFaultRead f p s).after = s := by
  unfold serveFaultRead
  split
  · rfl
  · split <;> rfl

theorem serveFaultClear_runs (s : State) : Runs k s (serveFaultClear s).after := by
  unfold serveFaultClear
  split
  · exact .busy (clearMemory_busy s)
  · exact Runs.refl s

theorem serveStart_runs (hk : k.turn) (hst : k.stage) (l : BitVec 32) (s : State) :
    Runs k s (serveStart l s).after := by
  unfold serveStart
  split
  · exact Runs.refl s
  · split
    · exact Runs.refl s
    · rw [accept_after]
      exact takeStart_runs hk hst l s

theorem serveStop_runs (hk : k.turn) (hst : k.stage) (s : State) : Runs k s (serveStop s).after := by
  unfold serveStop
  split
  · rw [accept_after]
    exact takeStop_runs hk hst s
  · exact Runs.refl s

/-- What serving a request can do: only TABLE_WRITE edits, only START and STOP turn, only RESTART touches the link. -/
theorem serveRequest_runs (r : Request) {s : State} (hact : s.isActive = true) (hedit : requestCode r = 1 → k.edit)
    (hturn : turnsMode r = true → k.turn ∧ k.stage) (hlink : r = .restart → k.link) : Runs k s (serveRequest r s).after := by
  cases r with
  | badRequest c => exact Runs.refl s
  | badLength c => exact Runs.refl s
  | badTable c => exact Runs.refl s
  | tableWritePort i e => exact writePort_runs (hedit rfl) i e s
  | tableWriteMatch i e => exact writeMatch_runs (hedit rfl) i e s
  | tableWriteSlot i e => exact writeSlot_runs (hedit rfl) i e s
  | tableWriteSpeed i e => exact writeSpeedEntry_runs (hedit rfl) i e s
  | tableWritePulse i e => exact writePulse_runs (hedit rfl) i e s
  | tableWriteInput i e => exact writeInput_runs (hedit rfl) i e hact
  | tableWriteOutput i e => exact writeOutput_runs (hedit rfl) i e s
  | tableWriteGauge i e => exact writeGauge_runs (hedit rfl) i e s
  | tableWriteCondition i e => exact writeCondition_runs (hedit rfl) i e s
  | tableWriteTelltale i e => exact writeTelltale_runs (hedit rfl) i e s
  | tableWriteChime i e => exact writeChime_runs (hedit rfl) i e s
  | tableWriteDoor i e => exact writeDoor_runs (hedit rfl) i e s
  | tableWriteFaultCfg i e => exact writeFaultCfg_runs (hedit rfl) i e s
  | tableWriteService i e => exact writeService_runs (hedit rfl) i e s
  | tableWriteSystem i e => exact writeSystem_runs (hedit rfl) i e s
  | tableRead t i => exact (serveTableRead_after t i s).symm ▸ Runs.refl s
  | start l => exact serveStart_runs (hturn rfl).1 (hturn rfl).2 l s
  | stop => exact serveStop_runs (hturn rfl).1 (hturn rfl).2 s
  | statusRead => exact clearActivity_runs s
  | flagsClear f => exact serveFlagsClear_runs f s
  | counterRead g f c => exact (serveCounters_after g f c s).symm ▸ Runs.refl s
  | heartbeat => exact Runs.refl s
  | restart => exact link_runs (hlink rfl) rfl rfl
  | wake => exact Runs.refl s
  | signalWrite i v => exact serveSignalWrite_runs i v s
  | signalRead i => exact (serveSignalRead_after i s).symm ▸ Runs.refl s
  | distanceRead => exact .busy (Busy.speedUnit rfl)
  | odometerSet m => exact serveOdometer_runs m s
  | txFrame p f i d => exact serveTx_runs p f i d s
  | doorRequest d a => exact serveDoor_runs d a s
  | warningAck => exact .quiet (acknowledge_quiet (.inl trivial))
  | chime p => exact serveChime_runs p s
  | chimeStop => exact .quiet (withdrawRequest_quiet _ s)
  | outputSet l v => exact serveOutput_runs l v s
  | faultRead f p => exact (serveFaultRead_after f p s).symm ▸ Runs.refl s
  | faultClear => exact serveFaultClear_runs s

end

/-- The scope of START, STOP and the table writes. -/
def Scope.serving : Scope :=
  { turn := True, stage := True, power := False, permit := False, edit := True, link := False }

/-- Serving a request leaves the link's buffers, the power state and, but for a RESTART, the link. -/
theorem serveRequest_buffers (r : Request) {s : State} (hact : s.isActive = true) :
    (serveRequest r s).after.link.ingress = s.link.ingress ∧ (serveRequest r s).after.link.egress = s.link.egress := by
  by_cases h : r = .restart
  · subst h
    exact ⟨rfl, rfl⟩
  · have hrun : Runs Scope.serving s (serveRequest r s).after :=
      serveRequest_runs r hact (fun _ => trivial) (fun _ => ⟨trivial, trivial⟩) fun hr => absurd hr h
    rw [hrun.link_eq id]
    exact ⟨rfl, rfl⟩

theorem serveRequest_power (r : Request) {s : State} (hact : s.isActive = true) :
    (serveRequest r s).after.power = s.power :=
  have hrun : Runs { Scope.serving with link := True } s (serveRequest r s).after :=
    serveRequest_runs r hact (fun _ => trivial) (fun _ => ⟨trivial, trivial⟩) fun _ => trivial
  hrun.power_eq id

end Sys2Proof.Machine
end

section
/-! PROOFS. `Acts` adds to the runs of updates the transitions of the part. Every command acts so; a command that is no
TABLE_WRITE and brings no restart does it without an edit and without a restart. -/

namespace Sys2Proof.Machine

/-- The scope of an update that is no transition of the part; tables are edited only where `free` holds. -/
def Scope.steady (free : Prop) : Scope :=
  { turn := False, stage := False, power := False, permit := False, edit := free, link := True }

/-- The scope that adds nothing to the updates of the blocks. -/
def Scope.closed : Scope :=
  { turn := False, stage := False, power := False, permit := False, edit := False, link := False }

/-- `t` follows from `s` by updates and transitions of the part; restarts happen only where `free` holds. -/
inductive Acts (free : Prop) : State → State → Prop
  | trans {a b c : State} : Acts free a b → Acts free b c → Acts free a c
  | runs {s t : State} : Runs (Scope.steady free) s t → Acts free s t
  | start (label : BitVec 32) {s : State} (h : s.isActive = true) : Acts free s (takeStart label s)
  | stop {s : State} (h : s.isActive = true) : Acts free s (takeStop s)
  | wakes {s : State} (h : s.isActive = false) : Acts free s (wake s)
  | parks {s : State} (h : s.isActive = true) : Acts free s (parkBlocks s)
  | restarts {s : State} (h : free) : Acts free s (restart s)
  | holds (s : State) : Acts free s (holdReset s)
  | powers {s : State} (h : free) : Acts free s (powerOn s)

section
variable {free : Prop}

theorem Acts.refl (s : State) : Acts free s s := .runs (Runs.refl s)

theorem Acts.ite {p : Prop} [Decidable p] {s a b : State} (ha : p → Acts free s a) (hb : ¬p → Acts free s b) :
    Acts free s (if p then a else b) := by
  split
  next h => exact ha h
  next h => exact hb h

theorem Acts.busy {s t : State} (h : Busy True True s t) : Acts free s t := .runs (.busy h)

theorem Acts.quiet {s t : State} (h : Quiet True s t) : Acts free s t := .runs (.quiet h)

/-! ### Ignition and input lines -/

theorem wakeIfParked_acts (s : State) : Acts free s (wakeIfParked s) :=
  Acts.ite (fun _ => Acts.refl s) fun h => Acts.wakes (by simpa using h)

theorem acceptIgnition_acts (s : State) : Acts free s (acceptIgnition s) := by
  refine Acts.ite (fun _ => ?_) fun _ => Acts.ite (fun _ => ?_) fun _ => Acts.refl s
  · have h1 := fun i => Acts.runs (free := free) (putIgnition_runs i s)
    have h2 := fun i => Acts.ite (p := (!s.ignition.accepted) = true) (fun _ => (h1 i).trans (wakeIfParked_acts _))
      fun _ => h1 i
    replace h2 := h2
      { s.ignition with accepted := !s.ignition.accepted, pending := none, first := true, offHold := none }
    refine Acts.ite (fun _ => h2.trans (.busy (firstIgnition_busy _ _))) fun _ => ?_
    exact Acts.ite (fun _ => h2.trans (.runs (ignitionOn_runs _))) fun _ => h2.trans (.runs (ignitionOff_runs _))
  · exact (Acts.runs (putIgnition_runs _ s)).trans (.busy (firstIgnition_busy _ _))

/-- In PARKED a delivered change at most wakes the part. -/
theorem deliverLine_acts (l : Fin 24) (s : State) : Acts free s (deliverLine l s) := by
  by_cases hact : s.isActive = true
  · exact .runs (deliverLine_runs l hact)
  · have hparked : s.isActive = false := by simpa using hact
    unfold deliverLine
    simp only
    split
    · exact Acts.refl s
    · simp only [hparked]
      exact Acts.refl s
    · simp only [State.running, hparked, Bool.and_false]
      exact Acts.refl s
    · simp only [State.running, hparked, Bool.and_false]
      exact Acts.refl s
    · simp only [hparked]
      exact Acts.ite (fun _ => Acts.ite (fun _ => Acts.wakes hparked) fun _ => Acts.refl s) fun h => absurd rfl h

theorem acceptLine_acts (l : Fin 24) (s : State) : Acts free s (acceptLine l s) :=
  (Acts.runs (putInput_runs (by rfl))).trans (deliverLine_acts l _)

theorem beginPending_acts (l : Fin 24) (s : State) : Acts free s (beginPending l s) :=
  Acts.ite (fun _ => acceptLine_acts l s) fun _ => .runs (putInput_runs rfl)

theorem inputLine_acts (l : Fin 24) (level : Bool) (s : State) : Acts free s (inputLine l level s) := by
  have h : Acts free s (putInput l { s.inputs[l] with line := level } s) := .runs (putInput_runs rfl)
  refine Acts.ite (fun _ => h.trans (.runs (putInput_runs ?_))) fun _ =>
    Acts.ite (fun _ => h) fun _ => h.trans (beginPending_acts l _)
  simp [putInput]

theorem debounceEnd_acts (l : Fin 24) (s : State) : Acts free s (debounceEnd l s) :=
  Acts.ite (fun _ => acceptLine_acts l s) fun _ => Acts.refl s

/-! ### The panel link -/

theorem steady_link : (Scope.steady free).link := trivial

/-- The rest of a restoration touches no more of the link. -/
theorem restoreLink_runs {k : Scope} (s : State) :
    Runs k { s with link := { s.link with lost := false } } (restoreLink s) :=
  (((Runs.busy (publish_busy (by decide) _ _)).trans (.busy (clearFault_busy _ _ _))).trans (direct_runs false _)).trans
    (.quiet (redrive_quiet _))

/-- An arrival leaves the buffers. -/
theorem noteArrival_buffers (s : State) : (noteArrival s).link.ingress = s.link.ingress ∧
    (noteArrival s).link.egress = s.link.egress := by
  unfold noteArrival
  split
  · have hl := (restoreLink_runs (k := Scope.closed) s).link_eq id
    dsimp only
    rw [hl]
    exact ⟨rfl, rfl⟩
  · exact ⟨rfl, rfl⟩

theorem noteArrival_runs {k : Scope} (hk : k.link) (s : State) : Runs k s (noteArrival s) := by
  refine Runs.trans (b := if s.link.lost then restoreLink s else s) ?_ (link_runs hk rfl rfl)
  refine Runs.ite (fun _ => ?_) fun _ => Runs.refl s
  exact (link_runs (l := { s.link with lost := false }) hk rfl rfl).trans (restoreLink_runs s)

theorem joinIngress_runs {k : Scope} (hk : k.link) (f : IngressFrame) (s : State) : Runs k s (joinIngress f s) := by
  refine Runs.ite (fun hroom => Runs.link hk fun h => ?_) fun _ => link_runs hk rfl rfl
  exact ⟨by simpa using hroom, h.2⟩

/-- A response joins a queue with room for it. -/
theorem joinResponse_runs {k : Scope} (hk : k.link) (tag : Byte) (c : Nat) (r : Result) (d : ResponseData) {s : State}
    (hroom : s.link.egress.length < 31) : Runs k s (joinResponse tag c r d s) := by
  refine Runs.link hk fun h => ⟨h.1, ?_⟩
  have hlen : (s.link.egress ++ [EgressFrame.response tag c r d]).length < 32 := by
    simp only [List.length_append, List.length_singleton]
    omega
  exact ⟨hlen.le, .inl hlen⟩

theorem joinIngress_ingress (f : IngressFrame) (s : State) :
    (joinIngress f s).link.ingress = s.link.ingress ++ [f] ∨ (joinIngress f s).link.ingress = s.link.ingress := by
  unfold joinIngress
  split
  · exact .inl rfl
  · exact .inr rfl

/-- The request a frame carries may be served without an edit. -/
def EditFree (free : Prop) (fs : List IngressFrame) : Prop := free ∨ ∀ f ∈ fs, requestCode f.request ≠ 1

theorem serveRequest_acts (r : Request) {s : State} (hact : s.isActive = true) (h : free ∨ requestCode r ≠ 1) :
    Acts free s (serveRequest r s).after := by
  by_cases hturn : turnsMode r = true
  · cases r with
    | start l =>
      show Acts free s (serveStart l s).after
      unfold serveStart
      split
      · exact Acts.refl s
      · split
        · exact Acts.refl s
        · rw [accept_after]
          exact Acts.start l hact
    | stop =>
      show Acts free s (serveStop s).after
      unfold serveStop
      split
      · rw [accept_after]
        exact Acts.stop hact
      · exact Acts.refl s
    | _ => exact absurd hturn nofun
  · refine .runs (serveRequest_runs r hact (fun hc => ?_) (fun ht => absurd ht hturn) fun _ => trivial)
    exact h.resolve_right fun hne => hne hc

theorem serveOne_acts (f : IngressFrame) {s : State} (hact : s.isActive = true)
    (hroom : s.link.egress.length < 31) (h : free ∨ requestCode f.request ≠ 1) : Acts free s (serveOne f s) := by
  refine (serveRequest_acts f.request hact h).trans (.runs (joinResponse_runs trivial _ _ _ _ ?_))
  rwa [(serveRequest_buffers f.request hact).2]

theorem serveOne_ingress (f : IngressFrame) {s : State} (hact : s.isActive = true) :
    (serveOne f s).link.ingress = s.link.ingress := (serveRequest_buffers f.request hact).1

theorem serveOne_active (f : IngressFrame) {s : State} (hact : s.isActive = true) :
    (serveOne f s).isActive = true := by
  have h : (serveOne f s).power = s.power := serveRequest_power f.request hact
  rw [State.isActive, h]
  exact hact

theorem serveIngress_acts (n : Nat) {s : State} (hact : s.isActive = true) (h : EditFree free s.link.ingress) :
    Acts free s (serveIngress n s) := by
  induction n generalizing s with
  | zero => exact Acts.refl s
  | succ n ih =>
    unfold serveIngress
    split
    next hmay =>
      simp only [State.mayServe, Bool.and_eq_true, decide_eq_true_eq] at hmay
      split
      · exact Acts.refl s
      next f rest hi =>
        have hact' : State.isActive { s with link := { s.link with ingress := rest } } = true := hact
        have h1 : Acts free s { s with link := { s.link with ingress := rest } } := by
          refine .runs (Runs.link trivial fun hb => ⟨?_, hb.2⟩)
          have := hb.1
          rw [hi, List.length_cons] at this
          exact Nat.le_of_succ_le this
        rw [hi] at h
        have h2 := serveOne_acts f hact' hmay.2 (h.imp_right fun h => h f (by simp))
        refine (h1.trans h2).trans (ih (serveOne_active f hact') ?_)
        rw [serveOne_ingress f hact']
        exact h.imp_right fun h g hg => h g (by simp [hg])
    next => exact Acts.refl s

theorem serveAll_acts {s : State} (hact : s.isActive = true) (h : EditFree free s.link.ingress) :
    Acts free s (serveAll s) := serveIngress_acts _ hact h

/-- Reception in PARKED only counts and wakes. -/
theorem receiveParked_acts (p : Fin 3) {s : State} (hact : s.isActive = false) : Acts free s (receiveParked p s) :=
  Acts.ite (fun _ => (Acts.runs (countReception_runs p s)).trans (.wakes hact)) fun _ => Acts.refl s

theorem receiveFrame_acts (p : Fin 3) (f : RxFrame) (s : State) : Acts free s (receiveFrame p f s) :=
  Acts.ite (fun _ => .runs (receiveActive_runs trivial p f s)) fun h => receiveParked_acts p (by simpa using h)

theorem receiveService_acts (data : List Byte) (s : State) : Acts free s (receiveService data s) :=
  receiveFrame_acts _ _ s

/-- Wake leaves the egress queue empty. -/
theorem wake_egress (s : State) : (wake s).link.egress = [] := by
  have h : Runs { Scope.closed with stage := True } (wakeLink s) (wake s) := wake_rest_runs trivial s
  rw [h.link_eq id]
  rfl

theorem requestArrives_acts (tag : Byte) (r : Request) (s : State)
    (h : free ∨ s.link.ingress = [] ∧ requestCode r ≠ 1) : Acts free s (requestArrives tag r s) := by
  refine Acts.ite (fun hact => ?_) fun hact => ?_
  · have h1 : Runs (Scope.steady free) s (joinIngress { tag := tag, request := r } (noteArrival s)) :=
      (noteArrival_runs trivial s).trans (joinIngress_runs trivial _ _)
    have hact' : State.isActive (joinIngress { tag := tag, request := r } (noteArrival s)) = true := by
      rw [State.isActive, h1.power_eq id]
      exact hact
    refine (Acts.runs h1).trans (serveAll_acts hact' (h.imp_right fun ⟨hi, hr⟩ f hf => ?_))
    have hn := (noteArrival_buffers s).1
    rcases joinIngress_ingress { tag := tag, request := r } (noteArrival s) with hj | hj
    · rw [hj, hn, hi] at hf
      exact (List.mem_singleton.mp hf) ▸ hr
    · rw [hj, hn, hi] at hf
      exact absurd hf (List.not_mem_nil)
  · split
    · refine (Acts.wakes (by simpa using hact)).trans (.runs (joinResponse_runs trivial _ _ _ _ ?_))
      rw [wake_egress]
      decide
    · exact Acts.refl s

theorem receiveError_acts (s : State) : Acts free s (receiveError s) := .runs (link_runs trivial rfl rfl)

theorem awaitStart_acts (s : State) : Acts free s (awaitStart s) := .runs (link_runs trivial rfl rfl)

theorem frameArrives_acts (type tag : Byte) (p : List Byte) (crc : BitVec 16) (s : State)
    (h : free ∨ s.link.ingress = [] ∧ requestCode (parseRequest p) ≠ 1) :
    Acts free s (frameArrives type tag p crc s) :=
  Acts.ite (fun _ => receiveError_acts s) fun _ => Acts.ite (fun _ => requestArrives_acts tag _ s h) fun _ =>
    Acts.ite (fun _ => receiveError_acts s) fun _ => Acts.refl s

theorem headSent_acts (s : State) (h : free ∨ s.link.ingress = [] ∧ s.link.restarting = false) :
    Acts free s (headSent s) := by
  refine Acts.ite (fun hact => ?_) fun _ => Acts.refl s
  split
  · exact Acts.refl s
  next f rest he =>
    have h1 : Acts free s (putEgress rest s) := by
      refine .runs (Runs.link trivial fun hb => ⟨hb.1, ?_⟩)
      have hlen := hb.2.1
      rw [he, List.length_cons] at hlen
      exact ⟨Nat.le_of_succ_le hlen, .inl hlen⟩
    refine Acts.ite (fun hre => ?_) fun _ => h1.trans (serveAll_acts hact (h.imp_right fun ⟨hi, _⟩ g hg => ?_))
    · refine h1.trans (.restarts (h.resolve_right fun ⟨_, hno⟩ => ?_))
      rw [Bool.and_eq_true] at hre
      exact absurd hre.1 (by simp [putEgress, hno])
    · rw [show (putEgress rest s).link.ingress = [] from hi] at hg
      exact absurd hg List.not_mem_nil

/-- The loss is counted and DIRECT set. -/
theorem countLoss_runs {k : Scope} (hk : k.link) (s : State) : Runs k s
    (redrive { s with link := { s.link with linkLosses := bump32 s.link.linkLosses }, direct := true }) := by
  have h1 : Runs k s { s with link := { s.link with linkLosses := bump32 s.link.linkLosses } } := link_runs hk rfl rfl
  exact (h1.trans (direct_runs true _)).trans (.quiet (redrive_quiet _))

theorem loseLink_acts (s : State) : Acts free s (loseLink s) := by
  have h1 : Runs (Scope.steady free) s { s with link := { s.link with lost := true, timer := none } } :=
    link_runs trivial rfl rfl
  exact .runs ((h1.trans (.busy ((publish_busy (k := slotPanelLinkLost) (by decide) 1 _).trans
    (raiseFault_busy .panelLinkLost none _)))).trans (countLoss_runs trivial _))

theorem expirePanelTimer_acts (s : State) : Acts free s (expirePanelTimer s) :=
  Acts.ite (fun _ => loseLink_acts s) fun _ => Acts.refl s

/-- Replacing the unsent report changes no length, and one stays unsent. -/
theorem replaceReport_length (f : EgressFrame) (q : List EgressFrame) : (replaceReport f q).length = q.length := by
  cases q with
  | nil => rfl
  | cons h t => simp [replaceReport]

theorem replaceReport_unsent {f : EgressFrame} (hf : f.isReport = true) {q : List EgressFrame}
    (h : hasUnsentReport q = true) : hasUnsentReport (replaceReport f q) = true := by
  cases q with
  | nil => exact h
  | cons a t =>
    simp only [hasUnsentReport, replaceReport, List.drop_succ_cons, List.drop_zero, List.any_map] at h ⊢
    obtain ⟨g, hg, hr⟩ := List.any_eq_true.mp h
    exact List.any_eq_true.mpr ⟨g, hg, by simp [hr, hf]⟩

theorem offerReport_acts (s : State) : Acts free s (offerReport s) := by
  refine .runs (Runs.ite (fun hun => Runs.link trivial fun hb => ⟨hb.1, ?_⟩) fun hno => Runs.link trivial fun hb => ⟨hb.1, ?_⟩)
  · refine ⟨(replaceReport_length _ _).trans_le hb.2.1, .inr (replaceReport_unsent rfl hun)⟩
  · have hlen : s.link.egress.length < 32 := hb.2.2.resolve_right hno
    refine ⟨by simpa using hlen, ?_⟩
    by_cases h31 : s.link.egress.length < 31
    · exact .inl (by simp only [List.length_append, List.length_singleton]; omega)
    · refine .inr ?_
      have h1 : 1 ≤ s.link.egress.length := by omega
      simp only [hasUnsentReport, List.drop_append_of_le_length h1, List.any_append]
      simp [EgressFrame.isReport]

theorem expireReport_acts (s : State) : Acts free s (expireReport s) := by
  refine Acts.ite (fun _ => ?_) fun _ => Acts.refl s
  refine Acts.trans (.runs (link_runs trivial ?_ ?_)) (offerReport_acts _)
  · rfl
  · rfl

/-! ### Park and restart -/

theorem decideAttn_link (s : State) : (decideAttn s).link = s.link := rfl

theorem clearLost_link (s : State) : (clearLost s).link = { s.link with lost := false } := by
  have h : Runs Scope.closed { s with link := { s.link with lost := false } } (clearLost s) :=
    ((direct_runs false _).trans (.busy (publish_busy (by decide) _ _))).trans (.quiet (redrive_quiet _))
  exact h.link_eq id

theorem parkLink_restarting (s : State) : (parkLink s).link.restarting = s.link.restarting := by
  unfold parkLink
  split
  · show (clearLost s).link.restarting = _
    rw [clearLost_link]
  · rfl

/-- Park leaves a pending restart as it was. -/
theorem parkBlocks_restarting (s : State) : (parkBlocks s).link.restarting = s.link.restarting := by
  have hrest : Runs { Scope.closed with permit := True } (setStage 0 { s with power := .parked, runOn := none })
      (abandon (emptyLive (parkDoors (parkFront s)))) :=
    ((parkFront_runs s).trans (parkDoors_runs trivial _)).trans ((emptyLive_runs _).trans (.busy (abandon_busy _)))
  have hlink : (abandon (emptyLive (parkDoors (parkFront s)))).link = s.link := hrest.link_eq id
  rw [parkBlocks_eq, decideAttn_link, parkLink_restarting, hlink]

theorem park_acts {s : State} (hact : s.isActive = true) (h : free ∨ s.link.restarting = false) :
    Acts free s (park s) := by
  have hpark : Acts free s (parkBlocks s) := Acts.parks hact
  have hre := parkBlocks_restarting s
  unfold park
  generalize parkBlocks s = p at hpark hre
  refine Acts.ite (fun hp => hpark.trans (.restarts (h.resolve_right fun hno => ?_))) fun _ => hpark
  rw [hre, hno] at hp
  exact absurd hp nofun

theorem expireRunOn_acts (s : State) (h : free ∨ s.link.restarting = false) : Acts free s (expireRunOn s) := by
  refine Acts.ite (fun hdue => Acts.ite (fun _ => park_acts ?_ h) fun _ => .busy (startRunOn_busy s)) fun _ => Acts.refl s
  rw [Bool.and_eq_true] at hdue
  exact hdue.1

end

end Sys2Proof.Machine
end

section
/-! PROOFS. Every command acts as `Acts` says, and what this gives at once: its time and the queue of commands (O53), the
tables (O54), the queues (O57) and the live fault set (O58). -/

namespace Sys2Proof.Machine

/-! ### Commands -/

/-- A request row is the arrival of its request. -/
theorem exec_request {c : Instr} {tag : Byte} {r : Request} (h : c.request? = some (tag, r)) (s : State) :
    exec c s = event c.dt s (requestArrives tag r) := by
  cases c with
  | _ =>
    simp only [Instr.request?, Option.some.injEq, Prod.mk.injEq, reduceCtorEq] at h
    try (obtain ⟨rfl, rfl⟩ := h; rfl)

/-- A command that is no TABLE_WRITE and brings no restart, with nothing that waits to do so. -/
structure Instr.Plain (c : Instr) (s : State) : Prop where
  ingress : s.link.ingress = []
  restarting : s.link.restarting = false
  request : ∀ tag r, c.request? = some (tag, r) → requestCode r ≠ 1
  frame : ∀ dt type tag p crc, c = .panelFrameReceived dt type tag p crc → requestCode (parseRequest p) ≠ 1
  reset : ∀ dt, c ≠ .resetPinHigh dt ∧ c ≠ .powerOnReset dt

section
variable {free : Prop} {s t : State} {dt : Nat} {f : State → State}

/-- An event acts as its effect does, or is lost in reset. -/
theorem event_acts (h : event dt s f = .next t) (hf : Acts free (s.elapse dt) (f (s.elapse dt))) :
    Acts free (s.elapse dt) t := by
  obtain rfl := Host.Outcome.next.inj h
  exact Acts.ite (fun _ => Acts.refl _) fun _ => hf

theorem event_runs (h : event dt s f = .next t) (hf : ∀ a, Runs (Scope.steady free) a (f a)) :
    Acts free (s.elapse dt) t := event_acts h (.runs (hf _))

theorem event_busy (h : event dt s f = .next t) (hf : ∀ a, Busy True True a (f a)) : Acts free (s.elapse dt) t :=
  event_acts h (.busy (hf _))

theorem event_quiet (h : event dt s f = .next t) (hf : ∀ a, Quiet True a (f a)) : Acts free (s.elapse dt) t :=
  event_acts h (.quiet (hf _))

theorem pinEvent_acts (h : pinEvent dt s f = .next t) (hf : Acts free (s.elapse dt) (f (s.elapse dt))) :
    Acts free (s.elapse dt) t := Host.Outcome.next.inj h ▸ hf

/-- Every command takes its time and then acts. -/
theorem exec_acts {c : Instr} (hc : free ∨ Instr.Plain c s) (h : exec c s = .next t) :
    Acts free (s.elapse c.dt) t := by
  cases hreq : c.request? with
  | some p =>
    obtain ⟨tag, r⟩ := p
    rw [exec_request hreq] at h
    exact event_acts h (requestArrives_acts tag r _ (hc.imp_right fun hp => ⟨hp.ingress, hp.request tag r hreq⟩))
  | none =>
    cases c with
    | panelFrameReceived dt type tag p crc =>
      refine event_acts (f := fun a => frameArrives type tag p crc (awaitStart a)) h
        ((awaitStart_acts _).trans (frameArrives_acts _ _ _ _ _ ?_))
      exact hc.imp_right fun hp => ⟨hp.ingress, hp.frame _ _ _ _ _ rfl⟩
    | byteGapAbort dt =>
      exact event_acts (f := fun a => receiveError (awaitStart a)) h ((awaitStart_acts _).trans (receiveError_acts _))
    | egressFrameSent dt => exact event_acts h (headSent_acts _ (hc.imp_right fun hp => ⟨hp.ingress, hp.restarting⟩))
    | panelTimerExpiry dt => exact event_acts h (expirePanelTimer_acts _)
    | reportTimerExpiry dt => exact event_acts h (expireReport_acts _)
    | controllerErrorPassive dt p => exact event_runs h (errorPassive_runs p)
    | controllerErrorActive dt p => exact event_runs h (errorActive_runs p)
    | busOff dt p => exact event_runs h (enterOff_runs p)
    | recoveryComplete dt p => exact event_runs h (recovered_runs p)
    | quietTimeExpiry dt p => exact event_runs h (expireQuiet_runs p)
    | frameReceived dt p x => exact event_acts h (receiveFrame_acts p x _)
    | frameReceivedParked dt p x => exact event_acts h (receiveFrame_acts p x _)
    | supervisionDeadlineExpiry dt e => exact event_runs h (expireSupervision_runs e)
    | transmissionBegins dt p => exact event_runs h (beginTransmission_runs p)
    | transmissionSuccess dt p => exact event_runs h (endTransmission_runs p)
    | transmissionFailed dt p => exact event_runs h (failTransmission_runs p)
    | queueAgeExpiry dt p n => exact event_runs h (expireFrame_runs p n)
    | panelDeadlineExpiry dt k => exact event_busy h (expirePanelDeadline_busy k)
    | pulseLineChange dt i level =>
      refine pinEvent_acts
        (f := fun a => if a.resetLow then putPulse i { a.pulses[i] with line := level } a else pulseLine i level a) h ?_
      exact (Acts.ite (fun _ => .runs (putPulse_runs rfl)) fun _ => .runs (pulseLine_runs i level _))
    | noiseRejectionEnd dt i => exact event_runs h (noiseEnd_runs i)
    | gateEnd dt i => exact event_runs h (gateEnd_runs i)
    | stuckDeadlineExpiry dt i => exact event_runs h (expireStuck_runs i)
    | mismatchTimerExpiry dt => exact event_busy h expireMismatch_busy
    | distanceTick dt => exact event_busy h distanceTick_busy
    | motionStep dt g => exact event_quiet h (motionStep_quiet g)
    | stallSense dt g => exact event_quiet h (stall_quiet g)
    | travelDeadlineExpiry dt g => exact event_busy h (expireTravel_busy g)
    | delayDeadlineExpiry dt c => exact event_quiet h (fun _ => expireDelay_quiet c (.inl trivial))
    | bulbCheckExpiry dt => exact event_runs h expireBulb_runs
    | flashPhaseChange dt => exact event_quiet h redrive_quiet
    | chimeOnTimeEnd dt => exact event_quiet h endOnTime_quiet
    | chimeOffTimeEnd dt => exact event_quiet h endOffTime_quiet
    | inputLineChange dt l level =>
      refine pinEvent_acts
        (f := fun a => if a.resetLow then putInput l { a.inputs[l] with line := level } a else inputLine l level a) h ?_
      exact (Acts.ite (fun _ => .runs (putInput_runs rfl)) fun _ => inputLine_acts l level _)
    | debounceEnd dt l => exact event_acts h (debounceEnd_acts l _)
    | doorDeadlineExpiry dt d => exact event_busy h (expireDoor_busy d)
    | openLoadReport dt l b =>
      refine pinEvent_acts
        (f := fun a => if a.resetLow then putLamp l { a.lamps[l] with openLoad := b } a else openLoad l b a) h ?_
      exact (Acts.ite (fun _ => .runs lamps_runs) fun _ => .runs (openLoad_runs l b _))
    | shortReport dt l => exact event_runs h (shortReported_runs l)
    | retryDeadlineExpiry dt l => exact event_runs h (expireRetry_runs l)
    | provingDeadlineExpiry dt l => exact event_runs h (expireProving_runs l)
    | confirmationDeadlineExpiry dt code src => exact event_busy h (expireConfirmation_busy code src)
    | identify dt => exact event_acts h (receiveService_acts _ _)
    | readFaultList dt => exact event_acts h (receiveService_acts _ _)
    | readFaultRecord dt p => exact event_acts h (receiveService_acts _ _)
    | readFirstFault dt => exact event_acts h (receiveService_acts _ _)
    | readLiveFaults dt => exact event_acts h (receiveService_acts _ _)
    | clearFaults dt => exact event_acts h (receiveService_acts _ _)
    | readSignal dt k => exact event_acts h (receiveService_acts _ _)
    | readCounters dt g x n => exact event_acts h (receiveService_acts _ _)
    | captureArm dt p x n code => exact event_acts h (receiveService_acts _ _)
    | captureTrigger dt => exact event_acts h (receiveService_acts _ _)
    | captureStatus dt => exact event_acts h (receiveService_acts _ _)
    | captureRead dt x => exact event_acts h (receiveService_acts _ _)
    | outputTestStart dt a b => exact event_acts h (receiveService_acts _ _)
    | outputTestStop dt => exact event_acts h (receiveService_acts _ _)
    | outputTestDeadlineExpiry dt => exact event_busy h expireTest_busy
    | spacingDeadlineExpiry dt => exact event_runs h expireSpacing_runs
    | ignPinChange dt level =>
      refine pinEvent_acts (f := fun a => if a.resetLow then putIgnition { a.ignition with pin := level } a
        else putIgnition (a.ignition.change level a.now) a) h ?_
      exact (Acts.ite (fun _ => .runs (putIgnition_runs _ _)) fun _ => .runs (putIgnition_runs _ _))
    | ignitionDebounceEnd dt => exact event_acts h (acceptIgnition_acts _)
    | runOnTimerExpiry dt => exact event_acts h (expireRunOn_acts _ (hc.imp_right fun hp => hp.restarting))
    | resetPinLow dt => exact pinEvent_acts h (.holds _)
    | resetPinHigh dt =>
      have hfree : free := hc.resolve_right fun hp => (hp.reset dt).1 rfl
      exact pinEvent_acts h (Acts.ite (fun _ => .restarts hfree) fun _ => Acts.refl _)
    | powerOnReset dt =>
      have hfree : free := hc.resolve_right fun hp => (hp.reset dt).2 rfl
      exact pinEvent_acts h (.powers hfree)
    | panelLengthAbove120 dt n =>
      exact event_acts h (Acts.ite (fun _ => (awaitStart_acts _).trans (receiveError_acts _)) fun _ => Acts.refl _)
    | _ => exact absurd hreq nofun

end

/-! ### What acting keeps -/

/-- The scope of START and STOP. -/
def Scope.turning : Scope := { Scope.closed with turn := True, stage := True }

/-- The scope of park and wake. -/
def Scope.powering : Scope := { Scope.closed with stage := True, power := True, permit := True, link := True }

/-- A reset empties the transmit queues. -/
theorem resetWith_queues (r : Retained) (s : State) (p : Fin 3) : QueueOk (resetWith r s).ports[p].queue := by
  rw [show (resetWith r s).ports[p].queue = [] by fin_cases p <;> rfl]
  exact QueueOk.nil

theorem initial_link_bounded (n : Nat) : (PanelLink.initial n).bounded :=
  ⟨by simp [PanelLink.initial], by simp [PanelLink.initial], .inl (by simp [PanelLink.initial])⟩

theorem noLive_bounded {f : FaultUnit} (h : f.live = []) : f.bounded := by simp [FaultUnit.bounded, h]

namespace Acts

variable {free : Prop} {s t : State}

theorem now_pending (h : Acts free s t) : t.now = s.now ∧ t.pending = s.pending := by
  induction h with
  | trans _ _ ih1 ih2 => exact ⟨ih2.1.trans ih1.1, ih2.2.trans ih1.2⟩
  | runs h => exact h.now_pending
  | start l _ => exact (takeStart_runs (k := Scope.turning) trivial trivial l _).now_pending
  | stop _ => exact (takeStop_runs (k := Scope.turning) trivial trivial _).now_pending
  | wakes _ => exact (wake_runs (k := Scope.powering) trivial trivial trivial _).now_pending
  | parks _ => exact (parkBlocks_runs (k := Scope.powering) trivial trivial trivial trivial _).now_pending
  | _ => exact ⟨rfl, rfl⟩

/-- Without an edit and a restart every entry stays. -/
theorem tables (h : Acts False s t) : t.tables = s.tables := by
  induction h with
  | trans _ _ ih1 ih2 => exact ih2.trans ih1
  | runs h => exact h.tables id
  | start l _ => exact (takeStart_runs (k := Scope.turning) trivial trivial l _).tables id
  | stop _ => exact (takeStop_runs (k := Scope.turning) trivial trivial _).tables id
  | wakes _ => exact (wake_runs (k := Scope.powering) trivial trivial trivial _).tables id
  | parks _ => exact (parkBlocks_runs (k := Scope.powering) trivial trivial trivial trivial _).tables id
  | restarts h => exact h.elim
  | powers h => exact h.elim
  | holds s =>
    simp only [State.tables, holdReset]
    rw [vmap_map OutputUnit.entry (fun u => { u with on := false }) s.outputs fun _ => rfl]

theorem queues (h : Acts free s t) (hs : ∀ p : Fin 3, QueueOk s.ports[p].queue) :
    ∀ p : Fin 3, QueueOk t.ports[p].queue := by
  induction h with
  | trans _ _ ih1 ih2 => exact ih2 (ih1 hs)
  | runs h => exact h.queues hs
  | start l _ => exact (takeStart_runs (k := Scope.turning) trivial trivial l _).queues hs
  | stop _ => exact (takeStop_runs (k := Scope.turning) trivial trivial _).queues hs
  | wakes _ => exact (wake_runs (k := Scope.powering) trivial trivial trivial _).queues hs
  | parks _ => exact (parkBlocks_runs (k := Scope.powering) trivial trivial trivial trivial _).queues hs
  | holds _ => exact hs
  | restarts _ => exact resetWith_queues _ _
  | powers _ => exact resetWith_queues _ _

theorem link_bounded (h : Acts free s t) (hs : s.link.bounded) : t.link.bounded := by
  induction h with
  | trans _ _ ih1 ih2 => exact ih2 (ih1 hs)
  | runs h => exact h.link_bounded hs
  | start l _ => exact (takeStart_runs (k := Scope.turning) trivial trivial l _).link_bounded hs
  | stop _ => exact (takeStop_runs (k := Scope.turning) trivial trivial _).link_bounded hs
  | wakes _ => exact (wake_runs (k := Scope.powering) trivial trivial trivial _).link_bounded hs
  | parks _ => exact (parkBlocks_runs (k := Scope.powering) trivial trivial trivial trivial _).link_bounded hs
  | holds _ => exact hs
  | restarts _ => exact initial_link_bounded _
  | powers _ => exact initial_link_bounded _

theorem bounded (h : Acts free s t) (hs : s.faults.bounded) : t.faults.bounded := by
  induction h with
  | trans _ _ ih1 ih2 => exact ih2 (ih1 hs)
  | runs h => exact h.bounded hs
  | start l _ => exact (takeStart_runs (k := Scope.turning) trivial trivial l _).bounded hs
  | stop _ => exact (takeStop_runs (k := Scope.turning) trivial trivial _).bounded hs
  | wakes _ => exact (wake_runs (k := Scope.powering) trivial trivial trivial _).bounded hs
  | parks _ => exact (parkBlocks_runs (k := Scope.powering) trivial trivial trivial trivial _).bounded hs
  | holds _ => exact hs
  | restarts _ => exact noLive_bounded rfl
  | powers _ => exact noLive_bounded rfl

end Acts

/-! ### The statements -/

/-- Settles O53. -/
theorem commandsTakeTheirTime : Obligations.CommandsTakeTheirTime := by
  intro c s t h
  exact (exec_acts (free := True) (.inl trivial) h).now_pending

/-- Settles O54. -/
theorem tablesChangeByWritesAndResetsOnly : Obligations.TablesChangeByWritesAndResetsOnly := by
  intro c s t h hingress hrestarting hrequest hframe hreset
  have hplain : Instr.Plain c s := ⟨hingress, hrestarting, hrequest, hframe, hreset⟩
  exact (exec_acts (free := False) (.inr hplain) h).tables

theorem linkBounded_iff (s : State) : s.linkBounded = true ↔ s.link.bounded := by
  simp [State.linkBounded, PanelLink.bounded, and_assoc]

/-- Settles O57. -/
theorem queuesKeepTheirBounds : Obligations.QueuesKeepTheirBounds := by
  refine ⟨fun c s t hs h => ?_, fun c s t hs h => ?_⟩
  · rw [linkBounded_iff] at hs ⊢
    exact (exec_acts (free := True) (.inl trivial) h).link_bounded hs
  · exact (exec_acts (free := True) (.inl trivial) h).queues hs

theorem liveBounded_iff (s : State) : s.liveBounded = true ↔ s.faults.bounded := by
  simp [State.liveBounded, FaultUnit.bounded]

/-- Settles O58. -/
theorem liveFaultSetKeepsItsBound : Obligations.LiveFaultSetKeepsItsBound := by
  intro c s t hs h
  rw [liveBounded_iff] at hs ⊢
  exact (exec_acts (free := True) (.inl trivial) h).bounded hs

end Sys2Proof.Machine
end

section
/-! PROOFS. The interlocks (O55), the permit lines (O56), a part held in reset (O59) and the state after a reset (O60, with
O1 and O18). -/

namespace Sys2Proof.Machine

/-! ### The interlocks across the transitions -/

/-- The permit and the stop-brake request are decided. -/
def State.decided (s : State) : Prop := s.permitDecided ∧ s.brakeDecided

theorem Busy.decided {free place : Prop} {s t : State} (h : Busy free place s t) (hear : s.doorsHear) (hs : s.decided) :
    t.decided := ⟨(h.decides hear).1 hs.1, (h.decides hear).2 hs.1 hs.2⟩

theorem Quiet.decided {free : Prop} {s t : State} (h : Quiet free s t) (hs : s.decided) : t.decided :=
  ⟨h.decides.1 hs.1, h.decides.2 hs.1 hs.2⟩

/-- The interlocks do not read the stage. -/
theorem setStage_decided {n : Nat} {s : State} (h : s.decided) : (setStage n s).decided := h

theorem doorsHear_of_setup {s : State} (h : s.mode = .setup) : s.doorsHear := fun hrun => by
  simp [State.isRun, h] at hrun

theorem doorsHear_of_parked {s : State} (h : s.power = .parked) : s.doorsHear := fun _ hact => by
  simp [State.isActive, h] at hact

theorem doorsHear_of_stage {s : State} (h : 4 ≤ s.stage) : s.doorsHear := fun _ _ => h

theorem publishAllDoors_decided (old : Vector DoorUnit 4) {s : State} (hear : s.doorsHear) :
    (publishAllDoors old s).decided := by
  have hpub : Busy True True s (each 4 (fun d s => publish (slotDoorState d) s.doors[d].state.code s) s) :=
    Busy.each (fun d a => publish_busy (slotDoorState_plain d) _ a) s
  have hear' := (hpub.trans (Busy.doors (d := _) rfl (Busy.refl _))).doorsHear hear
  unfold publishAllDoors
  simp only
  generalize each 4 (fun d s => publish (slotDoorState d) s.doors[d].state.code s) s = a at hear'
  have hflag : ∀ b, (setFlagIf b .door (publishDoors a)).decided := fun b =>
    (setFlagIf_quiet (free := True) b _ _).decided (publishDoors_decides a)
  split
  · refine (doorDeparted_busy (free := True) (place := True) _).decided ?_ (hflag _)
    exact (Busy.quiet (free := True) (place := True) (setFlagIf_quiet _ _ _)).doorsHear hear'
  · exact hflag _

theorem setUpDoors_decided {s : State} (hear : s.doorsHear) : (setUpDoors s).decided := by
  obtain ⟨d, -, hset⟩ := setUpEach_eq s
  unfold setUpDoors
  simp only
  refine publishAllDoors_decided _ ?_
  rw [hset]
  exact (Busy.each (free := True) setUpEffects_busy _).doorsHear hear

/-- Once the doors, the telltales and the lines have taken up RUN, the interlocks are decided and the stage settled. -/
theorem takeUpRest_decided (s : State) : (takeUpRest s).decided ∧ (takeUpRest s).stage = 6 := by
  have h4 : (takeUpDoors s).decided := setUpDoors_decided (doorsHear_of_stage (s := setStage 4 s) le_rfl)
  have h5 : (takeUpTelltales (takeUpDoors s)).decided :=
    (lightTelltales_quiet (free := True) (.inl trivial)).decided (setStage_decided h4)
  have hquiet : Quiet True (setStage 6 (takeUpTelltales (takeUpDoors s))) (takeUpRest s) := redrive_quiet _
  exact ⟨hquiet.decided (setStage_decided h5), hquiet.stage⟩

/-- A run that is no transition keeps the interlocks decided. -/
theorem Runs.closed_decided {s t : State} (h : Runs Scope.closed s t) (hear : s.doorsHear) (hs : s.decided) :
    t.decided := h.decides id id id id hear hs

theorem settled_of_stage {s : State} (hmode : s.mode = .run) (hpower : s.power = .active) (h : s.stage = 6) :
    s.settled = true := by
  simp [State.settled, State.isRun, State.isActive, hmode, hpower, h]

theorem settled_of_rest {s : State} (h : s.mode = .setup ∨ s.power = .parked) (hstage : s.stage = 0) :
    s.settled = true := by
  rcases h with h | h <;> simp [State.settled, State.isRun, State.isActive, h, hstage]

theorem settled_congr {s t : State} (hm : t.mode = s.mode) (hs : t.stage = s.stage) (hp : t.power = s.power) :
    t.settled = s.settled := by
  unfold State.settled State.isRun State.isActive
  rw [hm, hs, hp]

theorem takeStart_keeps_interlocks (label : BitVec 32) {s : State} (hact : s.isActive = true) :
    (takeStart label s).settled = true ∧ (takeStart label s).decided := by
  have hrest := takeStart_rest_runs (k := { Scope.closed with stage := True }) trivial label s
  have hpower : s.power = .active := by simpa [State.isActive] using hact
  obtain ⟨hdec, hstage⟩ := takeUpRest_decided (startConds (startSpeed label s))
  have hbulb := startBulb_runs (k := Scope.closed) (takeUpRest (startConds (startSpeed label s)))
  refine ⟨settled_of_stage (hrest.mode_eq id) ((hrest.power_eq id).trans hpower) ?_, ?_⟩
  · rw [takeStart_eq, hbulb.stage_eq id, hstage]
  · rw [takeStart_eq]
    exact hbulb.closed_decided (doorsHear_of_stage (by rw [hstage]; decide)) hdec

theorem stopDoors_decided {s : State} (h : s.mode = .setup) : (stopDoors s).decided := by
  refine publishAllDoors_decided _ ?_
  have hsetup : State.doorsHear { s with doors := vmap DoorUnit.disable s.doors } := doorsHear_of_setup h
  generalize ({ s with doors := vmap DoorUnit.disable s.doors } : State) = a at hsetup
  exact ((clearCodes_busy (free := True) (place := True) _ a).trans (clearStopLatch_busy _)).doorsHear hsetup

theorem takeStop_keeps_interlocks (s : State) : (takeStop s).settled = true ∧ (takeStop s).decided := by
  have hfront := stopFront_runs (k := Scope.closed) s
  have hback : Runs Scope.closed (stopFront s) (takeStop s) := .busy ((stopDoors_busy _).trans (tellTest_busy _))
  have hrest := hfront.trans hback
  refine ⟨settled_of_rest (.inl (hrest.mode_eq id)) (hrest.stage_eq id), ?_⟩
  have hsetup : (stopFront s).mode = .setup := hfront.mode_eq id
  refine (tellTest_busy (free := True) (place := True) _).decided ?_ (stopDoors_decided hsetup)
  exact (stopDoors_busy (free := True) (place := True) _).doorsHear (doorsHear_of_setup hsetup)

theorem Tell.power {s t : State} (h : Tell s t) : t.power = s.power := by
  obtain ⟨_, _, _, _, _, _, _, _, _, rfl, -, -⟩ := h
  rfl

theorem Tell.stage {s t : State} (h : Tell s t) : t.stage = s.stage := by
  obtain ⟨_, _, _, _, _, _, _, _, _, rfl, -, -⟩ := h
  rfl

/-- Publishing both slots of a state whose permit and stop-brake request are right decides them. -/
theorem publish_both_decided {s : State} (hpermit : s.drivePermit = s.permit) (hbrake : s.stopBrake = s.brakeWanted) :
    (publish slotDrivePermit (bit s.drivePermit) (publish slotAnyDoorOpen (bit s.anyDoorOpen) s)).decided := by
  generalize ha : publish slotAnyDoorOpen (bit s.anyDoorOpen) s = a
  generalize hb : publish slotDrivePermit (bit s.drivePermit) a = b
  have hsa : Tell s a := ha ▸ publish_tell (by decide) _ s
  have hab : Tell a b := hb ▸ publish_tell (by decide) _ a
  obtain ⟨hp1, ho1, hd1, hs1, -⟩ := hsa.permit
  obtain ⟨hp2, ho2, hd2, hs2, -⟩ := hab.permit
  have h250 : b.slots[slotDrivePermit].value = bit s.drivePermit := hb ▸ publish_value _ _ a
  have h249 : b.slots[slotAnyDoorOpen].value = bit s.anyDoorOpen := by
    rw [← hb, publish_other (by decide), ← ha]
    exact publish_value _ _ s
  have h240 : b.slots[slotVehicleSpeed] = a.slots[slotVehicleSpeed] := by rw [← hb, publish_other (by decide)]
  have h240' : a.slots[slotVehicleSpeed] = s.slots[slotVehicleSpeed] := by rw [← ha, publish_other (by decide)]
  refine ⟨⟨?_, ?_, ?_⟩, ?_⟩
  · rw [hd2, hd1, hp2, hp1, hpermit]
  · rw [h250, hd2, hd1]
  · rw [h249, ho2, ho1]
  · rw [State.brakeDecided, hs2, hs1, hab.brakeWanted h240, hsa.brakeWanted h240', hbrake]

theorem derived_of_parked {s : State} (h : s.power = .parked) : s.permit = false ∧ s.brakeWanted = false := by
  have hact : s.isActive = false := by simp [State.isActive, h]
  simp [State.permit, State.brakeWanted, hact]

/-- In PARKED nothing is permitted and nothing braked, and park publishes it. -/
theorem parkDoors_decided {s : State} (hparked : s.power = .parked) : (parkDoors s).decided := by
  unfold parkDoors
  simp only
  generalize hb : ({ s with
    doors := vmap (fun u => { u with released := false, openCommand := false, reversals := 0, deadline := none }) s.doors,
    drivePermit := false, stopBrake := false } : State) = b
  have hpower : b.power = .parked := hb ▸ hparked
  have hnone : b.drivePermit = false ∧ b.stopBrake = false := hb ▸ ⟨rfl, rfl⟩
  obtain ⟨hp, hs⟩ := derived_of_parked hpower
  have hdec := publish_both_decided (hnone.1.trans hp.symm) (hnone.2.trans hs.symm)
  rw [hnone.1] at hdec
  refine (clearStopLatch_busy (free := True) (place := True) _).decided (doorsHear_of_parked ?_) hdec
  have htell := (publish_tell (k := slotAnyDoorOpen) (by decide) (bit b.anyDoorOpen) b).trans
    (publish_tell (k := slotDrivePermit) (by decide) 0 _)
  exact htell.power.trans hpower

theorem parkBlocks_keeps_interlocks (s : State) : (parkBlocks s).settled = true ∧ (parkBlocks s).decided := by
  have hfront := parkFront_runs (k := Scope.closed) s
  have hdoors : Runs { Scope.closed with permit := True } (parkFront s) (parkDoors (parkFront s)) :=
    parkDoors_runs trivial _
  have hback : Runs { Scope.closed with link := True } (parkDoors (parkFront s)) (parkBlocks s) :=
    parkBack_runs trivial _
  have hpower : (parkDoors (parkFront s)).power = .parked := (hdoors.power_eq id).trans (hfront.power_eq id)
  refine ⟨settled_of_rest (.inr ((hback.power_eq id).trans hpower)) ?_, ?_⟩
  · rw [hback.stage_eq id, hdoors.stage_eq id, hfront.stage_eq id]
    rfl
  · exact hback.decides id id id id (doorsHear_of_parked hpower) (parkDoors_decided (hfront.power_eq id))

theorem wakeRun_keeps_interlocks (s : State) : (wakeRun s).decided ∧ (wakeRun s).stage = 6 := by
  obtain ⟨hdec, hstage⟩ := takeUpRest_decided (wakeFront s)
  have hopen := raiseOpenLoads_busy (takeUpRest (wakeFront s))
  exact ⟨hopen.decided (doorsHear_of_stage (by rw [hstage]; decide)) hdec, hopen.stage.trans hstage⟩

theorem wake_keeps_interlocks {s : State} (hparked : s.isActive = false) (hs : s.settled = true) (hd : s.decided) :
    (wake s).settled = true ∧ (wake s).decided := by
  have hrest : Runs { Scope.closed with stage := True } (wakeLink s) (wake s) := wake_rest_runs trivial s
  cases hrun : s.isRun with
  | true =>
    obtain ⟨hdec, hstage⟩ := wakeRun_keeps_interlocks s
    have hend := wakeRunOn_busy (wakeRun s)
    have hmode : s.mode = .run := by simpa [State.isRun] using hrun
    refine ⟨settled_of_stage ((hrest.mode_eq id).trans hmode) (hrest.power_eq id) ?_, ?_⟩
    · rw [wake_eq_of_run hrun, hend.stage, hstage]
    · rw [wake_eq_of_run hrun]
      exact hend.decided (doorsHear_of_stage (by rw [hstage]; decide)) hdec
  | false =>
    have hsetup : s.mode = .setup := by
      cases hm : s.mode with
      | setup => rfl
      | run => simp [State.isRun, hm] at hrun
    have hwake : Runs Scope.closed (wakeLink s) (wake s) :=
      wake_eq_of_setup hrun ▸ (wakeSetup_runs s).trans (.busy (wakeRunOn_busy _))
    have hstage : s.stage = 0 := by simpa [State.settled, hrun] using hs
    refine ⟨settled_of_rest (.inl ((hwake.mode_eq id).trans hsetup)) ((hwake.stage_eq id).trans hstage), ?_⟩
    obtain ⟨hp1, hb1⟩ := permit_of_setup hsetup
    obtain ⟨hp2, hb2⟩ := permit_of_setup (s := wakeLink s) hsetup
    refine hwake.closed_decided (doorsHear_of_setup hsetup) ?_
    exact decided_congr (hp2.trans hp1.symm) rfl (hb2.trans hb1.symm) rfl rfl rfl hd

/-! ### The interlocks across a reset -/

theorem initialSlots_interlocks (cycles total : Nat) :
    (initialSlots cycles total)[slotDrivePermit].value = 0 ∧ (initialSlots cycles total)[slotAnyDoorOpen].value = 0 := by
  simp only [initialSlots, slotDrivePermit, slotAnyDoorOpen, vput_get, Fin.reduceEq, if_true, if_false, SlotRec.internal,
    and_self]

theorem initialSlots_speed (cycles total : Nat) :
    (initialSlots cycles total)[slotVehicleSpeed].state = .stale ∧
      (initialSlots cycles total)[slotSpeedSource].value = 2 := by
  simp only [initialSlots, slotVehicleSpeed, slotSpeedSource, vput_get, Fin.reduceEq, if_true, if_false,
    SlotRec.internal, and_self]

theorem initialSlots_retained (cycles total : Nat) :
    (initialSlots cycles total)[slotTotalDistance].value = (total / 100 : Nat) ∧
      (initialSlots cycles total)[slotIgnitionCycles].value = cycles := by
  simp only [initialSlots, slotTotalDistance, slotIgnitionCycles, vput_get, Fin.reduceEq, if_true, if_false,
    SlotRec.internal, and_self]

/-- After a reset every door is DISABLED. -/
theorem resetWith_door (r : Retained) (s : State) (d : Fin 4) :
    (resetWith r s).doors[d].state = .disabled ∧ (resetWith r s).doors[d].released = false := by
  rw [show (resetWith r s).doors = vmap (fun c => { DoorUnit.initial with cycles := c.1, obstructions := c.2 })
    r.doors from rfl, vmap_get]
  exact ⟨rfl, rfl⟩

theorem resetWith_closed (r : Retained) (s : State) : (resetWith r s).anyDoorOpen = false := by
  rw [Bool.eq_false_iff, State.anyDoorOpen, ne_eq, anyUnit_iff]
  rintro ⟨d, hd⟩
  simp only [DoorUnit.unsafeToMove, (resetWith_door r s d).1] at hd
  simp at hd

theorem resetWith_keeps_interlocks (r : Retained) (s : State) :
    (resetWith r s).settled = true ∧ (resetWith r s).decided := by
  obtain ⟨hp, hb⟩ := permit_of_setup (s := resetWith r s) rfl
  have hslots : (resetWith r s).slots = initialSlots r.cycles r.total := rfl
  have hnone : (resetWith r s).drivePermit = false ∧ (resetWith r s).stopBrake = false := ⟨rfl, rfl⟩
  obtain ⟨h250, h249⟩ := initialSlots_interlocks r.cycles r.total
  refine ⟨settled_of_rest (.inl rfl) rfl, ⟨hnone.1.trans hp.symm, ?_, ?_⟩, hnone.2.trans hb.symm⟩
  · rw [hslots, h250, hnone.1]
    rfl
  rw [hslots, h249, resetWith_closed]
  rfl

theorem Acts.keeps_interlocks {free : Prop} {s t : State} (h : Acts free s t) (hs : s.settled = true ∧ s.decided) :
    t.settled = true ∧ t.decided := by
  induction h with
  | trans _ _ ih1 ih2 => exact ih2 (ih1 hs)
  | runs h =>
    refine ⟨?_, h.decides id id id id (doorsHear_of_settled hs.1) hs.2⟩
    rw [settled_congr (h.mode_eq id) (h.stage_eq id) (h.power_eq id)]
    exact hs.1
  | start l hact => exact takeStart_keeps_interlocks l hact
  | stop _ => exact takeStop_keeps_interlocks _
  | wakes hparked => exact wake_keeps_interlocks hparked hs.1 hs.2
  | parks _ => exact parkBlocks_keeps_interlocks _
  | restarts _ => exact resetWith_keeps_interlocks _ _
  | powers _ => exact resetWith_keeps_interlocks _ _
  | holds s => exact hs

/-- Settles O55. -/
theorem interlocksAreKept : Obligations.InterlocksAreKept := by
  intro c s t hs h
  rw [interlocked_iff] at hs ⊢
  exact (exec_acts (free := True) (.inl trivial) h).keeps_interlocks hs

/-! ### The permit lines -/

/-- Records that agree in every field of a list agree at each place. -/
theorem of_map_eq {α β : Type} {n : Nat} (f : α → β) {v w : Vector α n}
    (h : v.toArray.toList.map f = w.toArray.toList.map f) (i : Fin n) : f v[i] = f w[i] := by
  have hi := congrArg (fun l : List β => l[i.val]?) h
  simpa using hi

/-- Every line is off. -/
def State.linesOff (s : State) : Prop := ∀ l : Fin 16, s.outputs[l].on = false

theorem linesSafe_of_off {s : State} (hsafe : s.entriesSafe) (h : s.linesOff) : s.linesSafe :=
  ⟨hsafe, fun l _ hon => absurd ((h l).symm.trans hon) nofun⟩

/-- Before the lines have taken up RUN, driving a line switches it off. -/
theorem driveLine_off {l : Fin 16} {s : State} (h : s.stage < 6) : (driveLine l s).outputs[l].on = false := by
  rw [Bool.eq_false_iff]
  intro hon
  have hact := lineActive_of_driveLine_on hon
  simp only [State.lineActive, Bool.and_eq_true, decide_eq_true_eq] at hact
  omega

theorem driveLine_keeps_off {l : Fin 16} {s : State} (h : s.stage < 6) (hs : s.linesOff) :
    (driveLine l s).linesOff := by
  intro j
  by_cases hj : j = l
  · exact hj ▸ driveLine_off h
  · rw [driveLine_other hj]
    exact hs j

theorem foldl_driveLine_off (ls : List (Fin 16)) {s : State} (h : s.stage < 6) (j : Fin 16)
    (hj : j ∈ ls ∨ s.outputs[j].on = false) : (ls.foldl (fun s l => driveLine l s) s).outputs[j].on = false := by
  induction ls generalizing s with
  | nil => simpa using hj
  | cons l ls ih =>
    refine ih (by simpa using h) ?_
    by_cases hjl : j = l
    · exact .inr (hjl ▸ driveLine_off h)
    · rw [driveLine_other hjl]
      exact hj.imp_left fun hmem => (List.mem_cons.mp hmem).resolve_left hjl

theorem redrive_off {s : State} (h : s.stage < 6) : (redrive s).linesOff := fun j =>
  foldl_driveLine_off _ h j (.inl (List.mem_finRange j))

theorem Quiet.linesOff {free : Prop} {s t : State} (h : Quiet free s t) (hst : s.stage < 6) (hs : s.linesOff) :
    t.linesOff := by
  induction h with
  | trans h1 _ ih1 ih2 => exact ih2 (h1.stage.symm ▸ hst) (ih1 hst hs)
  | line l s => exact driveLine_keeps_off hst hs
  | _ => exact hs

theorem publishDoors_off {s : State} (h : s.stage < 6) : (publishDoors s).linesOff := by
  unfold publishDoors decidePermit
  refine redrive_off ((publish_tell (by decide) _ _).stage.trans_lt ?_)
  exact (publish_tell (by decide) _ s).stage.trans_lt h

theorem quietLines_off {s : State} (h : s.stage < 6) : (quietLines s).linesOff := by
  unfold quietLines
  exact redrive_off h

theorem parkFront_off (s : State) : (parkFront s).linesOff := by
  have hstage : (parkFront s).stage = 0 := (parkFront_runs (k := Scope.closed) s).stage_eq id
  obtain ⟨x, hx⟩ : ∃ x, parkFront s = quietLines x := ⟨_, rfl⟩
  rw [hx] at hstage ⊢
  rw [(quietLines_runs (k := Scope.closed) x).stage_eq id] at hstage
  exact quietLines_off (by omega)

theorem Busy.linesOff {free place : Prop} {s t : State} (h : Busy free place s t) (hst : s.stage < 6) (hs : s.linesOff) :
    t.linesOff := by
  induction h with
  | trans h1 _ ih1 ih2 => exact ih2 (h1.stage.symm ▸ hst) (ih1 hst hs)
  | quiet h => exact h.linesOff hst hs
  | doors _ h _ => exact publishDoors_off (h.stage.symm ▸ hst)
  | speed h ih => exact redrive_off (h.stage.symm ▸ hst)
  | _ => exact hs

/-- Before the lines have taken up RUN, no run within one stage switches a line on. -/
theorem Runs.linesOff {k : Scope} {s t : State} (h : Runs k s t) (hk : ¬ k.stage) (hst : s.stage < 6)
    (hs : s.linesOff) : t.linesOff := by
  induction h with
  | trans h1 _ ih1 ih2 => exact ih2 (h1.stage_eq hk ▸ hst) (ih1 hst hs)
  | busy h => exact h.linesOff hst hs
  | panelValues _ ho => exact fun l => (ho l).trans (hs l)
  | stage h => exact absurd h hk
  | editOutput _ _ => exact redrive_off hst
  | _ => exact hs

/-- Every run but one that withdraws the permit keeps the permit lines safe. -/
theorem Runs.linesSafe {k : Scope} {s t : State} (h : Runs k s t) (hk : ¬ k.permit) (hs : s.linesSafe) :
    t.linesSafe := by
  induction h with
  | trans _ _ ih1 ih2 => exact ih2 (ih1 hs)
  | busy h => exact h.linesSafe hs
  | @panelValues s o lamps he ho =>
    obtain ⟨hsafe, hpermit⟩ := hs
    have hentry : ∀ l : Fin 16, o[l].entry = s.outputs[l].entry := of_map_eq OutputUnit.entry he
    refine ⟨fun l => ?_, fun l hsrc hon => hpermit l (hentry l ▸ hsrc) ((ho l).symm.trans hon)⟩
    exact (hentry l).symm ▸ hsafe l
  | unpermit h _ => exact absurd h hk
  | @editOutput s l u _ hsafe =>
    refine redrive_linesSafe fun j => ?_
    simp only [vput_get]
    split
    next h => exact h ▸ hsafe
    next => exact hs.1 j
  | _ => exact linesSafe_congr rfl rfl hs

theorem reset_outputs : ∀ l : Fin 16,
    safetyOk l.val State.reset.outputs[l].entry = true ∧ State.reset.outputs[l].on = false := by
  decide

/-- Every line is off after a reset, and none follows DRIVE_PERMIT. -/
theorem resetWith_linesSafe (r : Retained) (s : State) : (resetWith r s).linesSafe := by
  have hout : (resetWith r s).outputs = State.reset.outputs := rfl
  refine linesSafe_of_off (fun l => ?_) fun l => ?_
  · rw [hout]
    exact (reset_outputs l).1
  · rw [hout]
    exact (reset_outputs l).2

/-- At park every line is off before the permit is withdrawn, and stays so. -/
theorem parkBlocks_linesSafe {s : State} (hs : s.entriesSafe) : (parkBlocks s).linesSafe := by
  have hfront := parkFront_runs (k := Scope.closed) s
  have hdoors : Runs { Scope.closed with permit := True } (parkFront s) (parkDoors (parkFront s)) :=
    parkDoors_runs trivial _
  have hback : Runs { Scope.closed with link := True } (parkDoors (parkFront s)) (parkBlocks s) :=
    parkBack_runs trivial _
  have hstage : (parkFront s).stage = 0 := hfront.stage_eq id
  have hoff : (parkFront s).linesOff := parkFront_off s
  have hoff1 := hdoors.linesOff id (by omega) hoff
  have hoff2 := hback.linesOff id (by rw [hdoors.stage_eq id]; omega) hoff1
  refine linesSafe_of_off (entriesSafe_of_tables ?_ hs) hoff2
  exact (parkBlocks_runs (k := Scope.powering) trivial trivial trivial trivial s).tables id

theorem Acts.linesSafe {free : Prop} {s t : State} (h : Acts free s t) (hs : s.linesSafe) : t.linesSafe := by
  induction h with
  | trans _ _ ih1 ih2 => exact ih2 (ih1 hs)
  | runs h => exact h.linesSafe id hs
  | start l _ => exact (takeStart_runs (k := Scope.turning) trivial trivial l _).linesSafe id hs
  | stop _ => exact (takeStop_runs (k := Scope.turning) trivial trivial _).linesSafe id hs
  | wakes _ =>
    exact (wake_runs (k := { Scope.powering with permit := False }) trivial trivial trivial _).linesSafe id hs
  | parks _ => exact parkBlocks_linesSafe hs.1
  | restarts _ => exact resetWith_linesSafe _ _
  | powers _ => exact resetWith_linesSafe _ _
  | holds s =>
    have hentry : ∀ l : Fin 16, (holdReset s).outputs[l].entry = s.outputs[l].entry ∧ (holdReset s).outputs[l].on = false :=
      fun l => by
        rw [show (holdReset s).outputs = vmap (fun u => { u with on := false }) s.outputs from rfl, vmap_get]
        exact ⟨rfl, rfl⟩
    exact linesSafe_of_off (fun l => (hentry l).1.symm ▸ hs.1 l) fun l => (hentry l).2

/-- The permit is 1 only in RUN and ACTIVE with every enabled door closed, locked and not released. -/
theorem of_permit {s : State} (h : s.permit = true) : s.mode = .run ∧ s.power = .active ∧
    ∀ d : Fin 4, s.doors[d].entry.enabled = true → s.doors[d].state = .closedLocked ∧ s.doors[d].released = false := by
  simp only [State.permit, State.isRun, State.isActive, Bool.and_eq_true, decide_eq_true_eq, allUnits_iff] at h
  obtain ⟨⟨hmode, hpower⟩, hdoors⟩ := h
  refine ⟨hmode, hpower, fun d hen => ?_⟩
  obtain ⟨⟨hsafe, -⟩, -⟩ := hdoors d
  rw [hen] at hsafe
  simpa only [Bool.not_true, Bool.false_or, Bool.and_eq_true, decide_eq_true_eq, Bool.not_eq_true'] using hsafe

/-- Settles O56: the permit lines follow a permit that is what the doors give. -/
theorem permitLinesAreOnOnlyWithThePermit : Obligations.PermitLinesAreOnOnlyWithThePermit := by
  intro c s t hlocked hsafe h
  have hacts := exec_acts (free := True) (.inl trivial) h
  rw [relaysSafe_iff] at hsafe ⊢
  rw [interlocked_iff] at hlocked
  have ht := hacts.linesSafe hsafe
  obtain ⟨-, ⟨hpermit, -, -⟩, -⟩ := hacts.keeps_interlocks hlocked
  exact ⟨ht, fun l hsrc hon => of_permit (hpermit ▸ ht.2 l hsrc hon)⟩

end Sys2Proof.Machine
end

section
/-! PROOFS. A part held in reset (O59), what a reset leaves (O17, O18, O60), and the step (O1). -/

namespace Sys2Proof.Machine

/-- Settles O1: by definition. -/
theorem stepRunsTheFrontCommand : Obligations.StepRunsTheFrontCommand := by
  intro c rest s
  rfl

/-! ### Held in reset -/

/-- An event is lost in reset. -/
theorem event_held {s t : State} {dt : Nat} {f : State → State} (hs : s.resetLow = true) (h : event dt s f = .next t) :
    t = s.elapse dt := by
  have hreset : (s.elapse dt).resetLow = true := hs
  simp only [event, hreset, if_true] at h
  exact (Host.Outcome.next.inj h).symm

/-- What may change while the part is held in reset: time passes, a pin's level is noted, and every line goes off. -/
structure HeldChange (s t : State) : Prop where
  resetLow : t.resetLow = true
  mode : t.mode = s.mode
  tables : t.tables = s.tables
  speed : t.speed = s.speed
  faults : t.faults = s.faults
  link : t.link = s.link
  doors : t.doors = s.doors
  slots : t.slots = s.slots
  ports : t.ports = s.ports
  lines : (∀ l : Fin 16, s.outputs[l].on = false) → ∀ l : Fin 16, t.outputs[l].on = false

theorem exec_held {c : Instr} {s t : State} (hs : s.resetLow = true) (h : exec c s = .next t)
    (hc : ∀ dt, c ≠ .resetPinHigh dt ∧ c ≠ .powerOnReset dt) : HeldChange s t := by
  have hreset : ∀ dt, (s.elapse dt).resetLow = true := fun _ => hs
  cases c with
  | pulseLineChange dt i level =>
    obtain rfl := Host.Outcome.next.inj h
    dsimp only
    rw [if_pos (hreset _)]
    refine ⟨hs, rfl, ?_, rfl, rfl, rfl, rfl, rfl, rfl, id⟩
    exact (putPulse_runs (k := Scope.closed) (s := s.elapse dt) (by rfl)).tables id
  | inputLineChange dt l level =>
    obtain rfl := Host.Outcome.next.inj h
    dsimp only
    rw [if_pos (hreset _)]
    refine ⟨hs, rfl, ?_, rfl, rfl, rfl, rfl, rfl, rfl, id⟩
    exact (putInput_runs (k := Scope.closed) (s := s.elapse dt) (by rfl)).tables id
  | openLoadReport dt l b =>
    obtain rfl := Host.Outcome.next.inj h
    dsimp only
    rw [if_pos (hreset _)]
    exact ⟨hs, rfl, rfl, rfl, rfl, rfl, rfl, rfl, rfl, id⟩
  | ignPinChange dt level =>
    obtain rfl := Host.Outcome.next.inj h
    dsimp only
    rw [if_pos (hreset _)]
    exact ⟨hs, rfl, rfl, rfl, rfl, rfl, rfl, rfl, rfl, id⟩
  | resetPinLow dt =>
    obtain rfl := Host.Outcome.next.inj h
    refine ⟨rfl, rfl, (Acts.holds (free := False) (s.elapse dt)).tables, rfl, rfl, rfl, rfl, rfl, rfl, fun _ l => ?_⟩
    rw [show (holdReset (s.elapse dt)).outputs = vmap (fun u => { u with on := false }) s.outputs from rfl, vmap_get]
  | resetPinHigh dt => exact absurd rfl (hc dt).1
  | panelFrameReceived dt type tag p crc =>
    obtain rfl := event_held (f := fun a => frameArrives type tag p crc (awaitStart a)) hs h
    exact ⟨hs, rfl, rfl, rfl, rfl, rfl, rfl, rfl, rfl, id⟩
  | byteGapAbort dt =>
    obtain rfl := event_held (f := fun a => receiveError (awaitStart a)) hs h
    exact ⟨hs, rfl, rfl, rfl, rfl, rfl, rfl, rfl, rfl, id⟩
  | powerOnReset dt => exact absurd rfl (hc dt).2
  | _ =>
    obtain rfl := event_held hs h
    exact ⟨hs, rfl, rfl, rfl, rfl, rfl, rfl, rfl, rfl, id⟩

/-- Settles O59. -/
theorem heldInResetNothingActs : Obligations.HeldInResetNothingActs := by
  intro c s t hs h hc
  have hheld := exec_held hs h hc
  exact ⟨hheld.resetLow, hheld.mode, hheld.tables, hheld.speed, hheld.faults, hheld.link, hheld.doors, hheld.slots,
    hheld.ports, hheld.lines⟩

/-! ### After a reset -/

theorem reset_interlocked : State.reset.interlocked = true := by
  have hclosed : State.reset.anyDoorOpen = false := by decide
  obtain ⟨hp, hb⟩ := permit_of_setup (s := State.reset) rfl
  obtain ⟨h250, h249⟩ := initialSlots_interlocks 0 0
  refine (interlocked_iff _).mpr ⟨rfl, ⟨hp.symm, h250, ?_⟩, hb.symm⟩
  rw [hclosed]
  exact h249

theorem reset_relaysSafe : State.reset.relaysSafe = true :=
  (relaysSafe_iff _).mpr (linesSafe_of_off (fun l => (reset_outputs l).1) fun l => (reset_outputs l).2)

/-- Settles O60. -/
theorem resetMeetsTheInvariants : Obligations.ResetMeetsTheInvariants := by
  have hdoors : ∀ d : Fin 4, State.reset.doors[d].state = .disabled := by decide
  have hqueues : ∀ p : Fin 3, State.reset.ports[p].queue = [] := by decide
  obtain ⟨hspeed, hsource⟩ := initialSlots_speed 0 0
  exact ⟨reset_interlocked, reset_relaysSafe, (linkBounded_iff _).mpr (initial_link_bounded 0),
    (liveBounded_iff _).mpr (noLive_bounded rfl), hqueues, rfl, rfl, rfl, rfl, hspeed, hsource, hdoors, rfl, rfl⟩

/-- Records all made anew have the fields of a table made anew. -/
theorem map_vmap_const {α β γ : Type} {n : Nat} {f : α → β} {g : β → γ} (v : Vector α n) (b : β)
    (h : ∀ a, g (f a) = g b) : (vmap f v).toArray.toList.map g = (Vector.replicate n b).toArray.toList.map g := by
  refine List.ext_getElem (by simp) fun i _ _ => ?_
  simp [vmap, h]

/-- A reset makes every table anew. -/
theorem resetWith_tables (r : Retained) (s : State) : (resetWith r s).tables = State.reset.tables := by
  have hpulse : (resetWith r s).pulses.toArray.toList.map (·.entry) = State.reset.pulses.toArray.toList.map (·.entry) :=
    map_vmap_const s.pulses _ fun _ => rfl
  have hinput : (resetWith r s).inputs.toArray.toList.map (·.entry) = State.reset.inputs.toArray.toList.map (·.entry) :=
    map_vmap_const s.inputs _ fun _ => rfl
  have hdoor : (resetWith r s).doors.toArray.toList.map (·.entry) = State.reset.doors.toArray.toList.map (·.entry) :=
    map_vmap_const r.doors _ fun _ => rfl
  simp only [State.tables, hpulse, hinput, hdoor]
  rfl

theorem resetWith_doors (r : Retained) (s : State) (d : Fin 4) :
    (resetWith r s).doors[d].cycles = r.doors[d].1 ∧ (resetWith r s).doors[d].obstructions = r.doors[d].2 := by
  rw [show (resetWith r s).doors = vmap (fun c => { DoorUnit.initial with cycles := c.1, obstructions := c.2 })
    r.doors from rfl, vmap_get]
  exact ⟨rfl, rfl⟩

theorem cleared_doors : ∀ d : Fin 4, Retained.cleared.doors[d] = (0, 0) := by decide

/-- RETAINED_LOST asserts ATTN at the levels after a reset. -/
theorem powerOn_attn {s : State} (h : s.resetLow = false) : (powerOn s).attn = true := by
  have hlevel : anyUnit 12 (fun n => (256 : BitVec 12).getLsbD n.val &&
      decide (SystemEntry.initial.threshold < SystemEntry.initial.levels[n])) = true := by decide
  have hdemand : (powerOn s).attn = (true && !s.resetLow && anyUnit 12 fun n => (256 : BitVec 12).getLsbD n.val &&
      decide (SystemEntry.initial.threshold < SystemEntry.initial.levels[n])) := rfl
  rw [hdemand, hlevel, h]
  rfl

/-- Settles O18. -/
theorem resetPinAndPowerOn : Obligations.ResetPinAndPowerOn := by
  intro s dt
  refine ⟨rfl, powerOn (s.elapse dt), rfl, rfl, rfl, resetWith_tables _ _, rfl, rfl, rfl, rfl, fun d => ?_, rfl, ?_⟩
  · obtain ⟨hc, ho⟩ := resetWith_doors Retained.cleared (s.elapse dt) d
    have hclear : Retained.cleared.doors[d] = (0, 0) := cleared_doors d
    exact ⟨hc.trans (by rw [hclear]), ho.trans (by rw [hclear])⟩
  · exact powerOn_attn (s := s.elapse dt)

theorem State.awake_iff (s : State) : s.awake = true ↔ s.resetLow = false ∧ s.isActive = true := by
  simp [State.awake]

/-- An event acts while the part is not held in reset. -/
theorem event_of_awake {s : State} {dt : Nat} {f : State → State} (h : s.resetLow = false) :
    event dt s f = .next (f (s.elapse dt)) := by
  simp [event, h]

/-- What restarts the part restarts it from a state with its retained data. -/
theorem exec_restarts {s : State} {dt : Nat} {c : Instr}
    (hc : (c = .resetPinHigh dt ∧ s.resetLow = true) ∨
      (c = .egressFrameSent dt ∧ s.awake = true ∧ s.link.restarting = true ∧
        ∃ tag rest, s.link.egress = .response tag 9 .ok .none :: rest)) :
    ∃ l, exec c s = .next (restart { s.elapse dt with link := l }) := by
  rcases hc with ⟨rfl, hlow⟩ | ⟨rfl, hawake, hre, tag, rest, hq⟩
  · exact ⟨s.link, congrArg Host.Outcome.next (if_pos hlow)⟩
  · obtain ⟨hreset, hact⟩ := s.awake_iff.mp hawake
    refine ⟨{ s.link with egress := rest }, ?_⟩
    have hact' : (s.elapse dt).isActive = true := hact
    have hre' : (s.elapse dt).link.restarting = true := hre
    have hq' : (s.elapse dt).link.egress = .response tag 9 .ok .none :: rest := hq
    show event dt s headSent = _
    rw [event_of_awake hreset, headSent, if_pos hact']
    simp only [hq']
    exact congrArg Host.Outcome.next (if_pos (Bool.and_eq_true_iff.mpr ⟨hre', rfl⟩))

/-- Settles O17. -/
theorem restartKeepsTheRetainedArea : Obligations.RestartKeepsTheRetainedArea := by
  refine ⟨fun s dt tag hs => ?_, fun s dt c hc => ?_⟩
  · exact (exec_request (c := .restart dt tag) rfl s).trans (event_requestArrives_of_serving hs dt tag .restart)
  · obtain ⟨l, hexec⟩ := exec_restarts hc
    generalize ha : ({ s.elapse dt with link := l } : State) = a at hexec
    have hspeed : a.speed = s.speed := ha ▸ rfl
    have hcycles : a.cycles = s.cycles := ha ▸ rfl
    have hfaults : a.faults = s.faults := ha ▸ rfl
    have hdoors : a.doors = s.doors := ha ▸ rfl
    have hflags : a.flags = s.flags := ha ▸ rfl
    obtain ⟨htotal, hcyc⟩ := initialSlots_retained a.cycles a.speed.total
    have hdoor : ∀ d : Fin 4, (restart a).doors[d].cycles = s.doors[d].cycles ∧
        (restart a).doors[d].obstructions = s.doors[d].obstructions := fun d => by
      obtain ⟨hc, ho⟩ := resetWith_doors a.retained { a with resetLow := false } d
      have hret : a.retained.doors[d] = (s.doors[d].cycles, s.doors[d].obstructions) := by
        rw [show a.retained.doors = vmap (fun u => (u.cycles, u.obstructions)) a.doors from rfl, vmap_get, hdoors]
      exact ⟨hc.trans (by rw [hret]), ho.trans (by rw [hret])⟩
    have hflag : (restart a).flags = if s.flag .retainedLost then 256 else 0 := by
      rw [State.flag, ← hflags]
      rfl
    rw [← hspeed, ← hcycles, ← hfaults]
    exact ⟨restart a, hexec, rfl, rfl, rfl, rfl, resetWith_tables _ _, rfl, rfl, rfl, rfl, rfl, rfl, rfl, rfl, rfl, rfl,
      rfl, rfl, rfl, rfl, rfl, rfl, rfl, rfl, rfl, rfl, rfl, rfl, hdoor, hflag, htotal, hcyc⟩

end Sys2Proof.Machine
end

section
/-! PROOFS. Requests that are served at their arrival: the table writes and reads, the status and the readings (O2, O5, O8,
O10, O11, O14, O15). -/

namespace Sys2Proof.Machine

section
variable {s : State}

/-! ### The table writes, taken -/

theorem locked_of_setup (h : s.mode = .setup) : s.locked = false := by simp [State.locked, State.isRun, h]

theorem locked_of_run (h : s.mode = .run) : s.locked = true := by simp [State.locked, State.isRun, h]

theorem writePort_taken (p : Fin 3) {e : PortEntry} (hm : s.mode = .setup) (he : portFields e = true) :
    writePort p (some e) s = (.ok, writePortEntry p e s) := by
  simp [writePort, unit?_val, locked_of_setup hm, he]

theorem writeMatch_taken (k : Fin 128) {e : MatchEntry} (hm : s.mode = .setup) (he : matchFields e = true) :
    writeMatch k (some e) s = (.ok, writeMatchEntry k e s) := by
  simp [writeMatch, unit?_val, locked_of_setup hm, he]

theorem writeSlot_taken (k : Fin 240) {e : SlotDesc} (hm : s.mode = .setup) (hf : slotFields e = true)
    (hl : slotLimits e = true) (hfit : e.kind = .frame → s.frameFits e = true) :
    writeSlot k (some e) s = (.ok, stampSlot k (emptySlot k true { s with descs := vput s.descs k e })) := by
  have href : (decide (e.kind = .frame) && !s.frameFits e) = false := by
    by_cases hk : e.kind = .frame
    · simp [hfit hk]
    · simp [hk]
  simp only [writeSlot, unit?_val, locked_of_setup hm, hf, hl, href, Bool.not_true, Bool.or_false, Bool.false_eq_true, if_false]

theorem writeSpeedEntry_taken {e : SpeedEntry} (hm : s.mode = .setup) (hf : speedFields e = true)
    (hs : speedSlots e = true) :
    writeSpeedEntry 0 (some e) s = (.ok, clearResidues { s with speed := { s.speed with entry := e } }) := by
  simp [writeSpeedEntry, locked_of_setup hm, hf, hs]

theorem writePulse_taken (k : Fin 4) {e : PulseEntry} (hm : s.mode = .setup) (he : pulseFields e = true) :
    writePulse k (some e) s = (.ok, putPulse k { s.pulses[k] with entry := e } s) := by
  simp [writePulse, unit?_val, locked_of_setup hm, he]

theorem writeInput_taken (l : Fin 24) {e : InputEntry} (hm : s.mode = .setup) (he : inputFields e = true)
    (hheld : s.functionHeld l e.function = false) : writeInput l (some e) s = (.ok, writeInputEntry l e s) := by
  simp [writeInput, unit?_val, locked_of_setup hm, he, hheld]

theorem writeOutput_taken (l : Fin 16) {e : OutputEntry} (hm : s.mode = .setup) (he : outputFields e = true)
    (hsafe : safetyOk l e = true) : writeOutput l (some e) s =
      (.ok, redrive { s with outputs := vput s.outputs l { s.outputs[l] with entry := e, panelValue := false } }) := by
  simp [writeOutput, unit?_val, locked_of_setup hm, he, hsafe]

theorem writeGauge_taken (g : Fin 6) {e : GaugeEntry} (he : gaugeFields e = true)
    (href : s.mode = .run → e.enabled = true → s.noSource e.source = false) :
    writeGauge g (some e) s = (.ok, writeGaugeEntry g e s) := by
  have hno : (s.isRun && e.enabled && s.noSource e.source) = false := by
    cases hr : s.isRun with
    | false => rfl
    | true =>
      cases hen : e.enabled with
      | false => rfl
      | true => simp [href (by simpa [State.isRun] using hr) hen]
  simp only [writeGauge, unit?_val, he, hno, Bool.not_true, Bool.false_eq_true, if_false]

theorem writeCondition_taken (c : Fin 96) {e : CondEntry} (he : condFields e = true)
    (href : s.condReferences c e = true) : writeCondition c (some e) s = (.ok, writeCondEntry c e s) := by
  simp [writeCondition, unit?_val, he, href]

theorem writeTelltale_taken (t : Fin 64) {e : TelltaleEntry} (he : telltaleFields e = true) :
    writeTelltale t (some e) s = (.ok, writeTelltaleEntry t e s) := by
  simp [writeTelltale, unit?_val, he]

theorem writeChime_taken (p : Fin 8) {e : ChimePattern} (he : chimeFields e = true) :
    writeChime p (some e) s = (.ok, writeChimeEntry p e s) := by
  simp [writeChime, unit?_val, he]

theorem writeDoor_taken (d : Fin 4) {e : DoorEntry} (hm : s.mode = .setup) (he : doorFields e = true) :
    writeDoor d (some e) s = (.ok, putDoor d { s.doors[d] with entry := e } s) := by
  simp [writeDoor, unit?_val, locked_of_setup hm, he]

theorem writeFaultCfg_code_taken {c : FaultCode} {ms : Nat} (h : confirmOk c ms = true) :
    writeFaultCfg (codeNumber c) (some (.code ms)) s = (.ok, setConfirmTime (codeNumber c) ms s) := by
  have hcode : ∀ c : FaultCode, allCodes[(codeNumber c).val]? = some c := fun c => by cases c <;> rfl
  have hin : ¬ 21 < (codeNumber c).val := by omega
  simp [writeFaultCfg, hin, unit?_val, hcode, h]

theorem writeFaultCfg_general_taken {heal : Nat} {freeze : Vector (Option Nat) 6} (h : generalFields heal freeze = true) :
    writeFaultCfg 21 (some (.general heal freeze)) s =
      (.ok, { s with faults := { s.faults with healLimit := heal, freezeList := freeze } }) := by
  simp [writeFaultCfg, unit?_ge, h]

theorem writeService_taken {e : ServiceEntry} (hm : s.mode = .setup) (he : serviceFields e = true)
    (hid : e.responseId ≠ e.requestId) : writeService 0 (some e) s = (.ok, writeServiceEntry e s) := by
  simp [writeService, locked_of_setup hm, he, hid]

theorem writeSystem_taken {e : SystemEntry} (he : systemFields e = true) :
    writeSystem 0 (some e) s = (.ok, tellTest (decideAttn { s with system := e })) := by
  simp [writeSystem, he]

/-! ### The table writes, refused -/

/-- A LOCKED table refuses, before it looks at the entry. -/
theorem writePort_locked (k : Fin 3) (e : Option PortEntry) (h : s.mode = .run) : writePort k e s = (.locked, s) := by
  simp [writePort, unit?_val, locked_of_run h]

theorem writeMatch_locked (k : Fin 128) (e : Option MatchEntry) (h : s.mode = .run) :
    writeMatch k e s = (.locked, s) := by
  simp [writeMatch, unit?_val, locked_of_run h]

theorem writeSlot_locked (k : Fin 240) (e : Option SlotDesc) (h : s.mode = .run) : writeSlot k e s = (.locked, s) := by
  simp [writeSlot, unit?_val, locked_of_run h]

theorem writeSpeedEntry_locked (e : Option SpeedEntry) (h : s.mode = .run) :
    writeSpeedEntry 0 e s = (.locked, s) := by
  simp [writeSpeedEntry, locked_of_run h]

theorem writePulse_locked (k : Fin 4) (e : Option PulseEntry) (h : s.mode = .run) :
    writePulse k e s = (.locked, s) := by
  simp [writePulse, unit?_val, locked_of_run h]

theorem writeInput_locked (k : Fin 24) (e : Option InputEntry) (h : s.mode = .run) :
    writeInput k e s = (.locked, s) := by
  simp [writeInput, unit?_val, locked_of_run h]

theorem writeOutput_locked (k : Fin 16) (e : Option OutputEntry) (h : s.mode = .run) :
    writeOutput k e s = (.locked, s) := by
  simp [writeOutput, unit?_val, locked_of_run h]

theorem writeDoor_locked (k : Fin 4) (e : Option DoorEntry) (h : s.mode = .run) : writeDoor k e s = (.locked, s) := by
  simp [writeDoor, unit?_val, locked_of_run h]

theorem writeService_locked (e : Option ServiceEntry) (h : s.mode = .run) : writeService 0 e s = (.locked, s) := by
  simp [writeService, locked_of_run h]

/-- A table write that leaves the state as it is, or is taken. -/
def Refusing (o : Outcome) (s : State) : Prop := o.1 ≠ .ok → o.2 = s

theorem writePort_refusing (i : Nat) (e : Option PortEntry) (s : State) : Refusing (writePort i e s) s := by
  unfold writePort
  repeat' split
  all_goals simp [Refusing]

theorem writeMatch_refusing (i : Nat) (e : Option MatchEntry) (s : State) : Refusing (writeMatch i e s) s := by
  unfold writeMatch
  repeat' split
  all_goals simp [Refusing]

theorem writeSlot_refusing (i : Nat) (e : Option SlotDesc) (s : State) : Refusing (writeSlot i e s) s := by
  unfold writeSlot
  repeat' split
  all_goals simp [Refusing]

theorem writeSpeedEntry_refusing (i : Nat) (e : Option SpeedEntry) (s : State) :
    Refusing (writeSpeedEntry i e s) s := by
  unfold writeSpeedEntry
  repeat' split
  all_goals simp [Refusing]

theorem writePulse_refusing (i : Nat) (e : Option PulseEntry) (s : State) : Refusing (writePulse i e s) s := by
  unfold writePulse
  repeat' split
  all_goals simp [Refusing]

theorem writeInput_refusing (i : Nat) (e : Option InputEntry) (s : State) : Refusing (writeInput i e s) s := by
  unfold writeInput
  repeat' split
  all_goals simp [Refusing]

theorem writeOutput_refusing (i : Nat) (e : Option OutputEntry) (s : State) : Refusing (writeOutput i e s) s := by
  unfold writeOutput
  repeat' split
  all_goals simp [Refusing]

theorem writeGauge_refusing (i : Nat) (e : Option GaugeEntry) (s : State) : Refusing (writeGauge i e s) s := by
  unfold writeGauge
  repeat' split
  all_goals simp [Refusing]

theorem writeCondition_refusing (i : Nat) (e : Option CondEntry) (s : State) : Refusing (writeCondition i e s) s := by
  unfold writeCondition
  repeat' split
  all_goals simp [Refusing]

theorem writeTelltale_refusing (i : Nat) (e : Option TelltaleEntry) (s : State) : Refusing (writeTelltale i e s) s := by
  unfold writeTelltale
  repeat' split
  all_goals simp [Refusing]

theorem writeChime_refusing (i : Nat) (e : Option ChimePattern) (s : State) : Refusing (writeChime i e s) s := by
  unfold writeChime
  repeat' split
  all_goals simp [Refusing]

theorem writeDoor_refusing (i : Nat) (e : Option DoorEntry) (s : State) : Refusing (writeDoor i e s) s := by
  unfold writeDoor
  repeat' split
  all_goals simp [Refusing]

theorem writeFaultCfg_refusing (i : Nat) (e : Option FaultCfgEntry) (s : State) : Refusing (writeFaultCfg i e s) s := by
  unfold writeFaultCfg
  repeat' split
  all_goals simp [Refusing]

theorem writeService_refusing (i : Nat) (e : Option ServiceEntry) (s : State) : Refusing (writeService i e s) s := by
  unfold writeService
  repeat' split
  all_goals simp [Refusing]

theorem writeSystem_refusing (i : Nat) (e : Option SystemEntry) (s : State) : Refusing (writeSystem i e s) s := by
  unfold writeSystem
  repeat' split
  all_goals simp [Refusing]

/-- A TABLE_WRITE that is refused leaves the state. -/
theorem serveRequest_refused {r : Request} (hw : requestCode r = 1) (h : (serveRequest r s).result ≠ .ok) :
    (serveRequest r s).after = s ∧ (serveRequest r s).data = .none := by
  cases r with
  | badRequest c => exact ⟨rfl, rfl⟩
  | badLength c => exact ⟨rfl, rfl⟩
  | badTable c => exact ⟨rfl, rfl⟩
  | tableWritePort i e => exact ⟨writePort_refusing i e s h, rfl⟩
  | tableWriteMatch i e => exact ⟨writeMatch_refusing i e s h, rfl⟩
  | tableWriteSlot i e => exact ⟨writeSlot_refusing i e s h, rfl⟩
  | tableWriteSpeed i e => exact ⟨writeSpeedEntry_refusing i e s h, rfl⟩
  | tableWritePulse i e => exact ⟨writePulse_refusing i e s h, rfl⟩
  | tableWriteInput i e => exact ⟨writeInput_refusing i e s h, rfl⟩
  | tableWriteOutput i e => exact ⟨writeOutput_refusing i e s h, rfl⟩
  | tableWriteGauge i e => exact ⟨writeGauge_refusing i e s h, rfl⟩
  | tableWriteCondition i e => exact ⟨writeCondition_refusing i e s h, rfl⟩
  | tableWriteTelltale i e => exact ⟨writeTelltale_refusing i e s h, rfl⟩
  | tableWriteChime i e => exact ⟨writeChime_refusing i e s h, rfl⟩
  | tableWriteDoor i e => exact ⟨writeDoor_refusing i e s h, rfl⟩
  | tableWriteFaultCfg i e => exact ⟨writeFaultCfg_refusing i e s h, rfl⟩
  | tableWriteService i e => exact ⟨writeService_refusing i e s h, rfl⟩
  | tableWriteSystem i e => exact ⟨writeSystem_refusing i e s h, rfl⟩
  | _ => exact absurd hw (by simp [requestCode])

end

/-! ### Requests at their arrival -/

/-- Settles O2: a request row is the arrival of its request, and an arrival is served. -/
theorem requestIsServedAtArrival : Obligations.RequestIsServedAtArrival := by
  intro i tag r s hr hs
  rw [exec_request hr]
  exact event_requestArrives_of_serving hs i.dt tag r

/-- A request that is served at its arrival has the outcome of its service. -/
theorem exec_served {c : Instr} {tag : Byte} {r : Request} {s t : State} {res : Result} {d : ResponseData}
    {code : Nat} (hr : c.request? = some (tag, r)) (hcode : requestCode r = code) (hs : s.serving = true)
    (ho : serveRequest r (s.noted c.dt) = ⟨res, d, t⟩) : exec c s = .next (joinResponse tag code res d t) := by
  rw [requestIsServedAtArrival c tag r s hr hs, ho, hcode]

theorem exec_written {c : Instr} {tag : Byte} {r : Request} {s t : State} {res : Result}
    (hr : c.request? = some (tag, r)) (hw : requestCode r = 1) (hs : s.serving = true)
    (ho : serveRequest r (s.noted c.dt) = tableWritten (res, t)) :
    exec c s = .next (joinResponse tag 1 res .none t) :=
  exec_served hr hw hs ho

/-- Settles O10. -/
theorem refusedTableWritesChangeNothing : Obligations.RefusedTableWritesChangeNothing := by
  refine ⟨fun r s hw h => serveRequest_refused hw h, fun s dt tag hs hm => ?_⟩
  have hm' : (s.noted dt).mode = .run := hm
  exact ⟨fun k e => exec_written rfl rfl hs (congrArg tableWritten (writePort_locked k e hm')),
    fun k e => exec_written rfl rfl hs (congrArg tableWritten (writeMatch_locked k e hm')),
    fun k e => exec_written rfl rfl hs (congrArg tableWritten (writeSlot_locked k e hm')),
    fun e => exec_written rfl rfl hs (congrArg tableWritten (writeSpeedEntry_locked e hm')),
    fun k e => exec_written rfl rfl hs (congrArg tableWritten (writePulse_locked k e hm')),
    fun k e => exec_written rfl rfl hs (congrArg tableWritten (writeInput_locked k e hm')),
    fun k e => exec_written rfl rfl hs (congrArg tableWritten (writeOutput_locked k e hm')),
    fun k e => exec_written rfl rfl hs (congrArg tableWritten (writeDoor_locked k e hm')),
    fun e => exec_written rfl rfl hs (congrArg tableWritten (writeService_locked e hm'))⟩

/-- A service without a response in flight has none to abandon. -/
theorem abandon_idle {s : State} (h : s.service.response = none) : abandon s = s := by
  simp [abandon, h]

theorem endTest_idle {s : State} (h : s.service.test = none) : endTest s = s := by
  simp [endTest, h]

theorem tellTest_idle {s : State} (h : s.service.test = none) : tellTest s = s := by
  simp [tellTest, endTest_idle h]

theorem codeNumber_injective {c d : FaultCode} (h : codeNumber c = codeNumber d) : c = d := by
  have hcode : ∀ c : FaultCode, allCodes[(codeNumber c).val]? = some c := fun c => by cases c <;> rfl
  have hc := hcode c
  rw [h, hcode d] at hc
  exact (Option.some.inj hc).symm

/-- A confirm time written moves nothing where no live entry has the code. -/
theorem setConfirmTime_of_noLive {c : FaultCode} (ms : Nat) {s : State} (h : ∀ e ∈ s.faults.live, e.code ≠ c) :
    setConfirmTime (codeNumber c) ms s =
      { s with faults := { s.faults with confirm := vput s.faults.confirm (codeNumber c) ms } } := by
  have hcode : ∀ e ∈ s.faults.live, (codeNumber e.code = codeNumber c) = False := fun e he =>
    eq_false fun hn => h e he (codeNumber_injective hn)
  have hlive : s.faults.live.map (fun e => if codeNumber e.code = codeNumber c && !e.confirmed then
      { e with deadline := some (e.since + 1000 * ms) } else e) = s.faults.live := by
    refine (List.map_congr_left fun e he => ?_).trans (List.map_id _)
    simp [hcode e he]
  have hdue : s.faults.live.filter (fun e => !e.confirmed && decide (codeNumber e.code = codeNumber c) &&
      s.due e.deadline) = [] := by
    refine List.filter_eq_nil_iff.mpr fun e he => ?_
    simp [hcode e he]
  simp only [setConfirmTime, confirmDue, hlive]
  exact congrArg (List.foldl _ _) hdue

/-- Settles O5. -/
theorem plainTableWritesReplaceTheEntry : Obligations.PlainTableWritesReplaceTheEntry := by
  intro s dt tag hs
  refine ⟨fun e hm hf hsl => ?_, fun k e hm he => ?_, fun d e hm he => ?_, fun e hm he hid hno => ?_, fun e he hno => ?_,
    fun heal freeze h => ?_, fun c ms h hno => ?_⟩
  · exact exec_written rfl rfl hs (congrArg tableWritten (writeSpeedEntry_taken hm hf hsl))
  · exact exec_written rfl rfl hs (congrArg tableWritten (writePulse_taken k hm he))
  · exact exec_written rfl rfl hs (congrArg tableWritten (writeDoor_taken d hm he))
  · refine exec_written rfl rfl hs (congrArg tableWritten ((writeService_taken (s := s.noted dt) hm he hid).trans ?_))
    exact congrArg (Prod.mk Result.ok) (abandon_idle hno)
  · refine exec_written rfl rfl hs (congrArg tableWritten ((writeSystem_taken (s := s.noted dt) he).trans ?_))
    exact congrArg (Prod.mk Result.ok) (tellTest_idle hno)
  · exact exec_written rfl rfl hs (congrArg tableWritten (writeFaultCfg_general_taken h))
  · refine exec_written rfl rfl hs (congrArg tableWritten ((writeFaultCfg_code_taken (s := s.noted dt) h).trans ?_))
    exact congrArg (Prod.mk Result.ok) (setConfirmTime_of_noLive ms hno)

/-! ### Line tables -/

/-- An INPUT write to a line at its accepted level only replaces the entry. -/
theorem writeInputEntry_of_level {l : Fin 24} (e : InputEntry) {s : State} (h : s.inputs[l].line = s.inputs[l].accepted) :
    writeInputEntry l e s = { s with inputs := vput s.inputs l { s.inputs[l] with entry := e, pending := none } } :=
  if_pos h

/-- An INPUT write to a line off its accepted level begins a pending change now. -/
theorem writeInputEntry_of_change {l : Fin 24} {e : InputEntry} {s : State}
    (h : s.inputs[l].line ≠ s.inputs[l].accepted) (hd : e.debounce ≠ 0) : writeInputEntry l e s =
      { s with inputs := vput s.inputs l { s.inputs[l] with entry := e, pending := some s.now } } := by
  have hbegin : writeInputEntry l e s =
      beginPending l (putInput l { s.inputs[l] with entry := e, pending := none } s) := if_neg h
  have hsame : (putInput l { s.inputs[l] with entry := e, pending := none } s).inputs[l] =
      { s.inputs[l] with entry := e, pending := none } := vput_same _ _ _
  rw [hbegin]
  generalize ha : putInput l { s.inputs[l] with entry := e, pending := none } s = a at hsame
  have hpending : beginPending l a = putInput l { a.inputs[l] with pending := some a.now } a :=
    if_neg (hsame ▸ hd)
  rw [hpending, hsame, ← ha]
  simp only [putInput, vput_vput]

/-- Settles O8. -/
theorem lineTableWritesReplaceTheEntry : Obligations.LineTableWritesReplaceTheEntry := by
  intro s dt tag hs hm
  refine ⟨fun l e he hheld => ⟨fun hlevel => ?_, fun hlevel hd => ?_⟩, fun l e he hsafe => ?_⟩
  · refine exec_written rfl rfl hs (congrArg tableWritten ((writeInput_taken (s := s.noted dt) l hm he hheld).trans ?_))
    exact congrArg (Prod.mk Result.ok) (writeInputEntry_of_level e hlevel)
  · refine exec_written rfl rfl hs (congrArg tableWritten ((writeInput_taken (s := s.noted dt) l hm he hheld).trans ?_))
    exact congrArg (Prod.mk Result.ok) (writeInputEntry_of_change hlevel hd)
  · exact exec_written rfl rfl hs (congrArg tableWritten (writeOutput_taken (s := s.noted dt) l hm he hsafe))

/-! ### Readings -/

theorem serveTableRead_some {t : TableId} {i : Nat} {d : ResponseData} {s : State} (h : s.entryData t i = some d) :
    serveTableRead t i s = accept d s := by
  simp [serveTableRead, h]

theorem serveTableRead_none {t : TableId} {i : Nat} {s : State} (h : s.entryData t i = none) :
    serveTableRead t i s = refuse .badIndex s := by
  simp [serveTableRead, h]

/-- The protection state belongs to the lamp lines. -/
theorem protection_of_lamp (s : State) (k : Fin 8) :
    s.protection? (lineOfLamp k) = some s.lamps[k].protection.name := by
  simp [State.protection?, lampOf, lineOfLamp, unit?_lt k.isLt]

theorem protection_of_relay (s : State) {l : Fin 16} (h : 8 ≤ l.val) : s.protection? l = none := by
  simp [State.protection?, lampOf, unit?_ge h]

/-- Settles O11. -/
theorem tableReadReturnsTheEntry : Obligations.TableReadReturnsTheEntry := by
  intro s dt tag hs
  refine ⟨fun t i d h => exec_served rfl rfl hs (serveTableRead_some h),
    fun t i h => exec_served rfl rfl hs (serveTableRead_none h), ?_⟩
  have hdesc : ∀ k : Fin 240, s.entryData .slot k = some (.slotEntry s.descs[k]) := fun k => by
    have hk : k.val < 256 := by omega
    simp [State.entryData, unit?_lt hk, State.descOf, vget?]
  refine ⟨?_, ?_, hdesc, rfl, ?_, ?_, fun k => ?_, fun l hl => ?_, ?_, ?_, ?_, ?_, ?_, ?_, rfl, rfl, rfl, rfl, rfl, rfl⟩
  case refine_5 =>
    have hunit : unit? 16 k.val = some (lineOfLamp k) := unit?_val (lineOfLamp k)
    rw [State.entryData, hunit, Option.map_some, protection_of_lamp]
  case refine_6 => simp [State.entryData, unit?_val, protection_of_relay _ hl]
  all_goals simp [State.entryData, unit?_val, State.doorRecord]

/-- Settles O14. -/
theorem statusAndFlagRequests : Obligations.StatusAndFlagRequests := by
  intro s dt tag hs
  refine ⟨exec_served rfl rfl hs rfl, fun f h => exec_served rfl rfl hs ?_, fun f h => exec_served rfl rfl hs ?_,
    exec_served rfl rfl hs rfl, exec_served rfl rfl hs rfl⟩
  · exact if_neg (not_not.mpr h)
  · exact if_pos h

theorem serveCounters_matches {first count : Nat} (h1 : 1 ≤ count) (h2 : count ≤ 14) (h3 : first + count ≤ 128)
    (s : State) : serveCounters 1 first count s = accept (.matchCounters first count (s.matchCounters first count)) s :=
  if_neg (by omega)

theorem serveCounters_refused {group : Nat} (first count : Nat) (h : 5 < group) (s : State) :
    serveCounters group first count s = refuse .badField s := by
  unfold serveCounters
  split
  case h_7 => rfl
  all_goals omega

theorem serveSignalRead_in (k : Fin 256) (s : State) :
    serveSignalRead k s = accept (.slotRecord k s.slots[k]) s := by
  simp [serveSignalRead, unit?_val]

theorem serveSignalRead_out {k : Nat} (h : 256 ≤ k) (s : State) : serveSignalRead k s = refuse .badIndex s := by
  simp [serveSignalRead, unit?_ge h]

theorem serveFaultRead_out (f : Option FaultSelector) {p : Nat} (h : 40 ≤ p) (s : State) :
    serveFaultRead f p s = refuse .badIndex s := by
  simp [serveFaultRead, unit?_ge h]

/-- The answer of a FAULT_READ with a position in range. -/
theorem serveFaultRead_in (p : Fin 40) (s : State) :
    serveFaultRead (some .list) p s = accept (.faultList s.faultItems s.faults.memoryOverflow) s ∧
      serveFaultRead (some .record) p s = accept (.faultRecord s.faults.memory[p]) s ∧
      serveFaultRead (some .latch) p s = accept (.firstFault s.faults.latch) s ∧
      serveFaultRead (some .live) p s = accept (.liveFaults s.liveItems s.faults.liveOverflow) s ∧
      serveFaultRead none p s = refuse .badField s := by
  simp [serveFaultRead, unit?_val]

/-- Settles O15. -/
theorem readingRequestsChangeNothing : Obligations.ReadingRequestsChangeNothing := by
  intro s dt tag hs
  refine ⟨fun a b => exec_served rfl rfl hs rfl,
    fun a b h1 h2 h3 => exec_served rfl rfl hs (serveCounters_matches h1 h2 h3 _),
    fun a b h => exec_served rfl rfl hs (if_pos h), fun a b => exec_served rfl rfl hs rfl,
    fun a b => exec_served rfl rfl hs rfl, fun a b => exec_served rfl rfl hs rfl, fun a b => exec_served rfl rfl hs rfl,
    fun g a b h => exec_served rfl rfl hs (serveCounters_refused a b h _),
    fun k => exec_served rfl rfl hs (serveSignalRead_in k _),
    fun k h => exec_served rfl rfl hs (serveSignalRead_out h _), fun p => ?_, fun p => ?_, fun p => ?_, fun p => ?_,
    fun p => ?_, fun f p h => exec_served rfl rfl hs (serveFaultRead_out f h _)⟩
  all_goals obtain ⟨hlist, hrecord, hlatch, hlive, hnone⟩ := serveFaultRead_in p (s.noted dt)
  · exact exec_served rfl rfl hs hlist
  · exact exec_served rfl rfl hs hrecord
  · exact exec_served rfl rfl hs hlatch
  · exact exec_served rfl rfl hs hlive
  · exact exec_served rfl rfl hs hnone

end Sys2Proof.Machine
end

section
/-! PROOFS. The payload of a request is read back as that request (O3): numbers, fields, entries, and the requests. -/

namespace Sys2Proof.Machine

/-! ### Numbers in bytes -/

@[simp] theorem be_length (k n : Nat) : (be k n).length = k := by
  induction k generalizing n with
  | zero => rfl
  | succ k ih => simp [be, ih]

@[simp] theorem beInt_length (k : Nat) (v : Int) : (beInt k v).length = k := be_length _ _

theorem unbe_append_singleton (l : List Byte) (b : Byte) : unbe (l ++ [b]) = 256 * unbe l + b.toNat := by
  simp [unbe]

/-- `k` bytes carry a number modulo 256 ^ k. -/
theorem unbe_be_mod (k n : Nat) : unbe (be k n) = n % 256 ^ k := by
  induction k generalizing n with
  | zero => simp [be, unbe, Nat.mod_one]
  | succ k ih =>
    have hsplit : n % (256 * 256 ^ k) = n % 256 + 256 * (n / 256 % 256 ^ k) := Nat.mod_mul
    have hpow : 256 ^ (k + 1) = 256 * 256 ^ k := Nat.pow_succ'
    rw [be, unbe_append_singleton, ih, byteOf, BitVec.toNat_ofNat, hpow, hsplit]
    exact Nat.add_comm _ _

theorem unbe_be {k n : Nat} (h : n < 256 ^ k) : unbe (be k n) = n := by
  rw [unbe_be_mod, Nat.mod_eq_of_lt h]

theorem byteOf_toNat {n : Nat} (h : n < 256) : (byteOf n).toNat = n := by
  simp [byteOf, Nat.mod_eq_of_lt h]

/-- A field's bytes spell its value. -/
theorem readField_beInt {z : FieldSize} {v : Int} (h : fitsField z v = true) : readField z (beInt z.bytes v) = v := by
  obtain ⟨k, sg⟩ := z
  have hpos : (0 : Int) < (256 ^ k : Nat) := by positivity
  have hlt : (v % (256 ^ k : Nat)).toNat < 256 ^ k := by
    have := Int.emod_lt_of_pos v hpos
    have := Int.emod_nonneg v hpos.ne'
    omega
  have hval : (unbe (beInt k v) : Int) = v % (256 ^ k : Nat) := by
    rw [beInt, unbe_be hlt, Int.toNat_of_nonneg (Int.emod_nonneg v hpos.ne')]
  simp only [fitsField] at h
  simp only [readField, hval]
  generalize (256 ^ k : Nat) = m at *
  cases sg with
  | false =>
    simp only [Bool.false_eq_true, if_false, Bool.and_eq_true, decide_eq_true_eq] at h
    simp only [Bool.false_eq_true, false_and, if_false]
    exact Int.emod_eq_of_lt h.1 h.2
  | true =>
    simp only [if_true, Bool.and_eq_true, decide_eq_true_eq] at h
    simp only [true_and]
    obtain ⟨hlow, hhigh⟩ := h
    by_cases hneg : v < 0
    · have hmod : v % (m : Int) = v + m := by
        rw [← Int.add_emod_right]
        exact Int.emod_eq_of_lt (by omega) (by omega)
      have hbig : m ≤ 2 * unbe (beInt k v) := by omega
      rw [if_pos hbig, hmod]
      ring
    · have hmod : v % (m : Int) = v := Int.emod_eq_of_lt (by omega) (by omega)
      have hsmall : ¬ m ≤ 2 * unbe (beInt k v) := by omega
      rw [if_neg hsmall, hmod]

/-! ### Lists of fields -/

theorem encodeFields_length {zs : List FieldSize} {vs : List Int} (h : fitsFields zs vs = true) :
    (encodeFields zs vs).length = sizeOfFields zs := by
  induction zs generalizing vs with
  | nil => cases vs <;> rfl
  | cons z zs ih =>
    cases vs with
    | nil => simp [fitsFields] at h
    | cons v vs =>
      simp only [fitsFields, Bool.and_eq_true] at h
      simp [encodeFields, sizeOfFields, ih h.2]

theorem decodeFields_encodeFields {zs : List FieldSize} {vs : List Int} (h : fitsFields zs vs = true) :
    decodeFields zs (encodeFields zs vs) = vs := by
  induction zs generalizing vs with
  | nil =>
    cases vs with
    | nil => rfl
    | cons v vs => simp [fitsFields] at h
  | cons z zs ih =>
    cases vs with
    | nil => simp [fitsFields] at h
    | cons v vs =>
      simp only [fitsFields, Bool.and_eq_true] at h
      simp [encodeFields, decodeFields, List.take_left', List.drop_left', readField_beInt h.1, ih h.2]

/-- An entry part that spells fields is read back as the entry of those fields. -/
theorem readEntry_encode {α : Type} {zs : List FieldSize} {vs : List Int} {ofFields : List Int → Option α} {a : α}
    {make : Option α → Request} (hfit : fitsFields zs vs = true) (hback : ofFields vs = some a) :
    readEntry zs ofFields make (encodeFields zs vs) = make (some a) := by
  simp [readEntry, encodeFields_length hfit, decodeFields_encodeFields hfit, hback]

/-! ### Values of fields -/

@[simp] theorem yes?_yesField (b : Bool) : yes? (yesField b) = some b := by
  cases b <;> rfl

/-- A value in its list is picked at its place. -/
theorem pick_place {α : Type} [DecidableEq α] {l : List α} {a : α} (h : a ∈ l) : pick l (place l a) = some a := by
  have hlt : l.findIdx (· == a) < l.length := List.findIdx_lt_length_of_exists ⟨a, h, by simp⟩
  have heq : l[l.findIdx (· == a)] = a := by simpa using List.findIdx_getElem (w := hlt)
  simp [pick, place, List.getElem?_eq_getElem hlt, heq]

@[simp] theorem pick_bitRates (a : BitRate) : pick bitRates (place bitRates a) = some a :=
  pick_place (by cases a <;> decide)

@[simp] theorem pick_defaultActions (a : DefaultAction) : pick defaultActions (place defaultActions a) = some a :=
  pick_place (by cases a <;> decide)

@[simp] theorem pick_formats (a : Format) : pick formats (place formats a) = some a :=
  pick_place (by cases a <;> decide)

@[simp] theorem pick_sourceKinds (a : SourceKind) : pick sourceKinds (place sourceKinds a) = some a :=
  pick_place (by cases a <;> decide)

@[simp] theorem pick_byteOrders (a : ByteOrder) : pick byteOrders (place byteOrders a) = some a :=
  pick_place (by cases a <;> decide)

@[simp] theorem pick_quantities (a : Quantity) : pick quantities (place quantities a) = some a :=
  pick_place (by cases a <;> decide)

@[simp] theorem pick_substitutions (a : Substitution) : pick substitutions (place substitutions a) = some a :=
  pick_place (by cases a <;> decide)

@[simp] theorem pick_distanceSources (a : DistanceSource) : pick distanceSources (place distanceSources a) = some a :=
  pick_place (by cases a <;> decide)

@[simp] theorem pick_pulseModes (a : PulseMode) : pick pulseModes (place pulseModes a) = some a :=
  pick_place (by cases a <;> decide)

@[simp] theorem pick_edgePolarities (a : EdgePolarity) : pick edgePolarities (place edgePolarities a) = some a :=
  pick_place (by cases a <;> decide)

@[simp] theorem pick_inputPolarities (a : InputPolarity) : pick inputPolarities (place inputPolarities a) = some a :=
  pick_place (by cases a <;> decide)

@[simp] theorem pick_outputPolarities (a : OutputPolarity) :
    pick outputPolarities (place outputPolarities a) = some a := pick_place (by cases a <;> decide)

@[simp] theorem pick_invalidActions (a : InvalidAction) : pick invalidActions (place invalidActions a) = some a :=
  pick_place (by cases a <;> decide)

@[simp] theorem pick_comparators (a : Comparator) : pick comparators (place comparators a) = some a :=
  pick_place (by cases a <;> decide)

@[simp] theorem pick_invalidPolicies (a : InvalidPolicy) : pick invalidPolicies (place invalidPolicies a) = some a :=
  pick_place (by cases a <;> decide)

@[simp] theorem pick_telltaleClasses (a : TelltaleClass) : pick telltaleClasses (place telltaleClasses a) = some a :=
  pick_place (by cases a <;> decide)

@[simp] theorem pick_showModes (a : ShowMode) : pick showModes (place showModes a) = some a :=
  pick_place (by cases a <;> decide)

theorem pick_allCodes (c : FaultCode) : pick allCodes ((codeNumber c).val : Int) = some c := by
  cases c <;> rfl

@[simp] theorem portSet?_field (p : PortSet) : portSet? (portSetField p) = some p := by
  obtain ⟨a, b, c⟩ := p
  revert a b c
  decide

@[simp] theorem forwardSet?_field (f : ForwardSet) : forwardSet? (forwardSetField f) = some f := by
  obtain ⟨⟨a, b, c⟩, d⟩ := f
  revert a b c d
  decide

theorem opt?_optField {k : Nat} {n : Option Nat} (h : notNone k n = true) : opt? k (optField k n) = n := by
  cases n with
  | none => simp [opt?, optField]
  | some n =>
    have hlt : n < 256 ^ k - 1 := by simpa [notNone] using h
    show opt? k (n : Int) = some n
    unfold opt?
    rw [if_neg (by omega), Int.toNat_natCast]

@[simp] theorem inputFunction?_fields (f : InputFunction) :
    inputFunction? (inputFunctionFields f).1 (inputFunctionFields f).2 = some f := by
  cases f with
  | door f d => cases f <;> simp [inputFunction?, inputFunctionFields]
  | _ => rfl

@[simp] theorem lineSource?_fields (f : LineSource) :
    lineSource? (lineSourceFields f).1 (lineSourceFields f).2 = some f := by
  cases f <;> simp [lineSource?, lineSourceFields]

theorem faultSourceOf_field {f : FaultSource} (h : plainSource f = true) : faultSourceOf (faultSourceField f) = f := by
  cases f with
  | none => rfl
  | any => rfl
  | num n =>
    have hlt : n < 254 := by simpa [plainSource] using h
    have h1 : (n : Int) ≠ 255 := by omega
    have h2 : (n : Int) ≠ 254 := by omega
    simp [faultSourceOf, faultSourceField, h1, h2]

@[simp] theorem port?_val (p : Fin 3) : port? (p.val : Int) = some p := by
  simp [port?, unit?_val]

@[simp] theorem vector?_toList {α : Type} {n : Nat} (v : Vector α n) : vector? n v.toArray.toList = some v := by
  simp [vector?]

/-! ### Entries -/

theorem portOfFields_toFields (e : PortEntry) : portOfFields (portToFields e) = some e := by
  simp [portOfFields, portToFields]

theorem matchOfFields_toFields (e : MatchEntry) : matchOfFields (matchToFields e) = some e := by
  simp [matchOfFields, matchToFields]

theorem slotOfFields_toFields (e : SlotDesc) : slotOfFields (slotToFields e) = some e := by
  simp [slotOfFields, slotToFields]

theorem speedOfFields_toFields {e : SpeedEntry} (hp : notNone 1 e.primary = true) (hf : notNone 1 e.fallback = true) :
    speedOfFields (speedToFields e) = some e := by
  simp [speedOfFields, speedToFields, opt?_optField hp, opt?_optField hf]

theorem pulseOfFields_toFields (e : PulseEntry) : pulseOfFields (pulseToFields e) = some e := by
  simp [pulseOfFields, pulseToFields]

theorem inputOfFields_toFields (e : InputEntry) : inputOfFields (inputToFields e) = some e := by
  simp [inputOfFields, inputToFields]

theorem outputOfFields_toFields (e : OutputEntry) : outputOfFields (outputToFields e) = some e := by
  simp [outputOfFields, outputToFields]

theorem pointsOfFields_flatMap (ps : List (Int × Nat)) (rest : List Int) :
    pointsOfFields ps.length (ps.flatMap (fun p => [p.1, (p.2 : Int)]) ++ rest) = some (ps, rest) := by
  induction ps with
  | nil => rfl
  | cons p ps ih => simp [pointsOfFields, ih]

theorem gaugeOfFields_toFields (e : GaugeEntry) : gaugeOfFields (gaugeToFields e) = some e := by
  have hpoints := pointsOfFields_flatMap e.points.toArray.toList
    [(e.slew : Int), e.deadband, place invalidActions e.action, e.parkPosition]
  simp only [Array.length_toList, Vector.size_toArray] at hpoints
  simp [gaugeOfFields, gaugeToFields, hpoints]

theorem condOfFields_toFields {e : CondEntry} (hg : notNone 1 e.gate = true) (hs : plainSource e.source = true) :
    condOfFields (condToFields e) = some e := by
  simp [condOfFields, condToFields, opt?_optField hg, faultSourceOf_field hs, pick_allCodes]

theorem telltaleOfFields_toFields {e : TelltaleEntry} (h : notNone 1 e.chime = true) :
    telltaleOfFields (telltaleToFields e) = some e := by
  simp [telltaleOfFields, telltaleToFields, opt?_optField h]

theorem chimeOfFields_toFields (e : ChimePattern) : chimeOfFields (chimeToFields e) = some e := by
  simp [chimeOfFields, chimeToFields]

theorem doorOfFields_toFields {e : DoorEntry} (hc : notNone 1 e.closingChime = true)
    (he : notNone 1 e.emergencyChime = true) (hp : notNone 1 e.parkingBrake = true) :
    doorOfFields (doorToFields e) = some e := by
  simp [doorOfFields, doorToFields, opt?_optField hc, opt?_optField he, opt?_optField hp]

theorem codeOfFields_toFields (ms : Nat) : codeOfFields (faultCfgToFields (.code ms)) = some (.code ms) := by
  simp [codeOfFields, faultCfgToFields]

theorem generalOfFields_toFields {heal : Nat} {freeze : Vector (Option Nat) 6}
    (h : ∀ k : Fin 6, notNone 2 freeze[k] = true) :
    generalOfFields (faultCfgToFields (.general heal freeze)) = some (.general heal freeze) := by
  have hback : (freeze.toArray.toList.map (optField 2)).map (opt? 2) = freeze.toArray.toList := by
    rw [List.map_map]
    refine (List.map_congr_left fun n hn => ?_).trans (List.map_id _)
    obtain ⟨k, hk, rfl⟩ := List.getElem_of_mem hn
    exact opt?_optField (h ⟨k, by simpa using hk⟩)
  simp [generalOfFields, faultCfgToFields, hback]

theorem serviceOfFields_toFields (e : ServiceEntry) : serviceOfFields (serviceToFields e) = some e := by
  simp [serviceOfFields, serviceToFields]

theorem systemOfFields_toFields {e : SystemEntry} (hp : notNone 1 e.parkingBrake = true)
    (hs : notNone 1 e.stopChime = true) : systemOfFields (systemToFields e) = some e := by
  have hlen : (e.levels.toArray.toList.map (fun n : Nat => (n : Int))).length = 12 := by simp
  have htake : (e.levels.toArray.toList.map (fun n : Nat => (n : Int)) ++ [(e.threshold : Int)]).take 12 =
      e.levels.toArray.toList.map (fun n : Nat => (n : Int)) := List.take_left' hlen
  have hdrop : (e.levels.toArray.toList.map (fun n : Nat => (n : Int)) ++ [(e.threshold : Int)]).drop 12 =
      [(e.threshold : Int)] := List.drop_left' hlen
  have hback : (e.levels.toArray.toList.map (fun n : Nat => (n : Int))).map Int.toNat = e.levels.toArray.toList := by
    rw [List.map_map]
    exact (List.map_congr_left fun n _ => Int.toNat_natCast n).trans (List.map_id _)
  have hfields : systemToFields e = [(e.reportPeriod : Int), e.panelTimeout, e.bulbTime, e.runOnTime,
      optField 1 e.parkingBrake, optField 1 e.stopChime] ++
        (e.levels.toArray.toList.map (fun n : Nat => (n : Int)) ++ [(e.threshold : Int)]) := by
    simp [systemToFields, List.map_eq_flatMap]
  simp only [hfields, systemOfFields, List.cons_append, List.nil_append, htake, hdrop, hback, vector?_toList,
    opt?_optField hp, opt?_optField hs, Int.toNat_natCast]
  rfl

/-! ### TABLE_WRITE -/

theorem tableIds_place (t : TableId) : tableIds[(byteOf (tableIds.findIdx (· == t))).toNat]? = some t := by
  have hmem : t ∈ tableIds := by cases t <;> decide
  have hlt : tableIds.findIdx (· == t) < tableIds.length := List.findIdx_lt_length_of_exists ⟨t, hmem, by simp⟩
  have hsmall : tableIds.findIdx (· == t) < 256 := lt_trans hlt (by decide)
  have heq : tableIds[tableIds.findIdx (· == t)] = t := by simpa using List.findIdx_getElem (w := hlt)
  rw [byteOf_toNat hsmall, List.getElem?_eq_getElem hlt, heq]

theorem parseRequest_write (p : List Byte) : parseRequest (1 :: p) = parseWrite p := rfl

theorem parseRequest_read (p : List Byte) : parseRequest (2 :: p) = parseRead p := rfl

theorem parseRequest_writePayload (t : TableId) {i : Nat} (hi : i < 256) (zs : List FieldSize) (vs : List Int) :
    parseRequest (writePayload t i zs vs) = readWrite t i (encodeFields zs vs) := by
  rw [writePayload, parseRequest_write]
  simp only [parseWrite, tableIds_place, byteOf_toNat hi]

theorem writePayload_length {zs : List FieldSize} {vs : List Int} (h : fitsFields zs vs = true) (t : TableId) (i : Nat) :
    (writePayload t i zs vs).length = 3 + sizeOfFields zs := by
  simp [writePayload, encodeFields_length h]
  omega

/-- A TABLE_WRITE of one entry whose fields are read back as the entry. -/
theorem write_roundTrip {α : Type} {t : TableId} {i : Nat} {zs : List FieldSize} {vs : List Int}
    {ofFields : List Int → Option α} {make : Option α → Request} {e : α} (hi : i < 256)
    (hread : ∀ bytes, readWrite t i bytes = readEntry zs ofFields make bytes) (hfit : fitsFields zs vs = true)
    (hback : ofFields vs = some e) (hsize : 3 + sizeOfFields zs ≤ 120) :
    parseRequest (writePayload t i zs vs) = make (some e) ∧ (writePayload t i zs vs).length ≤ 120 := by
  rw [parseRequest_writePayload t hi, hread, readEntry_encode hfit hback, writePayload_length hfit]
  exact ⟨rfl, hsize⟩

/-- A well-formed TABLE_WRITE whose payload there is names an entry that fits. -/
theorem written_entry {α : Type} {i : Nat} {fits : α → Bool} {e : Option α} {payload : α → List Byte} {p : List Byte}
    (hw : writeFits i fits e = true) (hp : e.map payload = some p) :
    ∃ a, e = some a ∧ p = payload a ∧ i < 256 ∧ fits a = true := by
  obtain ⟨a, rfl, rfl⟩ := Option.map_eq_some_iff.mp hp
  simp only [writeFits, fitsBytes, Bool.and_eq_true, decide_eq_true_eq, Option.all_some] at hw
  exact ⟨a, rfl, rfl, by simpa using hw.1, hw.2⟩

theorem faultCfg_roundTrip {i : Nat} {e : FaultCfgEntry} (hi : i < 256) (h : FaultCfgEntry.fits i e = true) :
    parseRequest (writePayload .faultCfg i (if i = 21 then generalSizes else codeSizes) (faultCfgToFields e)) =
        .tableWriteFaultCfg i (some e) ∧
      (writePayload .faultCfg i (if i = 21 then generalSizes else codeSizes) (faultCfgToFields e)).length ≤ 120 := by
  cases e with
  | code ms =>
    simp only [FaultCfgEntry.fits, Bool.and_eq_true, decide_eq_true_eq] at h
    have h21 : i ≠ 21 := by omega
    have hgt : ¬ 21 < i := by omega
    rw [if_neg h21]
    refine write_roundTrip hi (fun bytes => ?_) h.2 (codeOfFields_toFields ms) (by decide)
    simp only [readWrite, if_neg hgt, if_neg h21]
  | general heal freeze =>
    simp only [FaultCfgEntry.fits, Bool.and_eq_true, decide_eq_true_eq, allUnits_iff] at h
    obtain ⟨⟨rfl, hfit⟩, hfreeze⟩ := h
    exact write_roundTrip hi (fun bytes => rfl) hfit (generalOfFields_toFields hfreeze) (by decide)

/-! ### The other requests -/

theorem fitsBytes_one {n : Nat} (h : fitsBytes 1 n = true) : n < 256 := by
  simpa [fitsBytes] using h

theorem fitsBytes_four {n : Nat} (h : fitsBytes 4 n = true) : n < 256 ^ 4 := by
  simpa [fitsBytes] using h

/-- The bytes of a number of four bytes, one by one. -/
theorem be_four (n : Nat) : ∃ a b c d : Byte, be 4 n = [a, b, c, d] := ⟨_, _, _, _, rfl⟩

theorem be_two (n : Nat) : ∃ a b : Byte, be 2 n = [a, b] := ⟨_, _, rfl⟩

theorem tableRead_roundTrip (t : TableId) {i : Nat} (hi : i < 256) :
    parseRequest [2, byteOf (tableIds.findIdx (· == t)), byteOf i] = .tableRead t i := by
  rw [parseRequest_read]
  simp only [parseRead, tableIds_place, byteOf_toNat hi]

theorem parseRequest_start (n : Nat) : parseRequest (3 :: be 4 n) = .start (BitVec.ofNat 32 (unbe (be 4 n))) := by
  obtain ⟨a, b, c, d, hbytes⟩ := be_four n
  have hparse : parseRequest [3, a, b, c, d] = .start (BitVec.ofNat 32 (unbe [a, b, c, d])) := rfl
  rw [hbytes, hparse]

theorem start_roundTrip (l : BitVec 32) : parseRequest (3 :: be 4 l.toNat) = .start l := by
  have hlt : l.toNat < 256 ^ 4 := by have := l.isLt; omega
  rw [parseRequest_start, unbe_be hlt, BitVec.ofNat_toNat, BitVec.setWidth_eq]

theorem parseRequest_flagsClear (n : Nat) :
    parseRequest (6 :: be 2 n) = .flagsClear (BitVec.ofNat 16 (unbe (be 2 n))) := by
  obtain ⟨a, b, hbytes⟩ := be_two n
  have hparse : parseRequest [6, a, b] = .flagsClear (BitVec.ofNat 16 (unbe [a, b])) := rfl
  rw [hbytes, hparse]

theorem flagsClear_roundTrip (f : BitVec 16) : parseRequest (6 :: be 2 f.toNat) = .flagsClear f := by
  have hlt : f.toNat < 256 ^ 2 := by have := f.isLt; omega
  rw [parseRequest_flagsClear, unbe_be hlt, BitVec.ofNat_toNat, BitVec.setWidth_eq]

theorem signalWrite_roundTrip {k : Nat} {v : Int} (hk : k < 256) (hv : fitsField s4 v = true) :
    parseRequest (0x10 :: byteOf k :: beInt 4 v) = .signalWrite k v := by
  have hval : readField s4 (beInt 4 v) = v := readField_beInt hv
  obtain ⟨a, b, c, d, hbytes⟩ : ∃ a b c d : Byte, beInt 4 v = [a, b, c, d] := be_four _
  rw [hbytes] at hval ⊢
  show Request.signalWrite (byteOf k).toNat (readField s4 [a, b, c, d]) = _
  rw [hval, byteOf_toNat hk]

theorem odometerSet_roundTrip {m : Nat} (hm : m < 256 ^ 4) : parseRequest (0x13 :: be 4 m) = .odometerSet m := by
  have hval : unbe (be 4 m) = m := unbe_be hm
  obtain ⟨a, b, c, d, hbytes⟩ := be_four m
  rw [hbytes] at hval ⊢
  show Request.odometerSet (unbe [a, b, c, d]) = _
  rw [hval]

theorem txFrame_roundTrip {p f i : Nat} {data : List Byte} (hp : p < 256) (hf : f < 256) (hi : i < 256 ^ 4)
    (hd : data.length ≤ 112) :
    parseRequest ([0x14, byteOf p, byteOf f] ++ be 4 i ++ byteOf data.length :: data) = .txFrame p f i data := by
  have hval : unbe (be 4 i) = i := unbe_be hi
  obtain ⟨a, b, c, d, hbytes⟩ := be_four i
  have hlen : (byteOf data.length).toNat = data.length := byteOf_toNat (by omega)
  rw [hbytes] at hval ⊢
  show parseTx (byteOf p :: byteOf f :: a :: b :: c :: d :: byteOf data.length :: data) = _
  rw [parseTx, if_pos hlen.symm, hval, byteOf_toNat hp, byteOf_toNat hf]

theorem doorRequest_roundTrip {d : Nat} (a : DoorAction) (hd : d < 256) :
    parseRequest [0x20, byteOf d, byteOf (doorActions.findIdx (· == a))] = .doorRequest d (some a) := by
  have hpick : pick doorActions ((byteOf (doorActions.findIdx (· == a))).toNat : Int) = some a := by cases a <;> rfl
  show Request.doorRequest (byteOf d).toNat (pick doorActions (byteOf (doorActions.findIdx (· == a))).toNat) = _
  rw [hpick, byteOf_toNat hd]

theorem faultRead_roundTrip {n : Nat} (k : FaultSelector) (hn : n < 256) :
    parseRequest [0x30, byteOf (faultSelectors.findIdx (· == k)), byteOf n] = .faultRead (some k) n := by
  have hpick : pick faultSelectors ((byteOf (faultSelectors.findIdx (· == k))).toNat : Int) = some k := by
    cases k <;> rfl
  show Request.faultRead (pick faultSelectors (byteOf (faultSelectors.findIdx (· == k))).toNat) (byteOf n).toNat = _
  rw [hpick, byteOf_toNat hn]

/-! ### The round trip -/

/-- Settles O3, request by request. -/
theorem requestPayloadRoundTrip : Obligations.RequestPayloadRoundTrip := by
  intro r p hw hp
  cases r with
  | badRequest c => exact absurd hp nofun
  | badLength c => exact absurd hp nofun
  | badTable c => exact absurd hp nofun
  | tableWritePort i e =>
    obtain ⟨a, rfl, rfl, hi, hfit⟩ := written_entry hw hp
    exact write_roundTrip hi (fun _ => rfl) hfit (portOfFields_toFields a) (by decide)
  | tableWriteMatch i e =>
    obtain ⟨a, rfl, rfl, hi, hfit⟩ := written_entry hw hp
    exact write_roundTrip hi (fun _ => rfl) hfit (matchOfFields_toFields a) (by decide)
  | tableWriteSlot i e =>
    obtain ⟨a, rfl, rfl, hi, hfit⟩ := written_entry hw hp
    exact write_roundTrip hi (fun _ => rfl) hfit (slotOfFields_toFields a) (by decide)
  | tableWriteSpeed i e =>
    obtain ⟨a, rfl, rfl, hi, hfit⟩ := written_entry hw hp
    simp only [SpeedEntry.fits, Bool.and_eq_true] at hfit
    exact write_roundTrip hi (fun _ => rfl) hfit.1.1 (speedOfFields_toFields hfit.1.2 hfit.2) (by decide)
  | tableWritePulse i e =>
    obtain ⟨a, rfl, rfl, hi, hfit⟩ := written_entry hw hp
    exact write_roundTrip hi (fun _ => rfl) hfit (pulseOfFields_toFields a) (by decide)
  | tableWriteInput i e =>
    obtain ⟨a, rfl, rfl, hi, hfit⟩ := written_entry hw hp
    exact write_roundTrip hi (fun _ => rfl) hfit (inputOfFields_toFields a) (by decide)
  | tableWriteOutput i e =>
    obtain ⟨a, rfl, rfl, hi, hfit⟩ := written_entry hw hp
    exact write_roundTrip hi (fun _ => rfl) hfit (outputOfFields_toFields a) (by decide)
  | tableWriteGauge i e =>
    obtain ⟨a, rfl, rfl, hi, hfit⟩ := written_entry hw hp
    exact write_roundTrip hi (fun _ => rfl) hfit (gaugeOfFields_toFields a) (by decide)
  | tableWriteCondition i e =>
    obtain ⟨a, rfl, rfl, hi, hfit⟩ := written_entry hw hp
    simp only [CondEntry.fits, Bool.and_eq_true] at hfit
    exact write_roundTrip hi (fun _ => rfl) hfit.1.1 (condOfFields_toFields hfit.1.2 hfit.2) (by decide)
  | tableWriteTelltale i e =>
    obtain ⟨a, rfl, rfl, hi, hfit⟩ := written_entry hw hp
    simp only [TelltaleEntry.fits, Bool.and_eq_true] at hfit
    exact write_roundTrip hi (fun _ => rfl) hfit.1 (telltaleOfFields_toFields hfit.2) (by decide)
  | tableWriteChime i e =>
    obtain ⟨a, rfl, rfl, hi, hfit⟩ := written_entry hw hp
    exact write_roundTrip hi (fun _ => rfl) hfit (chimeOfFields_toFields a) (by decide)
  | tableWriteDoor i e =>
    obtain ⟨a, rfl, rfl, hi, hfit⟩ := written_entry hw hp
    simp only [DoorEntry.fits, Bool.and_eq_true] at hfit
    obtain ⟨⟨⟨hfit, hc⟩, he⟩, hb⟩ := hfit
    exact write_roundTrip hi (fun _ => rfl) hfit (doorOfFields_toFields hc he hb) (by decide)
  | tableWriteFaultCfg i e =>
    obtain ⟨a, rfl, rfl, hi, hfit⟩ := written_entry hw hp
    exact faultCfg_roundTrip hi hfit
  | tableWriteService i e =>
    obtain ⟨a, rfl, rfl, hi, hfit⟩ := written_entry hw hp
    exact write_roundTrip hi (fun _ => rfl) hfit (serviceOfFields_toFields a) (by decide)
  | tableWriteSystem i e =>
    obtain ⟨a, rfl, rfl, hi, hfit⟩ := written_entry hw hp
    simp only [SystemEntry.fits, Bool.and_eq_true] at hfit
    exact write_roundTrip hi (fun _ => rfl) hfit.1.1 (systemOfFields_toFields hfit.1.2 hfit.2) (by decide)
  | tableRead t i =>
    obtain rfl := Option.some.inj hp
    exact ⟨tableRead_roundTrip t (fitsBytes_one hw), by simp⟩
  | start l =>
    obtain rfl := Option.some.inj hp
    exact ⟨start_roundTrip l, by simp⟩
  | flagsClear f =>
    obtain rfl := Option.some.inj hp
    exact ⟨flagsClear_roundTrip f, by simp⟩
  | counterRead g f c =>
    obtain rfl := Option.some.inj hp
    simp only [Request.wellFormed, Bool.and_eq_true] at hw
    refine ⟨?_, by simp⟩
    show Request.counterRead (byteOf g).toNat (byteOf f).toNat (byteOf c).toNat = _
    rw [byteOf_toNat (fitsBytes_one hw.1.1), byteOf_toNat (fitsBytes_one hw.1.2), byteOf_toNat (fitsBytes_one hw.2)]
  | signalWrite k v =>
    obtain rfl := Option.some.inj hp
    simp only [Request.wellFormed, Bool.and_eq_true] at hw
    exact ⟨signalWrite_roundTrip (fitsBytes_one hw.1) hw.2, by simp⟩
  | signalRead k =>
    obtain rfl := Option.some.inj hp
    exact ⟨congrArg Request.signalRead (byteOf_toNat (fitsBytes_one hw)), by simp⟩
  | odometerSet m =>
    obtain rfl := Option.some.inj hp
    exact ⟨odometerSet_roundTrip (fitsBytes_four hw), by simp⟩
  | txFrame q f i d =>
    obtain rfl := Option.some.inj hp
    simp only [Request.wellFormed, Bool.and_eq_true, decide_eq_true_eq] at hw
    obtain ⟨⟨⟨hq, hf⟩, hi⟩, hd⟩ := hw
    refine ⟨txFrame_roundTrip (fitsBytes_one hq) (fitsBytes_one hf) (fitsBytes_four hi) hd, ?_⟩
    simp only [List.length_append, List.length_cons, List.length_nil, be_length]
    omega
  | doorRequest d a =>
    obtain ⟨a, rfl, rfl⟩ := Option.map_eq_some_iff.mp hp
    exact ⟨doorRequest_roundTrip a (fitsBytes_one hw), by simp⟩
  | chime k =>
    obtain rfl := Option.some.inj hp
    exact ⟨congrArg Request.chime (byteOf_toNat (fitsBytes_one hw)), by simp⟩
  | outputSet l v =>
    obtain rfl := Option.some.inj hp
    simp only [Request.wellFormed, Bool.and_eq_true] at hw
    refine ⟨?_, by simp⟩
    show Request.outputSet (byteOf l).toNat (byteOf v).toNat = _
    rw [byteOf_toNat (fitsBytes_one hw.1), byteOf_toNat (fitsBytes_one hw.2)]
  | faultRead k n =>
    obtain ⟨k, rfl, rfl⟩ := Option.map_eq_some_iff.mp hp
    exact ⟨faultRead_roundTrip k (fitsBytes_one hw), by simp⟩
  | _ =>
    obtain rfl := Option.some.inj hp
    exact ⟨rfl, by simp⟩

end Sys2Proof.Machine
end

section
/-! PROOFS. Extraction and rounding (R27, R30); the transmit queues (R20 to R24), the port controllers (R3, R4) and the
segments of a response in them (R171, R172). -/

namespace Sys2Proof.Machine

/-! ### The bits of a number spelt by bytes (R26, R27) -/

/-- A bit of the data is that bit of the number they spell with the first byte least significant. -/
theorem dataBit_eq_testBit (data : List Byte) (k : Nat) : dataBit data k = (unbe data.reverse).testBit k := by
  induction data generalizing k with
  | nil => simp [dataBit, unbe]
  | cons b rest ih =>
    have hsplit := Nat.testBit_two_pow_mul_add (i := 8) (unbe rest.reverse) b.isLt k
    rw [List.reverse_cons, unbe_append_singleton, hsplit]
    by_cases hk : k < 8
    · simp [dataBit, hk, Nat.div_eq_of_lt hk, Nat.mod_eq_of_lt hk, BitVec.getLsbD]
    · obtain ⟨j, rfl⟩ : ∃ j, k = j + 8 := ⟨k - 8, by omega⟩
      rw [if_neg hk, Nat.add_sub_cancel, ← ih j]
      simp [dataBit]

/-- The place of a position in the BIG order: 0 for bit 7 of the first byte. -/
def bigPlace (p : Nat) : Nat := 8 * (p / 8) + (7 - p % 8)

/-- A bit of the data is the bit, counted from the most significant, of the number they spell with the first byte most
significant. -/
theorem dataBit_eq_testBit_big {data : List Byte} {p : Nat} (hp : p < 8 * data.length) :
    dataBit data p = (unbe data).testBit (8 * data.length - 1 - bigPlace p) := by
  have hbyte : p / 8 < data.length := by omega
  have hplace : 8 * data.length - 1 - bigPlace p = 8 * (data.length - 1 - p / 8) + p % 8 := by
    simp only [bigPlace]
    omega
  have hback : data.length - 1 - (data.length - 1 - p / 8) = p / 8 := by omega
  have hin : data.length - 1 - p / 8 < data.length := by omega
  have hdiv : (8 * (data.length - 1 - p / 8) + p % 8) / 8 = data.length - 1 - p / 8 := by omega
  have hmod : (8 * (data.length - 1 - p / 8) + p % 8) % 8 = p % 8 := by omega
  have hmirror : dataBit data p = dataBit data.reverse (8 * (data.length - 1 - p / 8) + p % 8) := by
    rw [dataBit, dataBit, hdiv, hmod, List.getD_eq_getElem?_getD, List.getD_eq_getElem?_getD, List.getElem?_reverse hin,
      hback]
  rw [hmirror, hplace, dataBit_eq_testBit, List.reverse_reverse]

theorem bitsToNat_append (bits : List Bool) (b : Bool) : bitsToNat (bits ++ [b]) = 2 * bitsToNat bits + bit b := by
  simp [bitsToNat]

theorem bitsToNat_cons (b : Bool) (bits : List Bool) :
    bitsToNat (b :: bits) = 2 ^ bits.length * bit b + bitsToNat bits := by
  induction bits using List.reverseRecOn with
  | nil => simp [bitsToNat]
  | append_singleton bits c ih =>
    rw [← List.cons_append, bitsToNat_append, bitsToNat_append, ih, List.length_append, List.length_singleton]
    ring

theorem bit_eq_toNat (b : Bool) : bit b = b.toNat := by cases b <;> rfl

/-- A field of a number is its top bit and the field below it. -/
theorem field_succ (x k n : Nat) :
    x / 2 ^ k % 2 ^ (n + 1) = 2 ^ n * bit (x.testBit (k + n)) + x / 2 ^ k % 2 ^ n := by
  have hbit : (x / 2 ^ k).testBit n = x.testBit (k + n) := by
    rw [Nat.testBit_div_two_pow, Nat.add_comm]
  rw [Nat.mod_pow_succ, ← Nat.toNat_testBit, hbit, bit_eq_toNat, Nat.add_comm]

theorem bitsToNat_field (x k n : Nat) :
    bitsToNat (((List.range n).reverse.map (k + ·)).map x.testBit) = x / 2 ^ k % 2 ^ n := by
  induction n with
  | zero => simp [bitsToNat, Nat.mod_one]
  | succ n ih =>
    rw [List.range_succ, List.reverse_append, List.reverse_singleton, List.singleton_append, List.map_cons, List.map_cons,
      bitsToNat_cons, ih, field_succ]
    simp

/-- The BIG walk goes down by one place at each step. -/
theorem bigPlace_next (p : Nat) : bigPlace (if p % 8 = 0 then p + 15 else p - 1) = bigPlace p + 1 := by
  simp only [bigPlace]
  split <;> omega

theorem bigPlace_lt {p m : Nat} (h : p < 8 * m) : bigPlace p < 8 * m := by
  simp only [bigPlace]
  omega

/-- A walk whose positions lie in the data ends within it. -/
theorem bigWalk_fits {m : Nat} (n p : Nat) (h : ∀ q ∈ bigWalk p (n + 1), q < 8 * m) : bigPlace p + (n + 1) ≤ 8 * m := by
  induction n generalizing p with
  | zero => exact bigPlace_lt (h p (by simp [bigWalk]))
  | succ n ih =>
    have hrest := ih _ fun q hq => h q (List.mem_cons_of_mem p hq)
    rw [bigPlace_next] at hrest
    omega

theorem bigWalk_length (n p : Nat) : (bigWalk p n).length = n := by
  induction n generalizing p with
  | zero => rfl
  | succ n ih => simp [bigWalk, ih]

theorem bitsToNat_bigWalk {data : List Byte} (n p : Nat) (h : ∀ q ∈ bigWalk p n, q < 8 * data.length) :
    bitsToNat ((bigWalk p n).map (dataBit data)) =
      unbe data / 2 ^ (8 * data.length - bigPlace p - n) % 2 ^ n := by
  induction n generalizing p with
  | zero => simp [bitsToNat, bigWalk, Nat.mod_one]
  | succ n ih =>
    have hfits := bigWalk_fits n p h
    have hin : p < 8 * data.length := h p (by simp [bigWalk])
    have hrest := ih _ fun q hq => h q (List.mem_cons_of_mem p hq)
    have hstart : 8 * data.length - (bigPlace p + 1) - n = 8 * data.length - bigPlace p - (n + 1) := by omega
    have htop : 8 * data.length - bigPlace p - (n + 1) + n = 8 * data.length - 1 - bigPlace p := by omega
    rw [bigPlace_next, hstart] at hrest
    rw [bigWalk, List.map_cons, bitsToNat_cons, hrest, List.length_map, bigWalk_length, field_succ, htop,
      dataBit_eq_testBit_big hin]

/-! ### Rounding -/

theorem roundDivNat_bounds (a : Nat) {d : Nat} (h : 0 < d) :
    2 * a < 2 * (roundDivNat a d * d) + d ∧ 2 * (roundDivNat a d * d) ≤ 2 * a + d := by
  have hlow := Nat.div_mul_le_self (2 * a + d) (2 * d)
  have hhigh := Nat.lt_div_mul_add (a := 2 * a + d) (b := 2 * d) (by omega)
  have hmul : roundDivNat a d * (2 * d) = 2 * (roundDivNat a d * d) := by ring
  simp only [roundDivNat] at hmul ⊢
  omega

/-- Settles O24. -/
theorem extractionAndRounding : Obligations.ExtractionAndRounding := by
  refine ⟨fun d data _ hfit => ⟨fun ho => ?_, fun ho => ?_⟩, fun a d hd => ?_⟩
  · simp only [rawPattern, slotPositions, ho, funext (dataBit_eq_testBit data)]
    exact bitsToNat_field _ _ _
  · have hall : ∀ q ∈ bigWalk d.startBit d.length, q < 8 * data.length := by
      simpa [fitsLength, slotPositions, ho] using hfit
    simp only [rawPattern, slotPositions, ho]
    exact bitsToNat_bigWalk _ _ hall
  · simp only [roundDiv]
    split
    case isTrue hneg =>
      have hb := roundDivNat_bounds a.toNat hd
      generalize hq : roundDivNat a.toNat d = q at hb
      have hcast : ((q : Int) * d) = ((q * d : Nat) : Int) := by push_cast; rfl
      rw [hcast]
      omega
    case isFalse hneg =>
      have hb := roundDivNat_bounds (-a).toNat hd
      generalize hq : roundDivNat (-a).toNat d = q at hb
      have hcast : (-(q : Int) * d) = -((q * d : Nat) : Int) := by push_cast; ring
      rw [hcast]
      omega

/-! ### Transmit queues (R20, R21) -/

theorem joinQueue_eq (q : QueuedFrame) {l : List QueuedFrame} (h : ascending l = true) :
    joinQueue q l = l.filter (fun h => decide (h.key ≤ q.key)) ++ q :: l.filter (fun h => decide (q.key < h.key)) := by
  rw [ascending_iff] at h
  induction l with
  | nil => rfl
  | cons a t ih =>
    obtain ⟨hhead, htail⟩ := List.pairwise_cons.mp h
    rw [joinQueue]
    by_cases hlt : q.key < a.key
    · have hall : ∀ b ∈ a :: t, q.key < b.key := by
        intro b hb
        rcases List.mem_cons.mp hb with rfl | hb
        · exact hlt
        · exact lt_of_lt_of_le hlt (hhead b hb)
      have hnone : (a :: t).filter (fun h => decide (h.key ≤ q.key)) = [] := by
        rw [List.filter_eq_nil_iff]
        intro b hb
        simpa using hall b hb
      have hevery : (a :: t).filter (fun h => decide (q.key < h.key)) = a :: t := by
        rw [List.filter_eq_self]
        intro b hb
        simpa using hall b hb
      rw [if_pos hlt, hnone, hevery, List.nil_append]
    · have hle : a.key ≤ q.key := Nat.le_of_not_lt hlt
      rw [if_neg hlt, ih htail, List.filter_cons_of_pos (by simpa using hle), List.filter_cons_of_neg (by simpa using hle)]
      rfl

theorem offerFrame_taken {p : Fin 3} (f : Frame) (o : Origin) {s : State} (hopen : s.ports[p].open_ = true)
    (hroom : s.ports[p].queue.length < 16) :
    offerFrame p f o s = (true, putPort p { s.ports[p] with
      queue := joinQueue { frame := f, key := arbitrationKey f, joined := s.now, origin := o, onBus := false }
        s.ports[p].queue } s) := by
  simp only [offerFrame, hopen, hroom, decide_true, Bool.and_self, if_true]

theorem offerFrame_refused {p : Fin 3} (f : Frame) (o : Origin) {s : State}
    (h : s.ports[p].open_ = false ∨ 16 ≤ s.ports[p].queue.length) :
    offerFrame p f o s = (false, setFlagIf (o = .forward) .txDrop (putPort p { s.ports[p] with
      counters := { s.ports[p].counters with overflow := bump32 s.ports[p].counters.overflow } } s)) := by
  refine if_neg ?_
  rcases h with h | h
  · simp only [h, Bool.false_and, Bool.false_eq_true, not_false_eq_true]
  · simp only [Nat.not_lt.mpr h, decide_false, Bool.and_false, Bool.false_eq_true, not_false_eq_true]

@[simp] theorem format?_formatNumber (f : Format) : format? (formatNumber f) = some f := by cases f <;> rfl

/-- A TX_FRAME with its fields in range, in RUN, is offered to its port. -/
theorem serveTx_offered (p : Fin 3) {f : Format} {id : Nat} {data : List Byte} {s : State} (hm : s.mode = .run)
    (hid : id ≤ f.maxId) (hd : data.length ≤ 8) :
    serveTx p (formatNumber f) id data s =
      let t := offerFrame p { format := f, id := id, data := data } .panel s
      { result := if t.1 then .ok else .queueFull, data := .none, after := t.2 } := by
  have hfields : ¬(8 < data.length ∨ f.maxId < id) := by omega
  have hrun : s.isRun = true := by simp [State.isRun, hm]
  simp only [serveTx, unit?_val, format?_formatNumber, if_neg hfields, hrun, Bool.not_true, Bool.false_eq_true, if_false]

/-- Settles O28. -/
theorem txFrameJoinsTheQueue : Obligations.TxFrameJoinsTheQueue := by
  refine ⟨fun s dt tag p f id data hs hm hid hd => ?_, fun q l hl => ⟨joinQueue_ascending q hl, joinQueue_eq q hl⟩⟩
  have hserve := serveTx_offered (s := s.noted dt) p hm hid hd
  refine ⟨fun hopen hroom => exec_served rfl rfl hs (hserve.trans ?_), fun h => exec_served rfl rfl hs (hserve.trans ?_)⟩
  · rw [offerFrame_taken (s := s.noted dt) _ _ hopen hroom]
    rfl
  · rw [offerFrame_refused (s := s.noted dt) _ _ h]
    rfl

/-! ### Transmission (R22, R23) -/

/-- A queue with nothing on the bus but perhaps its head. -/
theorem busy_of_head {u : PortUnit} {h : QueuedFrame} {rest : List QueuedFrame} (hq : u.queue = h :: rest)
    (hrest : ∀ q ∈ rest, q.onBus = false) : u.busy = h.onBus := by
  have hany : rest.any (·.onBus) = false := List.any_eq_false.mpr fun q hm => by simp [hrest q hm]
  rw [PortUnit.busy, hq, List.any_cons, hany, Bool.or_false]

theorem endTransmission_head {p : Fin 3} {s : State} {h : QueuedFrame} {rest : List QueuedFrame}
    (hq : s.ports[p].queue = h :: rest) (hbus : h.onBus = true) :
    endTransmission p s = tellSent h.origin (putPort p { s.ports[p] with
      queue := rest, counters := { s.ports[p].counters with transmitted := bump32 s.ports[p].counters.transmitted } } s) := by
  simp only [endTransmission, hq, takeOnBus, hbus, if_true]

theorem expireFrame_head {p : Fin 3} {s : State} {h : QueuedFrame} {rest : List QueuedFrame}
    (hq : s.ports[p].queue = h :: rest) (hbus : h.onBus = false)
    (hold : h.joined + 1000 * s.ports[p].entry.maxAge ≤ s.now) :
    expireFrame p 0 s = tellLost h.origin (putPort p { s.ports[p] with
      queue := rest, counters := { s.ports[p].counters with expired := bump32 s.ports[p].counters.expired } } s) := by
  have haged : s.aged s.ports[p].entry h = true := by simp only [State.aged, hbus, hold, Bool.not_false, decide_true, Bool.and_self]
  simp only [expireFrame, hq, List.getElem?_cons_zero, haged, if_true, List.eraseIdx_cons_zero]

theorem expireFrame_young {p : Fin 3} {s : State} {h : QueuedFrame} {rest : List QueuedFrame}
    (hq : s.ports[p].queue = h :: rest) (hold : ¬ h.joined + 1000 * s.ports[p].entry.maxAge ≤ s.now) :
    expireFrame p 0 s = s := by
  have haged : s.aged s.ports[p].entry h = false := by simp only [State.aged, hold, decide_false, Bool.and_false]
  simp only [expireFrame, hq, List.getElem?_cons_zero, haged, Bool.false_eq_true, if_false]

theorem map_offBus {l : List QueuedFrame} (h : ∀ q ∈ l, q.onBus = false) :
    l.map (fun q => { q with onBus := false }) = l := by
  conv_rhs => rw [← List.map_id l]
  refine List.map_congr_left fun q hq => ?_
  obtain ⟨f, k, j, o, b⟩ := q
  obtain rfl : b = false := h _ hq
  rfl

/-- The head's transmission fails: the head waits again, and is tested for its age. -/
theorem failTransmission_head {p : Fin 3} {s : State} {h : QueuedFrame} {rest : List QueuedFrame}
    (hq : s.ports[p].queue = h :: rest) (hbus : h.onBus = true) (hrest : ∀ q ∈ rest, q.onBus = false) :
    failTransmission p s =
      expireFrame p 0 (putPort p { s.ports[p] with queue := { h with onBus := false } :: rest } s) := by
  have hbusy : s.ports[p].busy = true := (busy_of_head hq hrest).trans hbus
  have hplace : onBusPlace (h :: rest) = 0 := by simp [onBusPlace, List.findIdx_cons, hbus]
  simp only [failTransmission, hbusy, if_true, hq, hplace, List.map_cons, map_offBus hrest]

/-- What is told of a frame that is no segment. -/
theorem tellLost_of_frame {o : Origin} (h : o = .panel ∨ o = .forward) (s : State) : tellLost o s = s := by
  rcases h with rfl | rfl <;> rfl

theorem tellSent_of_frame {o : Origin} (h : o = .panel ∨ o = .forward) (s : State) : tellSent o s = s := by
  rcases h with rfl | rfl <;> rfl

/-- Settles O29. -/
theorem transmissionsLeaveTheQueue : Obligations.TransmissionsLeaveTheQueue := by
  intro s dt p h rest hawake hopen hq ho hrest
  obtain ⟨hreset, hact⟩ := s.awake_iff.mp hawake
  have hq' : (s.elapse dt).ports[p].queue = h :: rest := hq
  refine ⟨fun hbus => (event_of_awake hreset).trans ?_, fun hbus => (event_of_awake hreset).trans ?_,
    fun hbus hyoung => (event_of_awake hreset).trans ?_, fun hbus hold => (event_of_awake hreset).trans ?_,
    fun hbus hold => (event_of_awake hreset).trans ?_⟩
  · have hbusy : (s.elapse dt).ports[p].busy = false := (busy_of_head hq' hrest).trans hbus
    have hopen' : (s.elapse dt).ports[p].open_ = true := hopen
    have hact' : (s.elapse dt).isActive = true := hact
    simp only [beginTransmission, hact', hopen', hbusy, hq', Bool.not_false, Bool.and_self, if_true]
    rfl
  · rw [endTransmission_head hq' hbus, tellSent_of_frame ho]
    rfl
  · rw [failTransmission_head hq' hbus hrest,
      expireFrame_young (h := { h with onBus := false }) (rest := rest) (by simp) (by simpa using hyoung)]
    rfl
  · rw [failTransmission_head hq' hbus hrest,
      expireFrame_head (h := { h with onBus := false }) (rest := rest) (by simp) rfl (by simpa using hold),
      tellLost_of_frame ho]
    simp [putPort]
  · rw [expireFrame_head hq' hbus hold, tellLost_of_frame ho]
    rfl

/-! ### Segments of a response (R171, R172) -/

theorem awaits_serial {s : State} {r : Response} {serial : Nat} (hr : s.service.response = some r) (h : r.serial = serial)
    (hphase : r.phase = .queued) : s.awaits serial = true := by
  simp [State.awaits, hr, h, hphase]

theorem awaits_other {s : State} {serial : Nat} (h : ∀ r, s.service.response = some r → r.serial ≠ serial) :
    s.awaits serial = false := by
  unfold State.awaits
  split
  case h_1 => rfl
  case h_2 r hr => simp [h r hr]

theorem tellSent_segment {s : State} {serial : Nat} (h : s.awaits serial = true) :
    tellSent (.service serial) s = segmentSent s := if_pos h

theorem tellLost_segment {s : State} {serial : Nat} (h : s.awaits serial = true) :
    tellLost (.service serial) s = abandon s := if_pos h

theorem tellSent_stale {s : State} {serial : Nat} (h : s.awaits serial = false) :
    tellSent (.service serial) s = s := if_neg (by simp [h])

theorem tellLost_stale {s : State} {serial : Nat} (h : s.awaits serial = false) :
    tellLost (.service serial) s = s := if_neg (by simp [h])

theorem segmentSent_more {s : State} {r : Response} (hr : s.service.response = some r)
    (h : 6 * (r.index + 1) < r.message.length) :
    segmentSent s = { s with service := { s.service with
      response := some { r with phase := .spacing (s.after s.service.entry.spacing) } } } := by
  simp only [segmentSent, hr, if_pos h]

theorem segmentSent_last {s : State} {r : Response} (hr : s.service.response = some r)
    (h : r.message.length ≤ 6 * (r.index + 1)) :
    segmentSent s = { s with service := { s.service with
      response := none, completed := bump32 s.service.completed } } := by
  simp only [segmentSent, hr, if_neg (Nat.not_lt.mpr h)]

theorem abandon_of_response {s : State} {r : Response} (hr : s.service.response = some r) :
    abandon s = { s with service := { s.service with response := none, abandoned := bump32 s.service.abandoned } } := by
  simp only [abandon, hr]

/-- A segment that its port takes. -/
theorem sendSegment_taken {s : State} {r : Response} (hr : s.service.response = some r)
    (hopen : s.ports[s.service.entry.port].open_ = true) (hroom : s.ports[s.service.entry.port].queue.length < 16) :
    sendSegment s =
      let f : Frame := { format := s.service.entry.format, id := s.service.entry.responseId,
                         data := segmentData r.code r.message r.index }
      putPort s.service.entry.port { s.ports[s.service.entry.port] with
        queue := joinQueue { frame := f, key := arbitrationKey f, joined := s.now, origin := .service r.serial, onBus := false }
          s.ports[s.service.entry.port].queue } s := by
  simp only [sendSegment, hr, offerFrame_taken _ _ hopen hroom, if_true]

/-- Settles O50. -/
theorem spacingSendsTheNextSegment : Obligations.SpacingSendsTheNextSegment := by
  refine ⟨fun s dt due r hawake hr hphase hdue hopen hroom => ?_, fun s dt p h rest serial hawake hq ho => ?_⟩
  · obtain ⟨hreset, hact⟩ := s.awake_iff.mp hawake
    have hr' : (s.elapse dt).service.response = some r := hr
    have hdue' : due ≤ (s.elapse dt).now := hdue
    refine (event_of_awake hreset).trans ?_
    simp only [expireSpacing, hr', hphase, if_pos hdue']
    exact congrArg Host.Outcome.next (sendSegment_taken (r := { r with index := r.index + 1, phase := .queued }) rfl hopen hroom)
  · obtain ⟨hreset, hact⟩ := s.awake_iff.mp hawake
    have hq' : (s.elapse dt).ports[p].queue = h :: rest := hq
    refine ⟨fun r hr hserial hphase => ⟨fun hbus hmore => (event_of_awake hreset).trans ?_,
      fun hbus hlast => (event_of_awake hreset).trans ?_, fun hbus hold => (event_of_awake hreset).trans ?_⟩,
      fun hother => ⟨fun hbus => (event_of_awake hreset).trans ?_, fun hbus hold => (event_of_awake hreset).trans ?_⟩⟩
    · have hawaits (u : PortUnit) : (putPort p u (s.elapse dt)).awaits serial = true := awaits_serial hr hserial hphase
      rw [endTransmission_head hq' hbus, ho, tellSent_segment (hawaits _),
        segmentSent_more (s := putPort p _ (s.elapse dt)) (r := r) hr hmore]
      rfl
    · have hawaits (u : PortUnit) : (putPort p u (s.elapse dt)).awaits serial = true := awaits_serial hr hserial hphase
      rw [endTransmission_head hq' hbus, ho, tellSent_segment (hawaits _),
        segmentSent_last (s := putPort p _ (s.elapse dt)) (r := r) hr hlast]
      rfl
    · have hawaits (u : PortUnit) : (putPort p u (s.elapse dt)).awaits serial = true := awaits_serial hr hserial hphase
      rw [expireFrame_head hq' hbus hold, ho, tellLost_segment (hawaits _),
        abandon_of_response (s := putPort p _ (s.elapse dt)) (r := r) hr]
      rfl
    · rw [endTransmission_head hq' hbus, ho, tellSent_stale (s := putPort p _ (s.elapse dt)) (awaits_other hother)]
      rfl
    · rw [expireFrame_head hq' hbus hold, ho, tellLost_stale (s := putPort p _ (s.elapse dt)) (awaits_other hother)]
      rfl

end Sys2Proof.Machine
end

section
/-! PROOFS. What the chime arbiter, the telltales and the conditions reach (chapters 5 and 6): the arbiter's choice among
the requests, the telltales that hear a condition, and the conditions that an evaluation leaves. -/

namespace Sys2Proof.Machine

/-! ### A round seen at one unit -/

/-- A round of visits is what comes before a unit, the visit of that unit, and what comes after; `R` holds of every
visit of another unit. -/
theorem each_at {σ : Type} {n : Nat} (R : σ → σ → Prop) (refl : ∀ s, R s s)
    (trans : ∀ {a b c}, R a b → R b c → R a c) (f : Fin n → σ → σ) (k : Fin n) (h : ∀ i s, i ≠ k → R s (f i s)) (s : σ) :
    ∃ a, R s a ∧ R (f k a) (each n f s) := by
  have hfold : ∀ (l : List (Fin n)), k ∉ l → ∀ s, R s (l.foldl (fun s i => f i s) s) := by
    intro l
    induction l with
    | nil => exact fun _ s => refl s
    | cons i l ih =>
      intro hk s
      obtain ⟨hi, hl⟩ := not_or.mp (mt List.mem_cons.mpr hk)
      exact trans (h i s fun he => hi he.symm) (ih hl _)
  obtain ⟨before, rest, hsplit⟩ := List.append_of_mem (List.mem_finRange k)
  have hnodup : (before ++ k :: rest).Nodup := hsplit ▸ List.nodup_finRange n
  obtain ⟨-, hcons, hdisj⟩ := List.nodup_append.mp hnodup
  refine ⟨before.foldl (fun s i => f i s) s, hfold _ (fun hk => hdisj k hk k (List.mem_cons_self ..) rfl) s, ?_⟩
  rw [each, hsplit, List.foldl_append]
  exact hfold _ (List.nodup_cons.mp hcons).1 _

/-! ### What the line driver and the arbiter reach -/

theorem driveLine_eq (l : Fin 16) (s : State) : ∃ o lamps, driveLine l s = { s with outputs := o, lamps := lamps } := by
  unfold driveLine
  split
  · exact ⟨_, _, rfl⟩
  · exact ⟨_, _, rfl⟩

/-- Driving the lines changes the lines alone. -/
theorem redrive_eq (s : State) : ∃ o l, redrive s = { s with outputs := o, lamps := l } := by
  refine each_rel (fun a b => ∃ o l, b = { a with outputs := o, lamps := l }) (fun a => ⟨a.outputs, a.lamps, rfl⟩)
    (fun {a b c} hab hbc => ?_) driveLine driveLine_eq s
  obtain ⟨_, _, rfl⟩ := hab
  obtain ⟨_, _, rfl⟩ := hbc
  exact ⟨_, _, rfl⟩

/-- A change of the pending set reaches the chime arbiter and the lines. -/
def Sounds (s t : State) : Prop := ∃ c o l, t = { s with chime := c, outputs := o, lamps := l }

namespace Sounds

theorem refl (s : State) : Sounds s s := ⟨_, _, _, rfl⟩

theorem trans {a b c : State} (h : Sounds a b) (h' : Sounds b c) : Sounds a c := by
  obtain ⟨_, _, _, rfl⟩ := h
  obtain ⟨_, _, _, rfl⟩ := h'
  exact ⟨_, _, _, rfl⟩

theorem project {α : Type} {s t : State} (h : Sounds s t) (f : State → α)
    (hf : (fun c o l => f { s with chime := c, outputs := o, lamps := l }) = fun _ _ _ => f s) : f t = f s := by
  obtain ⟨c, o, l, rfl⟩ := h
  exact congrFun (congrFun (congrFun hf c) o) l

theorem chime (s : State) (c : ChimeArbiter) : Sounds s { s with chime := c } := ⟨_, _, _, rfl⟩

theorem ite {p : Prop} [Decidable p] {s a b : State} (ha : Sounds s a) (hb : Sounds s b) :
    Sounds s (if p then a else b) := by
  split
  · exact ha
  · exact hb

end Sounds

theorem redrive_sounds (s : State) : Sounds s (redrive s) := by
  obtain ⟨o, l, h⟩ := redrive_eq s
  exact ⟨_, o, l, h⟩

theorem redrive_chime (s : State) : (redrive s).chime = s.chime := by
  obtain ⟨o, l, h⟩ := redrive_eq s
  rw [h]

/-! ### Arbitration (R108, R109) -/

/-- The arbiter's decision, before the lines are driven again. -/
def arbitrated (s : State) : ChimeArbiter :=
  match s.bestRequest with
  | none => { s.chime with grant := none }
  | some (r, p) =>
    match s.chime.grant with
    | some g => if g.requester = r then s.chime else (startGrant r p s).chime
    | none => (startGrant r p s).chime

theorem arbitrate_eq (s : State) : arbitrate s = redrive { s with chime := arbitrated s } := by
  cases hbest : s.bestRequest with
  | none =>
    simp only [arbitrate, arbitrated, hbest]
  | some best =>
    cases hgrant : s.chime.grant with
    | none =>
      simp only [arbitrate, arbitrated, hbest, hgrant]
      rfl
    | some g =>
      simp only [arbitrate, arbitrated, hbest, hgrant]
      split
      · rfl
      · rfl

theorem arbitrate_sounds (s : State) : Sounds s (arbitrate s) := by
  rw [arbitrate_eq]
  exact (Sounds.chime s _).trans (redrive_sounds _)

theorem arbitrate_chime (s : State) : (arbitrate s).chime = arbitrated s := by
  rw [arbitrate_eq, redrive_chime]

/-- Arbitration leaves the pending set and the patterns, and grants the best request. -/
theorem arbitrated_grants (s : State) : (arbitrated s).pending = s.chime.pending ∧
    (arbitrated s).patterns = s.chime.patterns ∧
    (arbitrated s).grant.map (·.requester) = s.bestRequest.map (·.1) := by
  unfold arbitrated
  split
  · next h => exact ⟨rfl, rfl, by rw [h]; rfl⟩
  · next r p h =>
    split
    · next g hg =>
      split
      · next heq => exact ⟨rfl, rfl, by rw [h, hg]; exact congrArg some heq⟩
      · exact ⟨rfl, rfl, by rw [h]; rfl⟩
    · exact ⟨rfl, rfl, by rw [h]; rfl⟩

/-- The best request rests on the pending set and the patterns. -/
theorem bestRequest_congr {s t : State} (hp : t.chime.pending = s.chime.pending)
    (hpat : t.chime.patterns = s.chime.patterns) : t.bestRequest = s.bestRequest := by
  have hchime : t.chime =
      { patterns := s.chime.patterns, pending := s.chime.pending, grant := t.chime.grant } := by
    rw [← hp, ← hpat]
  have hrest : t.bestRequest = ({ s with chime := t.chime } : State).bestRequest := rfl
  rw [hrest, hchime]
  rfl

theorem arbitrate_grants (s : State) : (arbitrate s).chime.pending = s.chime.pending ∧
    (arbitrate s).chime.grant.map (·.requester) = (arbitrate s).bestRequest.map (·.1) := by
  obtain ⟨hpending, hpatterns, hgrant⟩ := arbitrated_grants s
  rw [bestRequest_congr (s := s) (by rw [arbitrate_chime, hpending]) (by rw [arbitrate_chime, hpatterns]),
    arbitrate_chime]
  exact ⟨hpending, hgrant⟩

theorem dropGrant_pending (c : ChimeArbiter) (r : Fin 70) : (c.dropGrant r).pending = c.pending := by
  unfold ChimeArbiter.dropGrant
  split
  · split
    · rfl
    · rfl
  · rfl

theorem placeRequest_sounds (r : Fin 70) (p : Nat) (s : State) : Sounds s (placeRequest r p s) :=
  (Sounds.chime s _).trans (arbitrate_sounds _)

theorem placeRequest_pending (r : Fin 70) (p : Nat) (s : State) :
    (placeRequest r p s).chime.pending = vput s.chime.pending r (some p) :=
  (arbitrate_grants _).1.trans (congrArg (vput · r (some p)) (dropGrant_pending _ _))

theorem placeRequest_grants (r : Fin 70) (p : Nat) (s : State) :
    (placeRequest r p s).chime.grant.map (·.requester) = (placeRequest r p s).bestRequest.map (·.1) :=
  (arbitrate_grants _).2

theorem placeIf_sounds (r : Fin 70) (p : Option Nat) (s : State) : Sounds s (placeIf r p s) := by
  unfold placeIf
  split
  · exact placeRequest_sounds r _ s
  · exact Sounds.refl s

theorem withdrawRequest_sounds (r : Fin 70) (s : State) : Sounds s (withdrawRequest r s) :=
  Sounds.ite ((Sounds.chime s _).trans (arbitrate_sounds _)) (Sounds.refl s)

theorem withdrawRequest_none {r : Fin 70} {s : State} (h : s.chime.pending[r] = none) : withdrawRequest r s = s :=
  if_neg (by rw [h]; decide)

theorem withdrawRequest_some {r : Fin 70} {s : State} (h : s.chime.pending[r] ≠ none) :
    (withdrawRequest r s).chime.pending = vput s.chime.pending r none ∧
    (withdrawRequest r s).chime.grant.map (·.requester) = (withdrawRequest r s).bestRequest.map (·.1) := by
  have hsome : s.chime.pending[r].isSome = true := Option.isSome_iff_ne_none.mpr h
  rw [withdrawRequest, if_pos hsome]
  exact ⟨(arbitrate_grants _).1.trans (congrArg (vput · r none) (dropGrant_pending _ _)), (arbitrate_grants _).2⟩

theorem withdrawRequest_pending (r : Fin 70) (s : State) :
    (withdrawRequest r s).chime.pending = vput s.chime.pending r none := by
  by_cases h : s.chime.pending[r] = none
  · rw [withdrawRequest_none h, ← h]
    exact (vput_getElem_id _ _).symm
  · exact (withdrawRequest_some h).1

theorem withdrawGroup_sounds (rs : List (Fin 70)) (s : State) : Sounds s (withdrawGroup rs s) :=
  Sounds.ite ((Sounds.chime s _).trans (arbitrate_sounds _)) (Sounds.refl s)

/-! ### Telltales (R99) -/

/-- A change of a telltale reaches the telltales, the chime arbiter, the lines and the attention flags. -/
def Shows (s t : State) : Prop := ∃ tt f a c o l,
  t = { s with telltales := tt, flags := f, attn := a, chime := c, outputs := o, lamps := l }

namespace Shows

theorem refl (s : State) : Shows s s := ⟨_, _, _, _, _, _, rfl⟩

theorem trans {a b c : State} (h : Shows a b) (h' : Shows b c) : Shows a c := by
  obtain ⟨_, _, _, _, _, _, rfl⟩ := h
  obtain ⟨_, _, _, _, _, _, rfl⟩ := h'
  exact ⟨_, _, _, _, _, _, rfl⟩

theorem project {α : Type} {s t : State} (h : Shows s t) (f : State → α)
    (hf : (fun tt fl a c o l => f { s with telltales := tt, flags := fl, attn := a, chime := c, outputs := o, lamps := l }) =
      fun _ _ _ _ _ _ => f s) : f t = f s := by
  obtain ⟨tt, fl, a, c, o, l, rfl⟩ := h
  exact congrFun (congrFun (congrFun (congrFun (congrFun (congrFun hf tt) fl) a) c) o) l

end Shows

theorem Sounds.shows {s t : State} (h : Sounds s t) : Shows s t := by
  obtain ⟨_, _, _, rfl⟩ := h
  exact ⟨_, _, _, _, _, _, rfl⟩

/-- A telltale's state as it is set, before it is heard. -/
def telltaleSet (k : Fin 64) (st : TelltaleState) (s : State) : State :=
  setFlag .telltale { s with telltales := vput s.telltales k { s.telltales[k] with state := st } }

theorem setTelltale_same {k : Fin 64} {st : TelltaleState} {s : State} (h : s.telltales[k].state = st) :
    setTelltale k st s = s := if_pos h

/-- A change of a telltale's state is heard by the arbiter and the lines. -/
theorem setTelltale_changed {k : Fin 64} {st : TelltaleState} {s : State} (h : s.telltales[k].state ≠ st) :
    Sounds (telltaleSet k st s) (setTelltale k st s) := by
  rw [setTelltale, if_neg h]
  exact (Sounds.ite (placeIf_sounds _ _ _) (Sounds.ite (withdrawRequest_sounds _ _) (Sounds.refl _))).trans
    (redrive_sounds _)

theorem setTelltale_shows (k : Fin 64) (st : TelltaleState) (s : State) : Shows s (setTelltale k st s) := by
  by_cases h : s.telltales[k].state = st
  · rw [setTelltale_same h]
    exact Shows.refl s
  · exact Shows.trans (b := telltaleSet k st s) ⟨_, _, _, _, _, _, rfl⟩ (setTelltale_changed h).shows

theorem setTelltale_telltales (k : Fin 64) (st : TelltaleState) (s : State) :
    (setTelltale k st s).telltales = vput s.telltales k { s.telltales[k] with state := st } := by
  by_cases h : s.telltales[k].state = st
  · rw [setTelltale_same h, ← h]
    exact (vput_getElem_id _ _).symm
  · exact (setTelltale_changed h).project (·.telltales) rfl

/-- The visit of a telltale that hears of a condition's truth. -/
def hearVisit (c : Fin 96) (truth : Bool) (k : Fin 64) (s : State) : State :=
  if s.telltales[k].entry.enabled && s.telltales[k].entry.condition = c.val then
    setTelltale k (s.telltales[k].onCondition truth) s
  else s

theorem tellTelltales_eq (c : Fin 96) (truth : Bool) (s : State) :
    tellTelltales c truth s = if 5 ≤ s.stage then each 64 (hearVisit c truth) s else s := rfl

theorem hearVisit_shows (c : Fin 96) (truth : Bool) (k : Fin 64) (s : State) : Shows s (hearVisit c truth k s) := by
  unfold hearVisit
  split
  · exact setTelltale_shows k _ s
  · exact Shows.refl s

theorem tellTelltales_shows (c : Fin 96) (truth : Bool) (s : State) : Shows s (tellTelltales c truth s) := by
  rw [tellTelltales_eq]
  split
  · exact each_rel Shows Shows.refl Shows.trans _ (hearVisit_shows c truth) s
  · exact Shows.refl s

/-- A telltale that hears of its condition. -/
def TelltaleUnit.heard (u : TelltaleUnit) (c : Fin 96) (truth : Bool) : TelltaleUnit :=
  if u.entry.enabled && u.entry.condition = c.val then { u with state := u.onCondition truth } else u

theorem hearVisit_telltales (c : Fin 96) (truth : Bool) (k : Fin 64) (s : State) :
    (hearVisit c truth k s).telltales = vput s.telltales k (s.telltales[k].heard c truth) := by
  unfold hearVisit TelltaleUnit.heard
  split
  · rw [setTelltale_telltales]
  · exact (vput_getElem_id _ _).symm

/-- Every telltale hears of its condition once, once the telltales have taken up RUN. -/
theorem tellTelltales_telltale (c : Fin 96) (truth : Bool) (k : Fin 64) {s : State} (h : 5 ≤ s.stage) :
    (tellTelltales c truth s).telltales[k] = s.telltales[k].heard c truth := by
  have hother : ∀ (j : Fin 64) (a : State), j ≠ k → (hearVisit c truth j a).telltales[k] = a.telltales[k] := by
    intro j a hj
    rw [show (hearVisit c truth j a).telltales[k] = (vput a.telltales j (a.telltales[j].heard c truth))[k] from
      congrArg (fun tells : Vector TelltaleUnit 64 => tells[k]) (hearVisit_telltales c truth j a)]
    exact vput_other _ _ (Ne.symm hj)
  obtain ⟨a, ha, hrest⟩ := each_at (fun a b : State => b.telltales[k] = a.telltales[k]) (fun _ => rfl)
    (fun hab hbc => hbc.trans hab) (hearVisit c truth) k hother s
  rw [tellTelltales_eq, if_pos h, hrest]
  refine (congrArg (fun tells : Vector TelltaleUnit 64 => tells[k]) (hearVisit_telltales c truth k a)).trans ?_
  exact (vput_same _ _ _).trans (by rw [ha])

/-! ### Conditions (R89, R92, R95) -/

theorem Tell.condEntry {s t : State} (h : Tell s t) (c : Fin 96) : t.conds[c].entry = s.conds[c].entry :=
  of_map_eq CondUnit.entry (congrArg (·.condition) h.tables) c

theorem Tell.telltaleEntry {s t : State} (h : Tell s t) (k : Fin 64) : t.telltales[k].entry = s.telltales[k].entry :=
  of_map_eq TelltaleUnit.entry (congrArg (·.telltale) h.tables) k

/-- A gated condition's new record is heard by its telltales alone. -/
theorem putGated_shows (j : Fin 96) (u : CondUnit) (s : State) :
    Shows { s with conds := vput s.conds j u } (putGated j u s) := by
  rw [putGated]
  split
  · exact Shows.refl _
  · exact (tellTelltales_shows _ _ _).trans (redrive_sounds _).shows

/-- A telltale of another condition hears nothing. -/
theorem tellTelltales_other {c : Fin 96} (truth : Bool) {k : Fin 64} {s : State}
    (h : s.telltales[k].entry.condition ≠ c.val) : (tellTelltales c truth s).telltales[k] = s.telltales[k] := by
  by_cases hstage : 5 ≤ s.stage
  · rw [tellTelltales_telltale c truth k hstage, TelltaleUnit.heard,
      if_neg (by simp only [h, decide_false, Bool.and_false, Bool.false_eq_true, not_false_eq_true])]
  · rw [tellTelltales_eq, if_neg hstage]

theorem putGated_telltale {j : Fin 96} (u : CondUnit) {k : Fin 64} {s : State}
    (h : s.telltales[k].entry.condition ≠ j.val) : (putGated j u s).telltales[k] = s.telltales[k] := by
  rw [putGated]
  split
  · rfl
  · exact (congrArg (fun v : Vector TelltaleUnit 64 => v[k]) ((redrive_sounds _).project (·.telltales) rfl)).trans
      (tellTelltales_other _ h)

/-- The record an evaluation leaves a condition in. -/
def State.reached (s : State) (c : Fin 96) : CondUnit := if s.evaluates c then s.evaluated c else s.conds[c]

theorem evaluateGated_conds (j : Fin 96) (s : State) : (evaluateGated j s).conds = vput s.conds j (s.reached j) := by
  unfold evaluateGated State.reached
  split
  · exact (putGated_shows j _ s).project (·.conds) rfl
  · exact (vput_getElem_id _ _).symm

theorem evaluateGated_telltale {j : Fin 96} {k : Fin 64} {s : State} (h : s.telltales[k].entry.condition ≠ j.val) :
    (evaluateGated j s).telltales[k] = s.telltales[k] := by
  unfold evaluateGated
  split
  · exact putGated_telltale _ h
  · rfl

/-- The visit of a condition in the round of those that `j` gates. -/
def gateVisit (j g : Fin 96) (s : State) : State :=
  if s.conds[g].entry.gate = some j.val then evaluateGated g s else s

theorem gateVisit_quiet {free : Prop} (j g : Fin 96) (s : State) : Quiet free s (gateVisit j g s) :=
  Quiet.ite (fun _ => evaluateGated_quiet g s) fun _ => Quiet.refl s

theorem gateVisit_other {j g c : Fin 96} (h : c ≠ g) (s : State) : (gateVisit j g s).conds[c] = s.conds[c] := by
  unfold gateVisit
  split
  · exact (congrArg (fun v : Vector CondUnit 96 => v[c]) (evaluateGated_conds g s)).trans (vput_other _ _ h)
  · rfl

theorem gateVisit_ungated {j g : Fin 96} {s : State} (h : s.conds[g].entry.gate ≠ some j.val) : gateVisit j g s = s :=
  if_neg h

/-- A condition that `j` does not gate stays in the round, and so do its telltales. -/
theorem gateVisit_keeps {j c : Fin 96} (g : Fin 96) {s : State} (h : s.conds[c].entry.gate ≠ some j.val) :
    (gateVisit j g s).conds[c] = s.conds[c] ∧
      ∀ k : Fin 64, s.telltales[k].entry.condition = c.val → (gateVisit j g s).telltales[k] = s.telltales[k] := by
  by_cases hg : c = g
  · subst hg
    rw [gateVisit_ungated h]
    exact ⟨rfl, fun _ _ => rfl⟩
  · refine ⟨gateVisit_other hg s, fun k hk => ?_⟩
    unfold gateVisit
    split
    · exact evaluateGated_telltale fun he => hg (Fin.ext (hk.symm.trans he))
    · rfl

/-- The round of the conditions that `j` gates. -/
def gateRound (j : Fin 96) (s : State) : State := each 96 (gateVisit j) s

theorem gateRound_quiet {free : Prop} (j : Fin 96) (s : State) : Quiet free s (gateRound j s) :=
  Quiet.each (gateVisit_quiet j) s

theorem gateRound_keeps {j c : Fin 96} {s : State} (h : s.conds[c].entry.gate ≠ some j.val) :
    (gateRound j s).conds[c] = s.conds[c] ∧
      ∀ k : Fin 64, s.telltales[k].entry.condition = c.val → (gateRound j s).telltales[k] = s.telltales[k] := by
  refine each_rel (fun a b : State => a.conds[c].entry.gate ≠ some j.val → b.conds[c] = a.conds[c] ∧
      ∀ k : Fin 64, a.telltales[k].entry.condition = c.val → b.telltales[k] = a.telltales[k])
    (fun a _ => ⟨rfl, fun _ _ => rfl⟩) (fun {a b d} hab hbd ha => ?_) (gateVisit j) (fun g a => gateVisit_keeps g) s h
  obtain ⟨hcond, htell⟩ := hab ha
  obtain ⟨hcond', htell'⟩ := hbd (hcond ▸ ha)
  exact ⟨hcond'.trans hcond, fun k hk => (htell' k (by rw [htell k hk]; exact hk)).trans (htell k hk)⟩

/-- A condition that `j` gates is evaluated once in the round, under `j`'s truth. -/
theorem gateRound_gated {j g : Fin 96} {s : State} (hgate : s.conds[g].entry.gate = some j.val)
    (hself : s.conds[j].entry.gate ≠ some j.val) :
    ∃ a, Quiet True s a ∧ a.conds[j] = s.conds[j] ∧ (gateRound j s).conds[g] = a.reached g := by
  obtain ⟨a, ha, hrest⟩ := each_at
    (fun a b : State => Quiet True a b ∧ b.conds[g] = a.conds[g] ∧
      (a.conds[j].entry.gate ≠ some j.val → b.conds[j] = a.conds[j]))
    (fun a => ⟨Quiet.refl a, rfl, fun _ => rfl⟩)
    (fun {a b d} ⟨hq, hg, hj⟩ ⟨hq', hg', hj'⟩ =>
      ⟨hq.trans hq', hg'.trans hg, fun h => (hj' (hj h ▸ h)).trans (hj h)⟩)
    (gateVisit j) g (fun i a hi => ⟨gateVisit_quiet j i a, gateVisit_other (Ne.symm hi) a, fun h => (gateVisit_keeps i h).1⟩) s
  obtain ⟨hquiet, hsame, hcond⟩ := ha
  refine ⟨a, hquiet, hcond hself, ?_⟩
  have hvisit : gateVisit j g a = evaluateGated g a := if_pos (by rw [hsame]; exact hgate)
  rw [gateRound, hrest.2.1, hvisit]
  exact (congrArg (fun v : Vector CondUnit 96 => v[g]) (evaluateGated_conds g a)).trans (vput_same _ _ _)

/-- A change of a condition's truth is told to its telltales, then to the conditions it gates. -/
theorem putCond_eq (c : Fin 96) (u : CondUnit) (s : State) :
    putCond c u s = if u.isTrue = s.conds[c].isTrue then { s with conds := vput s.conds c u }
      else redrive (gateRound c (tellTelltales c u.isTrue { s with conds := vput s.conds c u })) := rfl

theorem putCond_self {c : Fin 96} {u : CondUnit} {s : State} (h : u.entry.gate ≠ some c.val) :
    (putCond c u s).conds[c] = u := by
  rw [putCond_eq]
  split
  · exact vput_same _ _ _
  · have hput : (tellTelltales c u.isTrue { s with conds := vput s.conds c u }).conds = vput s.conds c u :=
      (tellTelltales_shows _ _ _).project (·.conds) rfl
    have hself : (tellTelltales c u.isTrue { s with conds := vput s.conds c u }).conds[c] = u :=
      (congrArg (fun v : Vector CondUnit 96 => v[c]) hput).trans (vput_same _ _ _)
    rw [(redrive_sounds _).project (fun t => t.conds[c]) rfl, (gateRound_keeps (by rw [hself]; exact h)).1, hself]

theorem putCond_other {j c : Fin 96} {u : CondUnit} {s : State} (hc : c ≠ j) (h : s.conds[c].entry.gate = none) :
    (putCond j u s).conds[c] = s.conds[c] := by
  rw [putCond_eq]
  split
  · exact vput_other _ _ hc
  · have hput : (tellTelltales j u.isTrue { s with conds := vput s.conds j u }).conds = vput s.conds j u :=
      (tellTelltales_shows _ _ _).project (·.conds) rfl
    have hother : (tellTelltales j u.isTrue { s with conds := vput s.conds j u }).conds[c] = s.conds[c] :=
      (congrArg (fun v : Vector CondUnit 96 => v[c]) hput).trans (vput_other _ _ hc)
    rw [(redrive_sounds _).project (fun t => t.conds[c]) rfl, (gateRound_keeps (by rw [hother, h]; simp)).1, hother]

theorem evaluate_other {j c : Fin 96} {s : State} (hc : c ≠ j) (h : s.conds[c].entry.gate = none) :
    (evaluate j s).conds[c] = s.conds[c] := by
  unfold evaluate
  split
  · exact putCond_other hc h
  · rfl

theorem evaluate_self {c : Fin 96} {s : State} (h : s.conds[c].entry.gate ≠ some c.val) :
    (evaluate c s).conds[c] = s.reached c := by
  unfold evaluate State.reached
  split
  · exact putCond_self (by rwa [evaluated_entry])
  · rfl

/-- A condition stays while the conditions of a kind it is not of are evaluated. -/
theorem evaluateRound_other {p : State → Fin 96 → Bool} {c : Fin 96}
    (hp : ∀ (a b : State), b.conds[c] = a.conds[c] → p b c = p a c) {s : State} (hgate : s.conds[c].entry.gate = none)
    (h : p s c = false) : (each 96 (fun j s => if p s j then evaluate j s else s) s).conds[c] = s.conds[c] := by
  refine each_rel (fun a b : State => a.conds[c].entry.gate = none → p a c = false → b.conds[c] = a.conds[c])
    (fun _ _ _ => rfl) (fun {a b d} hab hbd ha hpa => ?_) _ (fun j a ha hpa => ?_) s hgate h
  · have hb := hab ha hpa
    exact (hbd (hb ▸ ha) ((hp a b hb).trans hpa)).trans hb
  · by_cases hj : c = j
    · subst hj
      simp only [hpa, Bool.false_eq_true, if_false]
    · split
      · exact evaluate_other hj ha
      · rfl

/-- A condition that does not read the slot stays while its readers are told. -/
theorem tellConditions_other {k : Fin 256} {c : Fin 96} {s : State} (hgate : s.conds[c].entry.gate = none)
    (h : s.conds[c].entry.slot ≠ k.val) : (tellConditions k s).conds[c] = s.conds[c] :=
  evaluateRound_other (p := fun s c => s.conds[c].entry.slot = k.val && s.conds[c].entry.comparator ≠ .faultActive)
    (fun a b hab => by rw [hab]) hgate (by simp only [h, decide_false, Bool.false_and])

theorem tellFaultConditions_other {c : Fin 96} {s : State} (hgate : s.conds[c].entry.gate = none)
    (h : s.conds[c].entry.comparator ≠ .faultActive) : (tellFaultConditions s).conds[c] = s.conds[c] := by
  have hround := evaluateRound_other (p := fun s c => s.conds[c].entry.comparator = .faultActive)
    (fun a b hab => by rw [hab]) hgate (by simp only [h, decide_false])
  simp only [decide_eq_true_eq] at hround
  exact hround

end Sys2Proof.Machine
end

section
/-! PROOFS. What an operation keeps of the slots, the live fault set, the attention flags and the tallies (distance, served): `Keeps ks cs s t`
says that between `s` and `t` only the slots `ks` were written, only pairs of the codes `cs` joined or left the live
set, no attention flag was cleared, a capture buffer without a trigger code stayed, and a condition that reads none of
the slots `ks` stayed. Said once for each operation of the blocks. -/

namespace Sys2Proof.Machine

/-- The distance and the number of service requests served are kept. -/
structure Tallied (s t : State) : Prop where
  total : t.speed.total = s.speed.total
  delta : t.speed.delta = s.speed.delta
  served : t.service.served = s.service.served

namespace Tallied

theorem refl (s : State) : Tallied s s := ⟨rfl, rfl, rfl⟩

theorem trans {a b c : State} (h : Tallied a b) (h' : Tallied b c) : Tallied a c :=
  ⟨h'.total.trans h.total, h'.delta.trans h.delta, h'.served.trans h.served⟩

end Tallied

theorem Tell.tallies {s t : State} (h : Tell s t) : Tallied s t := by
  obtain ⟨_, _, _, _, _, _, _, _, _, rfl, -, -⟩ := h
  exact ⟨rfl, rfl, rfl⟩

/-- A condition that is not gated, reads none of the slots and no fault. -/
def Unread (ks : List (Fin 256)) (u : CondUnit) : Prop :=
  u.entry.gate = none ∧ u.entry.comparator ≠ .faultActive ∧ ∀ k ∈ ks, u.entry.slot ≠ k.val

structure Keeps (ks : List (Fin 256)) (cs : List FaultCode) (s t : State) : Prop where
  slots : ∀ k, k ∉ ks → t.slots[k] = s.slots[k]
  live : ∀ c src, c ∉ cs → t.isLive c src = s.isLive c src
  flags : ∀ f, s.flag f = true → t.flag f = true
  tallies : Tallied s t
  capture : s.capture.code = none → t.capture = s.capture
  conds : ∀ c : Fin 96, Unread ks s.conds[c] → t.conds[c] = s.conds[c]

namespace Keeps

variable {ks ks' : List (Fin 256)} {cs cs' : List FaultCode}

theorem refl (s : State) : Keeps ks cs s s := 
  ⟨fun _ _ => rfl, fun _ _ _ => rfl, fun _ h => h, Tallied.refl s, fun _ => rfl, fun _ _ => rfl⟩

theorem trans {a b c : State} (h : Keeps ks cs a b) (h' : Keeps ks cs b c) : Keeps ks cs a c :=
  ⟨fun k hk => (h'.slots k hk).trans (h.slots k hk), fun c src hc => (h'.live c src hc).trans (h.live c src hc),
    fun f hf => h'.flags f (h.flags f hf),
    h.tallies.trans h'.tallies,
    fun hc => (h'.capture (by rw [h.capture hc, hc])).trans (h.capture hc),
    fun c hc => (h'.conds c (by rw [h.conds c hc]; exact hc)).trans (h.conds c hc)⟩

theorem mono {s t : State} (h : Keeps ks cs s t) (hk : ks ⊆ ks') (hc : cs ⊆ cs') :
    Keeps ks' cs' s t :=
  ⟨fun k h' => h.slots k fun hm => h' (hk hm), fun c src h' => h.live c src fun hm => h' (hc hm), h.flags, h.tallies,
    h.capture, fun c h' => h.conds c ⟨h'.1, h'.2.1, fun k hm => h'.2.2 k (hk hm)⟩⟩

theorem ite {p : Prop} [Decidable p] {s a b : State} (ha : Keeps ks cs s a) (hb : Keeps ks cs s b) :
    Keeps ks cs s (if p then a else b) := by
  split
  · exact ha
  · exact hb

theorem each {n : Nat} {f : Fin n → State → State} (h : ∀ i s, Keeps ks cs s (f i s)) (s : State) :
    Keeps ks cs s (Sys2Proof.each n f s) :=
  each_rel (Keeps ks cs) refl trans f h s

theorem times {f : State → State} (h : ∀ s, Keeps ks cs s (f s)) (n : Nat) (s : State) :
    Keeps ks cs s (Sys2Proof.times n f s) :=
  times_rel (Keeps ks cs) refl trans f h n s

/-- An update of none of these. -/
theorem apart {s t : State} (hs : t.slots = s.slots) (hf : t.faults = s.faults) (ha : t.flags = s.flags)
    (ho : t.speed.total = s.speed.total) (hd : t.speed.delta = s.speed.delta) (hc : t.capture = s.capture)
    (hv : t.service.served = s.service.served) (hd' : t.conds = s.conds) : Keeps ks cs s t :=
  ⟨fun _ _ => by rw [hs], fun _ _ _ => by rw [State.isLive, State.isLive, hf], fun f h => by rwa [State.flag, ha],
    ⟨ho, hd, hv⟩, fun _ => hc, fun _ _ => by rw [hd']⟩

/-- An update of the fault monitor that keeps the pairs of the live set but for those of the codes. -/
theorem faults {s : State} {fu : FaultUnit}
    (h : ∀ c src, c ∉ cs → (fu.live.any fun e => e.isPair c src) = s.faults.live.any fun e => e.isPair c src) :
    Keeps ks cs s { s with faults := fu } :=
  ⟨fun _ _ => rfl, h, fun _ hf => hf, ⟨rfl, rfl, rfl⟩, fun _ => rfl, fun _ _ => rfl⟩

theorem slot {s : State} {k : Fin 256} (r : SlotRec) (h : k ∈ ks) :
    Keeps ks cs s { s with slots := vput s.slots k r } :=
  ⟨fun j hj => vput_other _ _ fun he => hj (he ▸ h), fun _ _ _ => rfl, fun _ hf => hf, ⟨rfl, rfl, rfl⟩,
    fun _ => rfl, fun _ _ => rfl⟩

end Keeps

/-- No attention flag is cleared by telling. -/
theorem Quiet.flags_kept {free : Prop} {s t : State} (h : Quiet free s t) {k : Nat} (hf : s.flags.getLsbD k = true) :
    t.flags.getLsbD k = true := by
  induction h with
  | trans _ _ ih1 ih2 => exact ih2 (ih1 hf)
  | line l s =>
    unfold driveLine
    split
    · exact hf
    · exact hf
  | flags h => exact h _ hf
  | _ => exact hf

section
variable {ks : List (Fin 256)} {cs : List FaultCode}

theorem Tell.speed {s t : State} (h : Tell s t) : t.speed = s.speed := by
  obtain ⟨_, _, _, _, _, _, _, _, _, rfl, -, -⟩ := h
  rfl

theorem Tell.capture {s t : State} (h : Tell s t) : t.capture = s.capture := by
  obtain ⟨_, _, _, _, _, _, _, _, _, rfl, -, -⟩ := h
  rfl

theorem Quiet.keeps {free : Prop} {s t : State} (h : Quiet free s t)
    (hc : ∀ c : Fin 96, Unread ks s.conds[c] → t.conds[c] = s.conds[c]) : Keeps ks cs s t :=
  ⟨fun _ _ => by rw [h.slots], fun _ _ _ => by rw [State.isLive, State.isLive, h.tell.faults],
    fun _ hf => h.flags_kept hf, h.tell.tallies, fun _ => h.tell.capture, hc⟩

theorem Shows.keeps {free : Prop} {s t : State} (h : Quiet free s t) (hc : Shows s t) : Keeps ks cs s t :=
  h.keeps fun c _ => hc.project (fun t => t.conds[c]) rfl

theorem setFlag_flag (f : Attention) (s : State) : (setFlag f s).flag f = true := by
  have h : f.number.val < 12 := f.number.isLt
  simp [setFlag, decideAttn, State.flag, h]

theorem redrive_keeps (s : State) : Keeps ks cs s (redrive s) :=
  Shows.keeps (redrive_quiet (free := True) s) (redrive_sounds s).shows

theorem setFlag_keeps (f : Attention) (s : State) : Keeps ks cs s (setFlag f s) :=
  Shows.keeps (setFlag_quiet (free := True) f s) ⟨_, _, _, _, _, _, rfl⟩

theorem setFlagIf_keeps (b : Bool) (f : Attention) (s : State) : Keeps ks cs s (setFlagIf b f s) :=
  Keeps.ite (setFlag_keeps f s) (Keeps.refl s)

theorem withdrawRequest_keeps (r : Fin 70) (s : State) : Keeps ks cs s (withdrawRequest r s) :=
  Shows.keeps (withdrawRequest_quiet (free := True) r s) (withdrawRequest_sounds r s).shows

theorem placeRequest_keeps (r : Fin 70) (p : Nat) (s : State) : Keeps ks cs s (placeRequest r p s) :=
  Shows.keeps (placeRequest_quiet (free := True) r p (.inl trivial)) (placeRequest_sounds r p s).shows

theorem placeIf_keeps (r : Fin 70) (p : Option Nat) (s : State) : Keeps ks cs s (placeIf r p s) :=
  Shows.keeps (placeIf_quiet (free := True) r p (.inl trivial)) (placeIf_sounds r p s).shows

theorem setSweep_keeps (u : TestUnit) (t : Option Nat) (s : State) : Keeps ks cs s (setSweep u t s) := by
  cases u with
  | gauge g => exact Keeps.apart rfl rfl rfl rfl rfl rfl rfl rfl
  | telltale t => exact Keeps.refl s
  | line l => exact Keeps.refl s

theorem tellGauges_keeps (k : Fin 256) (s : State) : Keeps ks cs s (tellGauges k s) :=
  Keeps.ite (Keeps.apart rfl rfl rfl rfl rfl rfl rfl rfl) (Keeps.refl s)

theorem tellConditions_keeps {k : Fin 256} (s : State) (h : k ∈ ks) : Keeps ks cs s (tellConditions k s) :=
  (tellConditions_quiet (free := True) k s).keeps fun _ hc => tellConditions_other hc.1 (hc.2.2 k h)

theorem tellFaultConditions_keeps (s : State) : Keeps ks cs s (tellFaultConditions s) :=
  (tellFaultConditions_quiet (free := True) s).keeps fun _ hc => tellFaultConditions_other hc.1 hc.2.1

/-! ### Internal slots -/

theorem writeInternal_keeps {k : Fin 256} (v : Int) (st : SlotState) (s : State) (h : k ∈ ks) :
    Keeps ks cs s (writeInternal k v st s) :=
  Keeps.ite (Keeps.refl s) (((Keeps.slot _ h).trans (tellGauges_keeps _ _)).trans (tellConditions_keeps _ h))

theorem publish_keeps {k : Fin 256} (v : Nat) (s : State) (h : k ∈ ks) : Keeps ks cs s (publish k v s) :=
  writeInternal_keeps v .valid s h

theorem writeInternal_state (k : Fin 256) (v : Int) (st : SlotState) (s : State) :
    (writeInternal k v st s).slots[k].state = st := by
  simp only [writeInternal]
  split
  next hsame => exact hsame.2
  next => simp

/-! ### Faults -/

theorem handOn_keeps (s : State) (h : slotActiveFaults ∈ ks) : Keeps ks cs s (handOn s) :=
  (publish_keeps _ s h).trans (tellFaultConditions_keeps _)

theorem handOn_faults (s : State) : (handOn s).faults = s.faults :=
  ((publish_tell (by decide) _ s).trans (tellFaultConditions_tell _)).faults

theorem putRecord_keeps (p : Fin 40) (r : Option FaultRecord) (s : State) : Keeps ks cs s (putRecord p r s) :=
  Keeps.faults fun _ _ _ => rfl

theorem storePair_keeps (c : FaultCode) (src : Option Nat) (s : State) : Keeps ks cs s (storePair c src s) := by
  unfold storePair
  split
  · exact putRecord_keeps _ _ s
  · split
    · exact putRecord_keeps _ _ s
    · split
      · exact putRecord_keeps _ _ s
      · refine Keeps.trans ?_ (setFlag_keeps _ _)
        exact Keeps.faults fun _ _ _ => rfl

theorem fillLatch_keeps (c : FaultCode) (src : Option Nat) (s : State) : Keeps ks cs s (fillLatch c src s) := by
  unfold fillLatch
  split
  · exact Keeps.refl s
  · exact Keeps.faults fun _ _ _ => rfl

theorem markConfirmed_keeps (c : FaultCode) (src : Option Nat) (s : State) : Keeps ks cs s (markConfirmed c src s) := by
  refine Keeps.faults fun c' src' _ => ?_
  rw [List.any_map]
  refine List.any_congr rfl fun e => ?_
  simp only [Function.comp]
  split <;> rfl

theorem confirmationTold_keeps (c : FaultCode) (s : State) : Keeps ks cs s (confirmationTold c s) := by
  rw [confirmationTold, triggerCapture]
  split
  · next hcode =>
    refine Keeps.ite ⟨fun _ _ => rfl, fun _ _ _ => rfl, fun _ h => h, ⟨rfl, rfl, rfl⟩, fun hnone => ?_, fun _ _ => rfl⟩
      (Keeps.refl s)
    exact absurd (hcode.symm.trans hnone) (by simp)
  · exact Keeps.refl s

theorem confirmPair_keeps (c : FaultCode) (src : Option Nat) (s : State) : Keeps ks cs s (confirmPair c src s) :=
  (((markConfirmed_keeps c src s).trans (storePair_keeps c src _)).trans (fillLatch_keeps c src _)).trans
    ((setFlag_keeps _ _).trans (confirmationTold_keeps c _))

theorem isPair_other {c d : FaultCode} (h : d ≠ c) (e : LiveEntry) (src src' : Option Nat) (he : e.isPair c src = true) :
    e.isPair d src' = false := by
  simp only [LiveEntry.isPair, Bool.and_eq_true, decide_eq_true_eq] at he
  simp [LiveEntry.isPair, he.1, h.symm]

theorem raiseFault_keeps {c : FaultCode} (src : Option Nat) (s : State) (hk : slotActiveFaults ∈ ks)
    (hc : c ∈ cs) : Keeps ks cs s (raiseFault c src s) := by
  refine Keeps.ite (Keeps.refl s) (Keeps.ite (Keeps.faults fun _ _ _ => rfl) ?_)
  have hjoin : ∀ e : LiveEntry, e.isPair c src = true →
      Keeps ks cs s { s with faults := { s.faults with live := s.faults.live ++ [e] } } := fun e he =>
    Keeps.faults fun d src' hd => by
      rw [List.any_append, List.any_cons, isPair_other (fun hdc : d = c => hd (hdc ▸ hc)) e src src' he]
      simp
  have hpair : ∀ (n : Nat) (x : Option Nat), LiveEntry.isPair
      { code := c, source := src, since := n, confirmed := false, deadline := x } c src = true := fun _ _ => by
    simp [LiveEntry.isPair]
  exact Keeps.ite (((hjoin _ (hpair _ _)).trans (handOn_keeps _ hk)).trans (confirmPair_keeps _ _ _))
    ((hjoin _ (hpair _ _)).trans (handOn_keeps _ hk))

theorem deactivate_keeps (c : FaultCode) (src : Option Nat) (s : State) : Keeps ks cs s (deactivate c src s) := by
  unfold deactivate
  split
  · exact putRecord_keeps _ _ s
  · exact Keeps.refl s

theorem clearFault_keeps {c : FaultCode} (src : Option Nat) (s : State) (hk : slotActiveFaults ∈ ks)
    (hc : c ∈ cs) : Keeps ks cs s (clearFault c src s) := by
  refine Keeps.ite (Keeps.trans ?_ (handOn_keeps _ hk)) (Keeps.refl s)
  have hleave : Keeps ks cs s
      { s with faults := { s.faults with live := s.faults.live.filter fun e => !e.isPair c src } } := by
    refine Keeps.faults fun d src' hd => ?_
    rw [List.any_filter]
    refine List.any_congr rfl fun e => ?_
    cases he : e.isPair c src with
    | false => simp
    | true => simp [isPair_other (fun hdc : d = c => hd (hdc ▸ hc)) e src src' he]
  exact Keeps.ite (hleave.trans (deactivate_keeps _ _ _)) hleave

/-- A raise writes ACTIVE_FAULTS alone, and only its own code joins the live set. -/
theorem raiseFault_keeps_self (c : FaultCode) (src : Option Nat) (s : State) :
    Keeps [slotActiveFaults] [c] s (raiseFault c src s) :=
  raiseFault_keeps src s (List.mem_singleton_self _) (List.mem_singleton_self _)

theorem clearFault_keeps_self (c : FaultCode) (src : Option Nat) (s : State) :
    Keeps [slotActiveFaults] [c] s (clearFault c src s) :=
  clearFault_keeps src s (List.mem_singleton_self _) (List.mem_singleton_self _)

theorem setFault_keeps {c : FaultCode} (b : Bool) (src : Option Nat) (s : State) (hk : slotActiveFaults ∈ ks)
    (hc : c ∈ cs) : Keeps ks cs s (setFault b c src s) :=
  Keeps.ite (raiseFault_keeps src s hk hc) (clearFault_keeps src s hk hc)

theorem foldl_keeps {ι : Type} {f : State → ι → State} {P : ι → Prop} (h : ∀ s i, P i → Keeps ks cs s (f s i))
    (l : List ι) (hl : ∀ i ∈ l, P i) (s : State) : Keeps ks cs s (l.foldl f s) := by
  induction l generalizing s with
  | nil => exact Keeps.refl s
  | cons a t ih =>
    exact (h s a (hl a (List.mem_cons_self ..))).trans (ih (fun i hi => hl i (List.mem_cons_of_mem a hi)) _)

theorem clearCodes_keeps {p : FaultCode → Bool} (hp : ∀ c, p c = true → c ∈ cs) (s : State)
    (hk : slotActiveFaults ∈ ks) : Keeps ks cs s (clearCodes p s) :=
  foldl_keeps (P := fun e : LiveEntry => e.code ∈ cs) (fun s e he => clearFault_keeps e.source s hk he) _
    (fun e he => hp _ (List.mem_filter.mp he).2) s

end

/-! ### A pair raised, and a pair cleared -/

theorem confirmPair_isLive (c d : FaultCode) (src src' : Option Nat) (s : State) :
    (confirmPair c src s).isLive d src' = s.isLive d src' :=
  (confirmPair_keeps (ks := []) (cs := []) c src s).live d src' (by simp)

theorem handOn_isLive (c : FaultCode) (src : Option Nat) (s : State) : (handOn s).isLive c src = s.isLive c src := by
  rw [State.isLive, State.isLive, handOn_faults]

/-- A raise puts the pair into a live set with room. -/
theorem raiseFault_isLive (c : FaultCode) (src : Option Nat) {s : State} (hact : s.isActive = true)
    (hroom : s.faults.live.length < 48) : (raiseFault c src s).isLive c src = true := by
  by_cases hlive : s.isLive c src = true
  · simp [raiseFault, hlive]
  · have hnew : ¬(!s.isActive || s.isLive c src) = true := by simp [hact, hlive]
    have hjoin : ∀ e : LiveEntry, e.code = c → e.source = src →
        (handOn { s with faults := { s.faults with live := s.faults.live ++ [e] } }).isLive c src = true := by
      rintro e rfl rfl
      rw [handOn_isLive]
      simp [State.isLive, LiveEntry.isPair]
    rw [raiseFault, if_neg hnew, if_neg (Nat.not_le.mpr hroom)]
    dsimp only
    split
    · rw [confirmPair_isLive]
      exact hjoin _ rfl rfl
    · exact hjoin _ rfl rfl

theorem deactivate_isLive (c d : FaultCode) (src src' : Option Nat) (s : State) :
    (deactivate c src s).isLive d src' = s.isLive d src' :=
  (deactivate_keeps (ks := []) (cs := []) c src s).live d src' (by simp)

/-- A clear takes the pair out of the live set. -/
theorem clearFault_isLive (c : FaultCode) (src : Option Nat) {s : State} (hact : s.isActive = true) :
    (clearFault c src s).isLive c src = false := by
  cases hlive : s.isLive c src with
  | false => simp [clearFault, hlive]
  | true =>
    have hleft : State.isLive { s with faults := { s.faults with
        live := s.faults.live.filter fun e => !e.isPair c src } } c src = false := by
      simp [State.isLive, List.any_filter]
    rw [clearFault, if_pos (by simp [hact, hlive]), handOn_isLive]
    split
    · rw [deactivate_isLive]
      exact hleft
    · exact hleft

/-- A clear makes no pair join. -/
theorem deactivate_live (c : FaultCode) (src : Option Nat) (s : State) :
    (deactivate c src s).faults.live = s.faults.live := by
  unfold deactivate
  split <;> rfl

theorem clearFault_length (c : FaultCode) (src : Option Nat) (s : State) :
    (clearFault c src s).faults.live.length ≤ s.faults.live.length := by
  unfold clearFault
  split
  · dsimp only
    rw [handOn_faults]
    split
    · rw [deactivate_live]
      exact List.length_filter_le _ _
    · exact List.length_filter_le _ _
  · exact le_rfl

section
variable {ks : List (Fin 256)} {cs : List FaultCode}

/-! ### The output test -/

theorem endTest_keeps (s : State) : Keeps ks cs s (endTest s) := by
  unfold endTest
  split
  · exact Keeps.refl s
  · refine Keeps.trans ?_ (((setSweep_keeps _ _ _).trans (setFlag_keeps _ _)).trans (redrive_keeps _))
    exact Keeps.apart rfl rfl rfl rfl rfl rfl rfl rfl

theorem startTest_keeps (u : TestUnit) (s : State) : Keeps ks cs s (startTest u s) := by
  refine Keeps.trans (Keeps.trans (endTest_keeps s) ?_)
    (((setSweep_keeps u _ _).trans (setFlag_keeps _ _)).trans (redrive_keeps _))
  exact Keeps.apart rfl rfl rfl rfl rfl rfl rfl rfl

theorem tellTest_keeps (s : State) : Keeps ks cs s (tellTest s) := Keeps.ite (Keeps.refl s) (endTest_keeps s)

/-! ### Doors -/

theorem decideBrake_keeps (s : State) : Keeps ks cs s (decideBrake s) := by
  refine Keeps.trans ?_ (redrive_keeps _)
  exact Keeps.apart rfl rfl rfl rfl rfl rfl rfl rfl

theorem decidePermit_keeps (s : State) (h : slotDrivePermit ∈ ks) : Keeps ks cs s (decidePermit s) := by
  refine Keeps.trans (Keeps.trans ?_ (publish_keeps _ _ h)) (redrive_keeps _)
  exact Keeps.apart rfl rfl rfl rfl rfl rfl rfl rfl

theorem publishDoors_keeps (s : State) (h : slotAnyDoorOpen ∈ ks) (h' : slotDrivePermit ∈ ks) :
    Keeps ks cs s (publishDoors s) :=
  (publish_keeps _ s h).trans (decidePermit_keeps _ h')

theorem putDoor_keeps (d : Fin 4) (u : DoorUnit) (s : State) : Keeps ks cs s (putDoor d u s) :=
  Keeps.apart rfl rfl rfl rfl rfl rfl rfl rfl

theorem doorDeparted_keeps (s : State) : Keeps ks cs s (doorDeparted s) :=
  Keeps.ite (Keeps.apart rfl rfl rfl rfl rfl rfl rfl rfl) (Keeps.refl s)

theorem clearStopLatch_keeps (s : State) (h : slotStopRequested ∈ ks) : Keeps ks cs s (clearStopLatch s) := by
  refine Keeps.trans (Keeps.trans ?_ (publish_keeps _ _ h)) (withdrawRequest_keeps _ _)
  exact Keeps.apart rfl rfl rfl rfl rfl rfl rfl rfl

theorem clearForced_keeps (d : Fin 4) (s : State) (hk : slotActiveFaults ∈ ks)
    (h : FaultCode.doorForced ∈ cs) (h' : FaultCode.doorObstructed ∈ cs) :
    Keeps ks cs s (clearForced d s) :=
  (clearFault_keeps _ s hk h).trans (clearFault_keeps _ _ hk h')

theorem setFields_keeps (d : Fin 4) (r o : Bool) (s : State) (h : slotAnyDoorOpen ∈ ks)
    (h' : slotDrivePermit ∈ ks) : Keeps ks cs s (setFields d r o s) :=
  Keeps.ite (Keeps.refl s) ((putDoor_keeps d _ s).trans (publishDoors_keeps _ h h'))

theorem tellDoorsSpeed_keeps (s : State) (h : slotAnyDoorOpen ∈ ks) (h' : slotDrivePermit ∈ ks) :
    Keeps ks cs s (tellDoorsSpeed s) := by
  refine Keeps.ite (Keeps.trans ?_ (decideBrake_keeps _)) (Keeps.refl s)
  exact Keeps.each (fun _ _ => Keeps.ite (Keeps.refl _) (setFields_keeps _ _ _ _ h h')) s

theorem tellDoorsBrake_keeps (k : Fin 256) (s : State) (h : slotAnyDoorOpen ∈ ks)
    (h' : slotDrivePermit ∈ ks) : Keeps ks cs s (tellDoorsBrake k s) :=
  Keeps.ite (Keeps.each (fun _ _ => Keeps.ite (setFields_keeps _ _ _ _ h h') (Keeps.refl _)) s) (Keeps.refl s)

end

/-! ### Speed -/

/-- The slots a write of VEHICLE_SPEED can write. -/
def speedWriteSlots : List (Fin 256) := [slotVehicleSpeed, slotAnyDoorOpen, slotDrivePermit]

/-- The slots a selection can write, and the codes it can raise or clear. -/
def selectSlots : List (Fin 256) :=
  [slotVehicleSpeed, slotSpeedSource, slotStandstill, slotAnyDoorOpen, slotDrivePermit, slotActiveFaults]

def selectCodes : List FaultCode := [.speedPrimaryLost, .speedLost, .speedMismatch]

theorem writeSpeed_keeps {cs : List FaultCode} (v : Int) (st : SlotState) (s : State) :
    Keeps speedWriteSlots cs s (writeSpeed v st s) :=
  Keeps.ite (Keeps.refl s) ((writeInternal_keeps v st s (by decide)).trans
    (tellDoorsSpeed_keeps _ (by decide) (by decide)))

theorem selectSpeed_keeps {cs : List FaultCode} (p f : Option Nat) (s : State) :
    Keeps speedWriteSlots cs s (selectSpeed p f s) := by
  unfold selectSpeed
  split <;> exact writeSpeed_keeps _ _ s

theorem writeSource_keeps {cs : List FaultCode} (n : Nat) (s : State) :
    Keeps [slotSpeedSource] cs s (writeSource n s) :=
  (publish_keeps n s (List.mem_singleton_self _)).trans (setFlagIf_keeps _ _ _)

theorem writeStandstill_keeps {cs : List FaultCode} (b : Bool) (s : State) :
    Keeps [slotStandstill] cs s (writeStandstill b s) :=
  Keeps.ite (Keeps.refl s) ((publish_keeps _ s (List.mem_singleton_self _)).trans (tellTest_keeps _))

theorem speedFaults_keeps (n : Nat) (s : State) :
    Keeps [slotActiveFaults] [.speedPrimaryLost, .speedLost] s (speedFaults n s) :=
  (setFault_keeps _ _ s (by simp) (by simp)).trans (setFault_keeps _ _ _ (by simp) (by simp))

theorem putMismatch_keeps {ks : List (Fin 256)} {cs : List FaultCode} (t : Option Nat) (s : State) :
    Keeps ks cs s (putMismatch t s) := Keeps.apart rfl rfl rfl rfl rfl rfl rfl rfl

theorem mismatchTest_keeps (p f : Option Nat) (s : State) :
    Keeps [slotActiveFaults] [.speedMismatch] s (mismatchTest p f s) :=
  Keeps.ite (Keeps.ite (Keeps.refl s) (Keeps.ite (raiseFault_keeps _ s (by simp) (by simp)) (putMismatch_keeps _ s)))
    ((putMismatch_keeps _ s).trans (clearFault_keeps _ _ (by simp) (by simp)))

theorem select_keeps (s : State) : Keeps selectSlots selectCodes s (select s) := by
  refine Keeps.ite ?_ (Keeps.refl s)
  have hspeed (p f : Option Nat) (s : State) : Keeps selectSlots selectCodes s (selectSpeed p f s) :=
    (selectSpeed_keeps p f s).mono (by decide) (List.Subset.refl _)
  have hsource (n : Nat) (s : State) : Keeps selectSlots selectCodes s (writeSource n s) :=
    (writeSource_keeps n s).mono (by decide) (List.Subset.refl _)
  have hfaults (n : Nat) (s : State) : Keeps selectSlots selectCodes s (speedFaults n s) :=
    (speedFaults_keeps n s).mono (by decide) (by decide)
  have htest (p f : Option Nat) (s : State) : Keeps selectSlots selectCodes s (mismatchTest p f s) :=
    (mismatchTest_keeps p f s).mono (by decide) (by decide)
  have hstand (b : Bool) (s : State) : Keeps selectSlots selectCodes s (writeStandstill b s) :=
    (writeStandstill_keeps b s).mono (by decide) (List.Subset.refl _)
  exact ((((hspeed _ _ s).trans (hsource _ _)).trans (hfaults _ _)).trans (htest _ _ _)).trans (hstand _ _)

theorem tellSpeed_keeps (k : Fin 256) (s : State) : Keeps selectSlots selectCodes s (tellSpeed k s) :=
  Keeps.ite (select_keeps s) (Keeps.refl s)

/-! ### The signal store -/

/-- The consumers told after the gauges and the conditions. -/
theorem tellConsumers_after (k : Fin 256) (s : State) :
    Keeps selectSlots selectCodes (tellConditions k (tellGauges k s)) (tellConsumers k s) := by
  have h : Keeps selectSlots selectCodes (tellConditions k (tellGauges k s))
      (tellDoorsBrake k (tellSpeed k (tellConditions k (tellGauges k s)))) :=
    (tellSpeed_keeps k _).trans (tellDoorsBrake_keeps k _ (by decide) (by decide))
  unfold tellConsumers
  simp only
  split
  · exact h.trans (tellTest_keeps _)
  · exact h

theorem tellConsumers_keeps (k : Fin 256) (s : State) : Keeps (k :: selectSlots) selectCodes s (tellConsumers k s) :=
  ((tellGauges_keeps k s).trans (tellConditions_keeps _ (List.mem_cons_self ..))).trans
    ((tellConsumers_after k s).mono (List.subset_cons_self _ _) (List.Subset.refl _))

theorem putRec_keeps {ks : List (Fin 256)} {cs : List FaultCode} (k : Fin 240) (r : SlotRec) (s : State)
    (h : configSlot k ∈ ks) : Keeps ks cs s (putRec k r s) := Keeps.slot r h

theorem changeSlot_keeps (k : Fin 240) (v : Int) (st : SlotState) (s : State) :
    Keeps (configSlot k :: selectSlots) selectCodes s (changeSlot k v st s) :=
  Keeps.ite (Keeps.refl s) ((putRec_keeps k _ s (by simp)).trans (tellConsumers_keeps _ _))

theorem silence_keeps (k : Fin 240) (s : State) :
    Keeps (configSlot k :: selectSlots) selectCodes s (silence k s) := by
  unfold silence
  split <;> exact changeSlot_keeps _ _ _ s

theorem recordLimited_keeps (k : Fin 240) (raw v : Int) (s : State) :
    Keeps [configSlot k, slotActiveFaults] [.signalRange] s (recordLimited k raw v s) :=
  Keeps.ite
    (Keeps.ite ((putRec_keeps k _ s (by simp)).trans (raiseFault_keeps _ _ (by simp) (by simp)))
      (putRec_keeps k _ s (by simp)))
    ((putRec_keeps k _ s (by simp)).trans (clearFault_keeps _ _ (by simp) (by simp)))

theorem activeFaults_mem_select : slotActiveFaults ∈ selectSlots := by decide

theorem storeValue_keeps (k : Fin 240) (raw v : Int) (s : State) :
    Keeps (configSlot k :: selectSlots) (.signalRange :: selectCodes) s (storeValue k raw v s) :=
  ((recordLimited_keeps k raw v s).mono (by simp [activeFaults_mem_select]) (by simp)).trans
    ((changeSlot_keeps _ _ _ _).mono (List.Subset.refl _) (by simp))

end Sys2Proof.Machine
end

section
/-! PROOFS. The port controllers (R3, R4), a PORT write and a MATCH or SLOT write (R2, R10, R25), the panel link's
departures, reports and timers (R185 to R189, R197), the frames it receives (R185, R186), and what falls silent (R19,
R35, R36). -/

namespace Sys2Proof.Machine

/-! ### What the relations leave as it was -/

theorem Tell.project {α : Type} {s t : State} (h : Tell s t) (f : State → α)
    (hf : (fun sl g c tt ch o l fl a =>
      f { s with slots := sl, gauges := g, conds := c, telltales := tt, chime := ch, outputs := o, lamps := l,
                 flags := fl, attn := a }) = fun _ _ _ _ _ _ _ _ _ => f s) : f t = f s := by
  obtain ⟨_, _, _, _, _, _, _, _, _, rfl, -, -⟩ := h
  simp only [funext_iff] at hf
  exact hf _ _ _ _ _ _ _ _ _

theorem Told.project {α : Type} {s t : State} (h : Told s t) (f : State → α)
    (hf : (fun sl g c tt ch o l fl a fu ca =>
      f { s with slots := sl, gauges := g, conds := c, telltales := tt, chime := ch, outputs := o, lamps := l,
                 flags := fl, attn := a, faults := fu, capture := ca }) = fun _ _ _ _ _ _ _ _ _ _ _ => f s) : f t = f s := by
  obtain ⟨_, _, _, _, _, _, _, _, _, _, _, rfl, -, -⟩ := h
  simp only [funext_iff] at hf
  exact hf _ _ _ _ _ _ _ _ _ _ _

theorem Moved.project {α : Type} {s t : State} (h : Moved s t) (f : State → α)
    (hf : (fun sl g c tt ch o l fl a fu ca d ro sL dp sb sp se =>
      f { s with slots := sl, gauges := g, conds := c, telltales := tt, chime := ch, outputs := o, lamps := l,
                 flags := fl, attn := a, faults := fu, capture := ca, doors := d, runOn := ro, stopLatch := sL,
                 drivePermit := dp, stopBrake := sb, speed := sp, service := se }) = fun _ _ _ _ _ _ _ _ _ _ _ _ _ _ _ _ _ _ => f s) : f t = f s := by
  obtain ⟨_, _, _, _, _, _, _, _, _, _, _, _, _, _, _, _, _, _, rfl, -, -⟩ := h
  simp only [funext_iff] at hf
  exact hf _ _ _ _ _ _ _ _ _ _ _ _ _ _ _ _ _ _

theorem Stored.project {α : Type} {s t : State} (h : Stored s t) (f : State → α)
    (hf : (fun sl g c tt ch o l fl a fu ca d ro sL dp sb sp se pd =>
      f { s with slots := sl, gauges := g, conds := c, telltales := tt, chime := ch, outputs := o, lamps := l,
                 flags := fl, attn := a, faults := fu, capture := ca, doors := d, runOn := ro, stopLatch := sL,
                 drivePermit := dp, stopBrake := sb, speed := sp, service := se,
                 panelDeadlines := pd }) = fun _ _ _ _ _ _ _ _ _ _ _ _ _ _ _ _ _ _ _ => f s) : f t = f s := by
  obtain ⟨_, _, _, _, _, _, _, _, _, _, _, _, _, _, _, _, _, _, _, rfl, -⟩ := h
  simp only [funext_iff] at hf
  exact hf _ _ _ _ _ _ _ _ _ _ _ _ _ _ _ _ _ _ _

/-! ### Port controllers (R3, R4) -/

theorem setPortState_of_ne {p : Fin 3} {st : PortState} {s : State} (h : s.ports[p].state ≠ st) :
    setPortState p st s = setFlag .portState (putPort p { s.ports[p] with state := st } s) := by
  simp only [setPortState, setFlagIf, ne_eq, h, not_false_eq_true, decide_true, if_true]

theorem abandon_eq (s : State) : ∃ se, se.entry = s.service.entry ∧ abandon s = { s with service := se } := by
  unfold abandon
  split
  · exact ⟨s.service, rfl, rfl⟩
  · exact ⟨{ s.service with response := none, abandoned := bump32 s.service.abandoned }, rfl, rfl⟩

theorem abandon_response (s : State) : (abandon s).service.response = none := by
  unfold abandon
  split
  next h => exact h
  next => rfl

/-- What is told of lost segments changes the service channel alone. -/
theorem tellLost_all_eq (os : List Origin) (s : State) :
    ∃ se, se.entry = s.service.entry ∧ os.foldl (fun s o => tellLost o s) s = { s with service := se } := by
  induction os generalizing s with
  | nil => exact ⟨s.service, rfl, rfl⟩
  | cons o os ih =>
    have hone : ∃ se, se.entry = s.service.entry ∧ tellLost o s = { s with service := se } := by
      unfold tellLost
      split
      · split
        · exact abandon_eq s
        · exact ⟨s.service, rfl, rfl⟩
      · exact ⟨s.service, rfl, rfl⟩
    obtain ⟨se, he, hse⟩ := hone
    obtain ⟨se', he', hse'⟩ := ih { s with service := se }
    exact ⟨se', he'.trans he, by rw [List.foldl_cons, hse, hse']⟩

/-- The port unit after a flush. -/
def PortUnit.flushed (u : PortUnit) : PortUnit :=
  { u with queue := [], counters := { u.counters with flushed := add32 u.counters.flushed u.queue.length } }

theorem flush_eq (p : Fin 3) (s : State) : ∃ se, se.entry = s.service.entry ∧
    flush p s = { s with ports := vput s.ports p s.ports[p].flushed, service := se } :=
  tellLost_all_eq _ (putPort p s.ports[p].flushed s)

theorem setFlag_ports (f : Attention) (s : State) : (setFlag f s).ports = s.ports := rfl

/-- The port unit at a bus-off. -/
def PortUnit.atOff (u : PortUnit) : PortUnit := { u.flushed with state := .off, recovering := true, quiet := none }

/-- The part at a bus-off, before its fault is raised; `se` is the service channel, told of the flushed segments. -/
def State.atOff (s : State) (p : Fin 3) (se : ServiceUnit) : State :=
  { setFlag .portState s with ports := vput s.ports p s.ports[p].atOff, service := se }

theorem tellOff_eq (p : Fin 3) (s : State) :
    ∃ se, se.entry = s.service.entry ∧ tellOff p s = { s with service := se } := by
  unfold tellOff
  split
  · exact abandon_eq s
  · exact ⟨s.service, rfl, rfl⟩

section
variable {p : Fin 3} {s : State}

/-- The steps of a bus-off at an open port. -/
theorem enterOff_eq (hact : s.isActive = true) (hopen : s.ports[p].open_ = true) :
    ∃ se, se.entry = s.service.entry ∧
      enterOff p s = tellOff p (raiseFault .portOff (portSource p) (s.atOff p se)) := by
  have hstate : s.ports[p].state ≠ .off := by
    intro h
    rw [PortUnit.open_, h] at hopen
    exact absurd hopen (by decide)
  obtain ⟨se, he, hflush⟩ := flush_eq p (setFlag .portState (putPort p { s.ports[p] with state := .off } s))
  refine ⟨se, he, ?_⟩
  have hguard : (s.isActive && s.ports[p].open_) = true := by rw [hact, hopen]; rfl
  rw [enterOff, if_pos hguard, setPortState_of_ne hstate]
  dsimp only
  rw [hflush]
  simp only [putPort, setFlag_ports, vput_same, vput_vput, PortUnit.flushed]
  rfl

theorem enterOff_ports (hact : s.isActive = true) (hopen : s.ports[p].open_ = true) :
    (enterOff p s).ports = vput s.ports p s.ports[p].atOff := by
  obtain ⟨se, -, hoff⟩ := enterOff_eq hact hopen
  obtain ⟨se', -, htell⟩ := tellOff_eq p (raiseFault .portOff (portSource p) (s.atOff p se))
  rw [hoff, htell]
  exact (raiseFault_told _ _ _).project (·.ports) rfl

theorem enterOff_isLive (hact : s.isActive = true) (hopen : s.ports[p].open_ = true)
    (hroom : s.faults.live.length < 48) : (enterOff p s).isLive .portOff (portSource p) = true := by
  obtain ⟨se, -, hoff⟩ := enterOff_eq hact hopen
  obtain ⟨se', -, htell⟩ := tellOff_eq p (raiseFault .portOff (portSource p) (s.atOff p se))
  rw [hoff, htell]
  exact raiseFault_isLive (s := s.atOff p se) _ _ hact hroom

theorem enterOff_response (hact : s.isActive = true) (hopen : s.ports[p].open_ = true) (hp : s.service.entry.port = p) :
    (enterOff p s).service.response = none := by
  obtain ⟨se, he, hoff⟩ := enterOff_eq hact hopen
  have hse : (s.atOff p se).service = se := rfl
  rw [hoff, tellOff, if_pos (by rw [(raiseFault_told _ _ _).project (·.service) rfl, hse, he, hp])]
  exact abandon_response _

theorem atOff_moved {se : ServiceUnit} (he : se.entry = s.service.entry) :
    Moved { s with ports := vput s.ports p s.ports[p].atOff } (s.atOff p se) :=
  Moved.trans (setFlag_tell .portState { s with ports := vput s.ports p s.ports[p].atOff }).moved
    (moved_service (s := setFlag .portState { s with ports := vput s.ports p s.ports[p].atOff }) he)

/-- Apart from the ports, a bus-off moves only what its fault and the lost response move. -/
theorem enterOff_moved (hact : s.isActive = true) (hopen : s.ports[p].open_ = true) :
    Moved { s with ports := (enterOff p s).ports } (enterOff p s) := by
  rw [enterOff_ports hact hopen]
  obtain ⟨se, he, hoff⟩ := enterOff_eq hact hopen
  obtain ⟨se', he', htell⟩ := tellOff_eq p (raiseFault .portOff (portSource p) (s.atOff p se))
  rw [hoff, htell]
  exact ((atOff_moved he).trans (raiseFault_told _ _ _).moved).trans (moved_service he')

end

/-- Settles O26. -/
theorem controllerStatesMoveThePort : Obligations.ControllerStatesMoveThePort := by
  intro s dt p hawake
  obtain ⟨hreset, hact⟩ := s.awake_iff.mp hawake
  have hact' : (s.elapse dt).isActive = true := hact
  refine ⟨fun h => (event_of_awake hreset).trans ?_, fun h => (event_of_awake hreset).trans ?_, fun hopen => ?_,
    fun h hrec hq => (event_of_awake hreset).trans ?_, fun due h hq hdue => ?_⟩
  · have hstate : (s.elapse dt).ports[p].state = .online := h
    have hguard : ((s.elapse dt).isActive && (s.elapse dt).ports[p].state = .online) = true := by
      rw [hact', hstate]
      rfl
    have hne : (s.elapse dt).ports[p].state ≠ .passive := by rw [hstate]; decide
    rw [errorPassive, if_pos hguard, setPortState_of_ne hne]
    rfl
  · have hstate : (s.elapse dt).ports[p].state = .passive := h
    have hguard : ((s.elapse dt).isActive && (s.elapse dt).ports[p].state = .passive) = true := by
      rw [hact', hstate]
      rfl
    have hne : (s.elapse dt).ports[p].state ≠ .online := by rw [hstate]; decide
    rw [errorActive, if_pos hguard, setPortState_of_ne hne]
    rfl
  · refine ⟨_, event_of_awake hreset, ?_⟩
    have hports := enterOff_ports (p := p) hact' hopen
    have hport : (enterOff p (s.elapse dt)).ports[p] = s.ports[p].atOff := by
      rw [hports, vput_same]
      rfl
    refine ⟨by rw [hport]; rfl, by rw [hport]; rfl, by rw [hport]; rfl, by rw [hport]; rfl, by rw [hport]; rfl,
      by rw [hport]; rfl, fun q hq => by rw [hports, vput_other _ _ hq]; rfl, fun hroom => enterOff_isLive hact' hopen (of_decide_eq_true hroom),
      fun hp => enterOff_response hact' hopen hp, enterOff_moved hact' hopen⟩
  · have hguard : ((s.elapse dt).ports[p].state = .off && (s.elapse dt).ports[p].recovering) = true :=
      Bool.and_eq_true_iff.mpr ⟨decide_eq_true h, hrec⟩
    have hq' : (s.elapse dt).ports[p].entry.quietTime ≠ 0 := hq
    rw [recovered, if_pos hguard, if_neg hq']
    rfl
  · refine ⟨_, event_of_awake hreset, ?_⟩
    have hguard : ((s.elapse dt).ports[p].state = .off && (s.elapse dt).due (s.elapse dt).ports[p].quiet) = true :=
      Bool.and_eq_true_iff.mpr ⟨decide_eq_true h, by
        have hq' : (s.elapse dt).ports[p].quiet = some due := hq
        rw [hq']
        exact decide_eq_true hdue⟩
    have hne : (clearRecovery p (s.elapse dt)).ports[p].state ≠ .online := by
      rw [clearRecovery, putPort_ports, vput_same]
      exact fun he => absurd (h.symm.trans he) (by decide)
    rw [expireQuiet, if_pos hguard, leaveOff, setPortState_of_ne hne]
    refine ⟨clearFault_isLive _ _ hact, (clearFault_keeps_self .portOff _ _).flags _
      (setFlag_flag _ _), ?_⟩
    have hports : putPort p { (clearRecovery p (s.elapse dt)).ports[p] with state := .online }
        (clearRecovery p (s.elapse dt)) = putPort p { s.ports[p] with state := .online, recovering := false, quiet := none }
        (s.elapse dt) := by
      simp only [clearRecovery, putPort, vput_same, vput_vput]
      rfl
    rw [hports]
    exact (setFlag_tell _ _).told.trans (clearFault_told _ _ _)

/-! ### A PORT write (R2) -/

/-- The port unit as a taken PORT write leaves it. -/
def PortUnit.written (u : PortUnit) (e : PortEntry) : PortUnit :=
  { u.flushed with
    entry := e, state := if e.enabled then .online else .disabled, recovering := false, quiet := none }

/-- The part at a PORT write, before PORT_OFF is cleared; `se` is the service channel, told of the flushed segments. -/
def State.portWritten (s : State) (p : Fin 3) (e : PortEntry) (se : ServiceUnit) : State :=
  setFlagIf (s.ports[p].state ≠ (s.ports[p].written e).state) .portState
    { s with ports := vput s.ports p (s.ports[p].written e), service := se }

section
variable (p : Fin 3) (e : PortEntry) (s : State)

theorem writePortEntry_eq : ∃ se, se.entry = s.service.entry ∧ writePortEntry p e s =
    if s.ports[p].state = .off then clearFault .portOff (portSource p) (s.portWritten p e se)
    else s.portWritten p e se := by
  obtain ⟨se, he, hflush⟩ := flush_eq p (putPort p { s.ports[p] with entry := e } s)
  refine ⟨se, he, ?_⟩
  have hback : setPortState p (if e.enabled then .online else .disabled)
      (clearRecovery p (flush p (putPort p { s.ports[p] with entry := e } s))) = s.portWritten p e se := by
    rw [hflush]
    simp only [setPortState, clearRecovery, putPort, vput_same, vput_vput]
    rfl
  simp only [writePortEntry, hback, decide_eq_true_eq]

theorem portWritten_ports (se : ServiceUnit) :
    (s.portWritten p e se).ports = vput s.ports p (s.ports[p].written e) := by
  unfold State.portWritten setFlagIf
  split <;> rfl

theorem writePortEntry_ports : (writePortEntry p e s).ports = vput s.ports p (s.ports[p].written e) := by
  obtain ⟨se, -, hwrite⟩ := writePortEntry_eq p e s
  rw [hwrite]
  split
  · exact ((clearFault_told _ _ _).project (·.ports) rfl).trans (portWritten_ports p e s se)
  · exact portWritten_ports p e s se

theorem portWritten_isActive (se : ServiceUnit) : (s.portWritten p e se).isActive = s.isActive :=
  (setFlagIf_tell _ _ _).project (·.isActive) rfl

theorem writePortEntry_isLive (hact : s.isActive = true) (hoff : s.ports[p].state = .off) :
    (writePortEntry p e s).isLive .portOff (portSource p) = false := by
  obtain ⟨se, -, hwrite⟩ := writePortEntry_eq p e s
  rw [hwrite, if_pos hoff]
  exact clearFault_isLive _ _ ((portWritten_isActive p e s se).trans hact)

theorem writePortEntry_flag (h : s.ports[p].state ≠ (s.ports[p].written e).state) :
    (writePortEntry p e s).flag .portState = true := by
  obtain ⟨se, -, hwrite⟩ := writePortEntry_eq p e s
  have hflag : (s.portWritten p e se).flag .portState = true := by
    rw [State.portWritten, setFlagIf, if_pos (decide_eq_true h)]
    exact setFlag_flag _ _
  rw [hwrite]
  split
  · exact (clearFault_keeps_self .portOff _ _).flags _ hflag
  · exact hflag

theorem writePortEntry_moved : Moved { s with ports := (writePortEntry p e s).ports } (writePortEntry p e s) := by
  rw [writePortEntry_ports]
  obtain ⟨se, he, hwrite⟩ := writePortEntry_eq p e s
  have hservice : Moved { s with ports := vput s.ports p (s.ports[p].written e) } (s.portWritten p e se) :=
    (moved_service (s := { s with ports := vput s.ports p (s.ports[p].written e) }) he).trans (setFlagIf_tell _ _ _).moved
  rw [hwrite]
  exact Moved.ite (hservice.trans (clearFault_told _ _ _).moved) hservice

end

/-- Settles O6. -/
theorem portWriteTakesUpTheRecord : Obligations.PortWriteTakesUpTheRecord := by
  intro s dt tag p e hs hm he
  have hwrite := writePort_taken (s := s.noted dt) p hm he
  have hports := writePortEntry_ports p e (s.noted dt)
  have hport : (writePortEntry p e (s.noted dt)).ports[p] = s.ports[p].written e := by
    rw [hports, vput_same]
    rfl
  have hmoved := writePortEntry_moved p e (s.noted dt)
  have hact : (s.noted dt).isActive = true := (s.serving_iff.mp hs).2.1
  refine ⟨_, exec_written rfl rfl hs (congrArg tableWritten hwrite), by rw [hport]; rfl, by rw [hport]; rfl,
    by rw [hport]; rfl, by rw [hport]; rfl, by rw [hport]; rfl, by rw [hport]; rfl, by rw [hport]; rfl,
    fun q hq => by rw [hports, vput_other _ _ hq]; rfl, fun hoff => writePortEntry_isLive p e _ hact hoff,
    fun hne => writePortEntry_flag p e _ (by rw [hport] at hne; exact hne), ?_, hmoved⟩
  rw [hmoved.tables]
  rfl

/-! ### Records of the signal store (R33, R34) -/

theorem configSlot_injective {j k : Fin 240} (h : configSlot j = configSlot k) : j = k :=
  Fin.ext (show (configSlot j).val = (configSlot k).val from congrArg Fin.val h)

section
variable {j k : Fin 240} (s : State)

theorem putRec_same (r : SlotRec) : (putRec k r s).record k = r := vput_same _ _ _

theorem putRec_other (h : j ≠ k) (r : SlotRec) : (putRec k r s).record j = s.record j :=
  vput_other _ _ fun he => h (configSlot_injective he)

theorem changeSlot_same (v : Int) (st : SlotState) : (changeSlot k v st s).record k =
    { s.record k with value := v, state := st, lastChange :=
        if (s.record k).value = v ∧ (s.record k).state = st then (s.record k).lastChange else s.msNow } := by
  simp only [changeSlot]
  split
  next h =>
    obtain ⟨rfl, rfl⟩ := h
    simp
  next h => rw [(tellConsumers_moved _ _).record, putRec_same]

theorem changeSlot_other (h : j ≠ k) (v : Int) (st : SlotState) : (changeSlot k v st s).record j = s.record j := by
  simp only [changeSlot]
  split
  · rfl
  · rw [(tellConsumers_moved _ _).record, putRec_other s h]

/-- The record as limiting notes it (R33). -/
def SlotRec.noting (r : SlotRec) (d : SlotDesc) (raw v : Int) : SlotRec :=
  { r with raw := raw, clamped := decide (limited d v ≠ v),
           clampCount := if limited d v = v then r.clampCount else bump16 r.clampCount }

theorem recordLimited_same (raw v : Int) :
    (recordLimited k raw v s).record k = (s.record k).noting s.descs[k] raw v := by
  unfold recordLimited SlotRec.noting
  by_cases h : limited s.descs[k] v = v
  · simp only [ne_eq, h, not_true_eq_false, if_false, if_true, decide_false, (clearFault_told _ _ _).record, putRec_same]
  · simp only [ne_eq, h, not_false_eq_true, if_false, if_true, decide_true]
    split
    · rw [(raiseFault_told _ _ _).record, putRec_same]
    · rw [putRec_same]

theorem recordLimited_other (h : j ≠ k) (raw v : Int) : (recordLimited k raw v s).record j = s.record j := by
  unfold recordLimited
  dsimp only
  split
  · split
    · rw [(raiseFault_told _ _ _).record, putRec_other s h]
    · rw [putRec_other s h]
  · rw [(clearFault_told _ _ _).record, putRec_other s h]

theorem storeValue_other (h : j ≠ k) (raw v : Int) : (storeValue k raw v s).record j = s.record j := by
  rw [storeValue, changeSlot_other _ h, recordLimited_other _ h]

/-- A stored value is limited, and makes its slot VALID. -/
theorem storeValue_same (raw v : Int) : ∃ n, (storeValue k raw v s).record k =
    { (s.record k).noting s.descs[k] raw v with value := limited s.descs[k] v, state := .valid, lastChange := n } := by
  rw [storeValue, changeSlot_same, recordLimited_same]
  exact ⟨_, rfl⟩

/-- An emptied slot, stamped. -/
theorem stampedEmpty_same (zero : Bool) : (stampSlot k (emptySlot k zero s)).record k =
    { value := 0, state := .empty, raw := 0, clamped := false,
      clampCount := if zero then 0 else (s.record k).clampCount, lastChange := s.msNow } := by
  rw [stampSlot, putRec_same, (emptySlot_stored k zero s).project (·.msNow) rfl, emptySlot, changeSlot_same, putRec_same]

theorem stampedEmpty_other (h : j ≠ k) (zero : Bool) :
    (stampSlot k (emptySlot k zero s)).record j = s.record j := by
  rw [stampSlot, putRec_other _ h, emptySlot, changeSlot_other _ h, putRec_other _ h]

end

/-- Settles O7. -/
theorem matchAndSlotWritesStartAfresh : Obligations.MatchAndSlotWritesStartAfresh := by
  intro s dt tag hs hm
  have hact : (s.noted dt).isActive = true := (s.serving_iff.mp hs).2.1
  refine ⟨fun k e he => ?_, fun k e hf hl hframe => ?_⟩
  · refine ⟨_, exec_written rfl rfl hs (congrArg tableWritten (writeMatch_taken (s := s.noted dt) k hm he)), ?_, ?_,
      (clearFault_told _ _ _).trans (clearFault_told _ _ _)⟩
    · refine ((clearFault_keeps_self .frameMissing _ _).live _ _ (by simp)).trans ?_
      exact clearFault_isLive _ _ hact
    · exact clearFault_isLive _ _ (((clearFault_told _ _ _).project (·.isActive) rfl).trans hact)
  · refine ⟨_, exec_written rfl rfl hs (congrArg tableWritten (writeSlot_taken (s := s.noted dt) k hm hf hl hframe)),
      stampedEmpty_same _ true, fun j hj => stampedEmpty_other _ hj true,
      (emptySlot_stored k true _).trans (stampSlot_stored k _)⟩

end Sys2Proof.Machine
end

section
/-! PROOFS. Stored values and silence in the signal store (R19, R33 to R37), and the panel link's loss, reports,
departures and frames (R185 to R189, R197). -/

namespace Sys2Proof.Machine

/-! ### Panel deadlines, and what a SIGNAL_WRITE stores (R36, R37) -/

theorem changeSlot_panelDeadlines (k : Fin 240) (v : Int) (st : SlotState) (s : State) :
    (changeSlot k v st s).panelDeadlines = s.panelDeadlines := by
  simp only [changeSlot]
  split
  · rfl
  · exact (tellConsumers_moved _ _).project (·.panelDeadlines) rfl

theorem recordLimited_panelDeadlines (k : Fin 240) (raw v : Int) (s : State) :
    (recordLimited k raw v s).panelDeadlines = s.panelDeadlines := by
  unfold recordLimited
  dsimp only
  split
  · split
    · exact (raiseFault_told _ _ _).project (·.panelDeadlines) rfl
    · rfl
  · exact (clearFault_told _ _ _).project (·.panelDeadlines) rfl

theorem silence_panelDeadlines (k : Fin 240) (s : State) : (silence k s).panelDeadlines = s.panelDeadlines := by
  unfold silence
  split
  · exact changeSlot_panelDeadlines _ _ _ _
  · exact changeSlot_panelDeadlines _ _ _ _

theorem startPanelDeadline_slots (k : Fin 240) (s : State) : (startPanelDeadline k s).slots = s.slots := by
  simp only [startPanelDeadline]
  split <;> rfl

theorem startPanelDeadline_faults (k : Fin 240) (s : State) : (startPanelDeadline k s).faults = s.faults := by
  simp only [startPanelDeadline]
  split <;> rfl

theorem startPanelDeadline_same (k : Fin 240) {s : State} (h : s.descs[k].kind = .panel) :
    (startPanelDeadline k s).panelDeadlines[k] =
      if s.descs[k].panelTimeout = 0 then s.panelDeadlines[k] else some (s.after s.descs[k].panelTimeout) := by
  unfold startPanelDeadline
  dsimp only
  by_cases hz : s.descs[k].panelTimeout = 0
  · rw [if_neg fun hc => hc.2 hz, if_pos hz]
  · rw [if_pos ⟨h, hz⟩, if_neg hz]
    exact vput_same _ _ _

theorem startPanelDeadline_other {j k : Fin 240} (h : j ≠ k) (s : State) :
    (startPanelDeadline k s).panelDeadlines[j] = s.panelDeadlines[j] := by
  simp only [startPanelDeadline]
  split
  · exact vput_other _ _ h
  · rfl

theorem signalWritten_record (j k : Fin 240) (v : Int) (s : State) :
    (signalWritten k v s).record j = (storeValue k v v s).record j := by
  unfold signalWritten
  rw [State.record, startPanelDeadline_slots]
  exact (clearFault_told _ _ _).record j

theorem beforeDeadline_panelDeadlines (k : Fin 240) (v : Int) (s : State) :
    (clearFault .panelSignalStale (slotSource k) (storeValue k v v s)).panelDeadlines = s.panelDeadlines :=
  ((clearFault_told _ _ _).project (·.panelDeadlines) rfl).trans
    ((changeSlot_panelDeadlines _ _ _ _).trans (recordLimited_panelDeadlines _ _ _ _))

theorem signalWritten_deadline (k : Fin 240) (v : Int) {s : State} (h : s.descs[k].kind = .panel) :
    (signalWritten k v s).panelDeadlines[k] =
      if s.descs[k].panelTimeout = 0 then s.panelDeadlines[k] else some (s.after s.descs[k].panelTimeout) := by
  have hstored : Stored s (clearFault .panelSignalStale (slotSource k) (storeValue k v v s)) :=
    (storeValue_stored k v v s).trans (clearFault_told _ _ _).stored
  have hdescs := hstored.project (·.descs) rfl
  rw [signalWritten, startPanelDeadline_same k (by rw [hdescs]; exact h), beforeDeadline_panelDeadlines, hdescs,
    hstored.project (fun t => t.after s.descs[k].panelTimeout) rfl]

theorem signalWritten_otherDeadline {j k : Fin 240} (h : j ≠ k) (v : Int) (s : State) :
    (signalWritten k v s).panelDeadlines[j] = s.panelDeadlines[j] := by
  rw [signalWritten, startPanelDeadline_other h, beforeDeadline_panelDeadlines]

theorem signalWritten_isLive (k : Fin 240) (v : Int) {s : State} (hact : s.isActive = true) :
    (signalWritten k v s).isLive .panelSignalStale (some k.val) = false := by
  unfold signalWritten
  rw [State.isLive, startPanelDeadline_faults]
  exact clearFault_isLive _ _ (((storeValue_stored k v v s).project (·.isActive) rfl).trans hact)

theorem serveSignalWrite_setup (k : Nat) (v : Int) {s : State} (h : s.mode = .setup) :
    serveSignalWrite k v s = refuse .wrongMode s := by
  have hrun : (!s.isRun) = true := by rw [State.isRun, h]; rfl
  exact if_pos hrun

section
variable {s : State} (v : Int) (hm : s.mode = .run)
include hm

theorem not_not_isRun : ¬ ((!s.isRun) = true) := by
  rw [State.isRun, hm]
  decide

theorem serveSignalWrite_panel (k : Fin 240) (h : s.descs[k].kind = .panel) :
    serveSignalWrite k v s = accept (.stored (limited s.descs[k] v)) (signalWritten k v s) := by
  rw [serveSignalWrite, if_neg (not_not_isRun hm), unit?_val]
  exact if_pos h

theorem serveSignalWrite_other (k : Fin 240) (h : s.descs[k].kind ≠ .panel) :
    serveSignalWrite k v s = refuse .badIndex s := by
  rw [serveSignalWrite, if_neg (not_not_isRun hm), unit?_val]
  exact if_neg h

theorem serveSignalWrite_out {k : Nat} (h : 240 ≤ k) : serveSignalWrite k v s = refuse .badIndex s := by
  have hunit : unit? 240 k = none := dif_neg (Nat.not_lt.mpr h)
  rw [serveSignalWrite, if_neg (not_not_isRun hm), hunit]

end

/-- Settles O23. -/
theorem signalWriteStoresTheLimitedValue : Obligations.SignalWriteStoresTheLimitedValue := by
  intro s dt tag v hs
  have hact : (s.noted dt).isActive = true := (s.serving_iff.mp hs).2.1
  refine ⟨fun k hm hk => ?_, fun k hm => exec_served rfl rfl hs (serveSignalWrite_setup k v hm),
    fun k hm hk => exec_served rfl rfl hs (serveSignalWrite_other (s := s.noted dt) v hm k hk),
    fun k hm hk => exec_served rfl rfl hs (serveSignalWrite_out (s := s.noted dt) v hm hk)⟩
  obtain ⟨n, hsame⟩ := storeValue_same (k := k) (s.noted dt) v v
  refine ⟨_, exec_served rfl rfl hs (serveSignalWrite_panel (s := s.noted dt) v hm k hk), ?_⟩
  rw [signalWritten_record k k v, hsame]
  exact ⟨rfl, rfl, rfl, rfl, rfl, signalWritten_deadline k v hk, signalWritten_isLive k v hact,
    fun j hj => ⟨(signalWritten_record j k v _).trans (storeValue_other _ hj v v), signalWritten_otherDeadline hj v _⟩,
    signalWritten_stored k v _⟩

/-! ### Silence (R19, R35, R36) -/

section
variable {j k : Fin 240} (s : State)

theorem silence_hold (h : s.descs[k].policy = .hold) :
    ((silence k s).record k).state = .stale ∧ ((silence k s).record k).value = (s.record k).value := by
  unfold silence
  rw [h]
  dsimp only
  rw [changeSlot_same]
  exact ⟨rfl, rfl⟩

theorem silence_default (h : s.descs[k].policy = .default) :
    ((silence k s).record k).state = .substituted ∧ ((silence k s).record k).value = s.descs[k].default := by
  unfold silence
  rw [h]
  dsimp only
  rw [changeSlot_same]
  exact ⟨rfl, rfl⟩

theorem silence_other (h : j ≠ k) : (silence k s).record j = s.record j := by
  unfold silence
  split
  · exact changeSlot_other s h _ _
  · exact changeSlot_other s h _ _

end

/-- One visit of `entryMissing`. -/
def missingVisit (e : Fin 128) (k : Fin 240) (s : State) : State :=
  if s.fedBy k e then
    match (s.record k).state with
    | .valid => silence k s
    | .notAvailable => silence k s
    | .senderError => silence k s
    | _ => s
  else s

theorem entryMissing_eq (e : Fin 128) (s : State) : entryMissing e s = each 240 (missingVisit e) s := rfl

section
variable {e : Fin 128} {k : Fin 240} {s : State}

theorem missingVisit_cases (e : Fin 128) (k : Fin 240) (s : State) :
    missingVisit e k s = s ∨ s.fedBy k e = true ∧ missingVisit e k s = silence k s := by
  unfold missingVisit
  split
  next h => split <;> simp [h]
  next => exact .inl rfl

theorem missingVisit_valid (hfed : s.fedBy k e = true) (h : (s.record k).state = .valid) :
    missingVisit e k s = silence k s := by
  rw [missingVisit, if_pos hfed, h]

theorem missingVisit_stored (e : Fin 128) (k : Fin 240) (s : State) : Stored s (missingVisit e k s) := by
  obtain h | ⟨-, h⟩ := missingVisit_cases e k s
  · rw [h]
    exact Stored.refl s
  · rw [h]
    exact silence_stored k s

/-- The visit of another slot, or of a slot that the entry does not feed, leaves the record of a slot. -/
theorem missingVisit_record {j : Fin 240} (h : j ≠ k ∨ s.fedBy k e = false) :
    (missingVisit e j s).record k = s.record k := by
  obtain h' | ⟨hfed, h'⟩ := missingVisit_cases e j s
  · rw [h']
  · rw [h']
    refine silence_other s fun he => ?_
    subst he
    obtain hne | hf := h
    · exact hne rfl
    · rw [hfed] at hf
      exact absurd hf (by decide)

theorem entryMissing_unfed (h : s.fedBy k e = false) : (entryMissing e s).record k = s.record k := by
  have hall := each_rel (fun a b => Stored a b ∧ (a.fedBy k e = false → b.record k = a.record k))
    (fun a => ⟨Stored.refl a, fun _ => rfl⟩)
    (fun {a b c} hab hbc => ⟨hab.1.trans hbc.1, fun ha =>
      (hbc.2 ((hab.1.project (·.fedBy k e) rfl).trans ha)).trans (hab.2 ha)⟩)
    (missingVisit e) (fun j a => ⟨missingVisit_stored e j a, fun ha => missingVisit_record (.inr ha)⟩) s
  rw [entryMissing_eq]
  exact hall.2 h

/-- A VALID slot that the entry feeds falls silent once. -/
theorem entryMissing_fed (hfed : s.fedBy k e = true) (h : (s.record k).state = .valid) :
    ∃ a, a.descs = s.descs ∧ a.record k = s.record k ∧ (entryMissing e s).record k = (silence k a).record k := by
  obtain ⟨a, ⟨ha, hrec⟩, -, hrest⟩ := each_at (fun a b => Stored a b ∧ b.record k = a.record k)
    (fun a => ⟨Stored.refl a, rfl⟩) (fun hab hbc => ⟨hab.1.trans hbc.1, hbc.2.trans hab.2⟩)
    (missingVisit e) k (fun j a hj => ⟨missingVisit_stored e j a, missingVisit_record (.inl hj)⟩) s
  refine ⟨a, ha.project (·.descs) rfl, hrec, ?_⟩
  rw [entryMissing_eq, hrest, missingVisit_valid ((ha.project (·.fedBy k e) rfl).trans hfed) (by rw [hrec]; exact h)]

end

theorem silence_keeps_live (k : Fin 240) (s : State) : Keeps (List.finRange 256) selectCodes s (silence k s) :=
  (silence_keeps k s).mono (fun _ _ => List.mem_finRange _) (List.Subset.refl _)

theorem entryMissing_keeps (e : Fin 128) (s : State) : Keeps (List.finRange 256) selectCodes s (entryMissing e s) := by
  rw [entryMissing_eq]
  refine Keeps.each (fun k s => ?_) s
  obtain h | ⟨-, h⟩ := missingVisit_cases e k s
  · rw [h]
    exact Keeps.refl _
  · rw [h]
    exact silence_keeps_live k s

/-- Settles O25. -/
theorem silenceMakesSlotsStale : Obligations.SilenceMakesSlotsStale := by
  refine ⟨fun s dt due e hawake hsup hdue => ?_, fun s dt due k hawake hpend hdue => ?_⟩
  · obtain ⟨hreset, hact⟩ := s.awake_iff.mp hawake
    have hdeadline : (s.elapse dt).due (supervisionDeadline (s.elapse dt).matchTable[e].supervision) = true := by
      obtain h | h := hsup
      · rw [State.elapse_matchTable, h]
        exact decide_eq_true hdue
      · rw [State.elapse_matchTable, h]
        exact decide_eq_true hdue
    refine ⟨_, event_of_awake hreset, ?_⟩
    rw [expireSupervision, if_pos hdeadline]
    generalize hr : raiseFault .frameMissing (entrySource e)
      (putMatch e { (s.elapse dt).matchTable[e] with supervision := .missing } (s.elapse dt)) = r
    have htold : Told { s.elapse dt with
        matchTable := vput s.matchTable e { s.matchTable[e] with supervision := .missing } } r :=
      hr ▸ raiseFault_told _ _ _
    have hdescs : r.descs = s.descs := htold.project (·.descs) rfl
    have hrec : ∀ k, r.record k = s.record k := htold.record
    have hfed : ∀ k, r.fedBy k e = true ↔ s.descs[k].kind = .frame ∧ s.descs[k].sourceEntry = e.val := by
      intro k
      rw [State.fedBy, hdescs, Bool.and_eq_true, decide_eq_true_eq, decide_eq_true_eq]
    refine ⟨fun hroom => ?_, fun k hkind hsource hvalid => ?_, fun k hk => ?_,
      htold.stored.trans (entryMissing_stored e r)⟩
    · refine ((entryMissing_keeps e r).live _ _ (by decide)).trans ?_
      rw [← hr]
      exact raiseFault_isLive _ _ hact (of_decide_eq_true hroom)
    · obtain ⟨a, ha, harec, hend⟩ := entryMissing_fed ((hfed k).mpr ⟨hkind, hsource⟩) (by rw [hrec]; exact hvalid)
      rw [hend]
      refine ⟨fun hp => ?_, fun hp => ?_⟩
      · have := silence_hold (k := k) a (by rw [ha, hdescs]; exact hp)
        rwa [harec, hrec] at this
      · have := silence_default (k := k) a (by rw [ha, hdescs]; exact hp)
        rwa [ha, hdescs] at this
    · rw [entryMissing_unfed (Bool.eq_false_iff.mpr fun h => hk ((hfed k).mp h)), hrec]
  · obtain ⟨hreset, hact⟩ := s.awake_iff.mp hawake
    have hdeadline : (s.elapse dt).due (s.elapse dt).panelDeadlines[k] = true := by
      rw [State.elapse_panelDeadlines, hpend]
      exact decide_eq_true hdue
    refine ⟨_, event_of_awake hreset, ?_⟩
    rw [expirePanelDeadline, if_pos hdeadline]
    generalize hr : raiseFault .panelSignalStale (slotSource k) (putPanelDeadline k none (s.elapse dt)) = r
    have htold : Told (putPanelDeadline k none (s.elapse dt)) r := hr ▸ raiseFault_told _ _ _
    have hdescs : r.descs = s.descs := htold.project (·.descs) rfl
    have hrec : ∀ j, r.record j = s.record j := htold.record
    have hpanel : r.panelDeadlines = vput s.panelDeadlines k none := htold.project (·.panelDeadlines) rfl
    have hlive : s.hasRoom = true → r.isLive .panelSignalStale (some k.val) = true := fun hroom => by
      rw [← hr]
      exact raiseFault_isLive _ _ hact (of_decide_eq_true hroom)
    have hstored : Stored (s.elapse dt) r := (putPanelDeadline_stored k none _).trans htold.stored
    have hother : ∀ j, j ≠ k → r.record j = s.record j ∧ r.panelDeadlines[j] = s.panelDeadlines[j] := fun j hj =>
      ⟨hrec j, by rw [hpanel, vput_other _ _ hj]⟩
    dsimp only
    by_cases hvalid : (s.record k).state = .valid
    · rw [if_pos (by rw [hrec]; exact hvalid)]
      refine ⟨by rw [silence_panelDeadlines, hpanel, vput_same], fun hroom =>
        ((silence_keeps_live k r).live _ _ (by decide)).trans (hlive hroom), fun _ hp => ?_, fun _ hp => ?_,
        fun j hj => ⟨(silence_other r hj).trans (hrec j), by rw [silence_panelDeadlines]; exact (hother j hj).2⟩,
        hstored.trans (silence_stored k r)⟩
      · rw [← hrec]
        exact silence_hold r (by rw [hdescs]; exact hp)
      · rw [← hdescs]
        exact silence_default r (by rw [hdescs]; exact hp)
    · rw [if_neg (by rw [hrec]; exact hvalid)]
      exact ⟨by rw [hpanel, vput_same], hlive, fun h => absurd h hvalid, fun h => absurd h hvalid, hother, hstored⟩

/-! ### Loss and restoration of the link (R189) -/

/-- What is told does not reach the panel link and DIRECT. -/
theorem Told.withLink {s t : State} (h : Told s t) (l : PanelLink) (d : Bool) :
    Told { s with link := l, direct := d } { t with link := l, direct := d } := by
  obtain ⟨_, _, _, _, _, _, _, _, _, _, _, rfl, htables, hrecord⟩ := h
  exact ⟨_, _, _, _, _, _, _, _, _, _, _, rfl, htables, hrecord⟩

theorem redrive_isLive (c : FaultCode) (src : Option Nat) (s : State) :
    (redrive s).isLive c src = s.isLive c src := by
  rw [State.isLive, State.isLive, (redrive_tell s).faults]

section
variable (s : State)

/-- The part as the loss of the link begins, and after its fault. -/
def State.losing : State :=
  publish slotPanelLinkLost 1 { s with link := { s.link with lost := true, timer := none } }

def State.restoring : State := publish slotPanelLinkLost 0 { s with link := { s.link with lost := false } }

theorem losing_told : Told { s with link := { s.link with lost := true, timer := none } }
    (raiseFault .panelLinkLost none s.losing) :=
  ((publish_tell (by decide) _ _).told).trans (raiseFault_told _ _ _)

theorem restoring_told : Told { s with link := { s.link with lost := false } }
    (clearFault .panelLinkLost none s.restoring) :=
  ((publish_tell (by decide) _ _).told).trans (clearFault_told _ _ _)

theorem loseLink_eq : loseLink s =
    redrive { raiseFault .panelLinkLost none s.losing with
      link := { s.link with lost := true, timer := none, linkLosses := bump32 s.link.linkLosses }, direct := true } := by
  have hlink : (raiseFault .panelLinkLost none s.losing).link = { s.link with lost := true, timer := none } :=
    (losing_told s).project (·.link) rfl
  have hstep : loseLink s = redrive { raiseFault .panelLinkLost none s.losing with
      link := { (raiseFault .panelLinkLost none s.losing).link with
        linkLosses := bump32 (raiseFault .panelLinkLost none s.losing).link.linkLosses }, direct := true } := rfl
  rw [hstep, hlink]

theorem restoreLink_eq : restoreLink s =
    redrive { clearFault .panelLinkLost none s.restoring with direct := false } := rfl

theorem loseLink_slot : (loseLink s).slots[slotPanelLinkLost].value = 1 := by
  have hkeeps := raiseFault_keeps_self .panelLinkLost none s.losing
  rw [loseLink_eq, redrive_slots, hkeeps.slots _ (by decide)]
  exact publish_value _ _ _

theorem restoreLink_slot : (restoreLink s).slots[slotPanelLinkLost].value = 0 := by
  have hkeeps :=
    clearFault_keeps_self .panelLinkLost none s.restoring
  rw [restoreLink_eq, redrive_slots, hkeeps.slots _ (by decide)]
  exact publish_value _ _ _

theorem loseLink_isLive (hact : s.isActive = true) (hroom : s.faults.live.length < 48) :
    (loseLink s).isLive .panelLinkLost none = true := by
  have hpublish : Tell { s with link := { s.link with lost := true, timer := none } } s.losing :=
    publish_tell (by decide) _ _
  rw [loseLink_eq, redrive_isLive]
  exact raiseFault_isLive (s := s.losing) _ _ ((hpublish.told.project (·.isActive) rfl).trans hact) (by rwa [hpublish.faults])

theorem restoreLink_isLive (hact : s.isActive = true) : (restoreLink s).isLive .panelLinkLost none = false := by
  have hpublish : Told { s with link := { s.link with lost := false } } s.restoring :=
    (publish_tell (by decide) _ _).told
  rw [restoreLink_eq, redrive_isLive]
  exact clearFault_isLive (s := s.restoring) _ _ ((hpublish.project (·.isActive) rfl).trans hact)

theorem loseLink_told : Told { s with direct := true, link := { s.link with
    lost := true, timer := none, linkLosses := bump32 s.link.linkLosses } } (loseLink s) := by
  have htold := (losing_told s).withLink
    { s.link with lost := true, timer := none, linkLosses := bump32 s.link.linkLosses } true
  rw [loseLink_eq]
  exact htold.trans (redrive_tell _).told

theorem restoreLink_told : Told { s with direct := false, link := { s.link with lost := false } } (restoreLink s) := by
  have hlink : (clearFault .panelLinkLost none s.restoring).link = { s.link with lost := false } :=
    (restoring_told s).project (·.link) rfl
  refine ((restoring_told s).withLink { s.link with lost := false } false).trans ?_
  rw [← hlink, restoreLink_eq]
  exact (redrive_tell _).told

theorem noteArrival_of_lost (h : s.link.lost = true) : noteArrival s =
    { restoreLink s with
      link := { (restoreLink s).link with
        timer := some ((restoreLink s).after (restoreLink s).system.panelTimeout) } } := by
  rw [noteArrival, if_pos h]

end

/-- Settles O22. -/
theorem panelLossAndRestoration : Obligations.PanelLossAndRestoration := by
  refine ⟨fun s dt due hawake htimer hdue => ?_, fun s dt tag hawake hlost hrestart hempty hroom => ?_⟩
  · obtain ⟨hreset, hact⟩ := s.awake_iff.mp hawake
    have hexpired : (s.elapse dt).due (s.elapse dt).link.timer = true := by
      rw [State.elapse_link, htimer]
      exact decide_eq_true hdue
    refine ⟨_, event_of_awake hreset, ?_⟩
    rw [expirePanelTimer, if_pos hexpired]
    exact ⟨loseLink_slot _, fun h => loseLink_isLive _ hact (of_decide_eq_true h), loseLink_told _⟩
  · obtain ⟨hreset, hact⟩ := s.awake_iff.mp hawake
    have htold := restoreLink_told (s.elapse dt)
    have hlink : (restoreLink (s.elapse dt)).link = { s.link with lost := false } := htold.project (·.link) rfl
    have hnoted : Told { s.noted dt with direct := false, link := { (s.noted dt).link with lost := false } }
        (noteArrival (s.elapse dt)) := by
      have hafter : (restoreLink (s.elapse dt)).after (restoreLink (s.elapse dt)).system.panelTimeout =
          (s.elapse dt).after s.system.panelTimeout := htold.project (fun t => t.after t.system.panelTimeout) rfl
      have hdirect : (restoreLink (s.elapse dt)).direct = false := htold.project (·.direct) rfl
      have hwith := htold.withLink { s.link with
        lost := false, timer := some ((s.elapse dt).after s.system.panelTimeout) } false
      rw [noteArrival_of_lost (s.elapse dt) hlost, hlink, hafter]
      exact hwith.trans (by rw [← hdirect]; exact Told.refl _)
    have hv : (noteArrival (s.elapse dt)).link = { (s.noted dt).link with lost := false } := hnoted.project (·.link) rfl
    have hmay : (noteArrival (s.elapse dt)).mayServe = true := by
      rw [State.mayServe, hv]
      simp [hrestart, hroom]
    have hnone : (noteArrival (s.elapse dt)).link.ingress = [] := by rw [hv]; exact hempty
    have hserved : requestArrives tag .heartbeat (s.elapse dt) =
        serveOne { tag := tag, request := .heartbeat } (noteArrival (s.elapse dt)) := by
      rw [requestArrives_of_active (s := s.elapse dt) _ _ hact, joinIngress_of_empty _ hnone, serveAll_single _ hmay hnone]
    refine ⟨noteArrival (s.elapse dt), ?_, ?_, ?_, hnoted⟩
    · exact (exec_request (c := .heartbeat dt tag) rfl s).trans ((event_of_awake hreset).trans (congrArg _ hserved))
    · rw [noteArrival_of_lost (s.elapse dt) hlost]
      exact restoreLink_slot (s.elapse dt)
    · rw [noteArrival_of_lost (s.elapse dt) hlost]
      exact restoreLink_isLive (s.elapse dt) hact

/-! ### Reports (R188, R197) -/

theorem flatMap_length_const {α β : Type} {f : α → List β} {m : Nat} (h : ∀ a, (f a).length = m) (l : List α) :
    (l.flatMap f).length = l.length * m := by
  simp [List.length_flatMap, h]

theorem nibblePairs_length (l : List (Presentation × Bool)) : (nibblePairs l).length = (l.length + 1) / 2 := by
  induction l using nibblePairs.induct with
  | case1 a b rest ih =>
    simp only [nibblePairs, List.length_cons, ih]
    omega
  | case2 a => simp [nibblePairs]
  | case3 => rfl

theorem gaugeBytes_length (g : GaugeReport) : (gaugeBytes g).length = 8 := by simp [gaugeBytes]

theorem report_payload_length (r : Report) : r.payload.length = 106 := by
  have hgauges := flatMap_length_const gaugeBytes_length r.gauges.toArray.toList
  have hdoors := flatMap_length_const (f := fun d : DoorState × Bool => [byteOf d.1.code, boolByte d.2])
    (m := 2) (fun _ => rfl) r.doors.toArray.toList
  simp only [Report.payload, List.length_append, hgauges, hdoors, nibblePairs_length, beInt_length, be_length,
    List.length_cons, List.length_nil, Array.length_toList, Vector.size_toArray]

/-- Settles O21. -/
theorem reportJoinsOrReplaces : Obligations.ReportJoinsOrReplaces := by
  refine ⟨report_payload_length, fun s dt due hreset htimer hdue => ?_⟩
  have hexpired : (s.elapse dt).due (s.elapse dt).link.reportTimer = true := by
    rw [State.elapse_link, htimer]
    exact decide_eq_true hdue
  have hstep : expireReport (s.elapse dt) = offerReport { s.elapse dt with
      link := { s.link with reportTimer := some (due + 1000 * s.system.reportPeriod) } } := by
    rw [expireReport, if_pos hexpired, State.elapse_link, htimer]
    rfl
  refine ⟨fun h => (event_of_awake hreset).trans (congrArg _ (hstep.trans ?_)),
    fun h => (event_of_awake hreset).trans (congrArg _ (hstep.trans ?_))⟩
  · exact if_neg (by rw [h]; decide)
  · exact if_pos h

/-! ### The receiver (R185) -/

theorem overLength_long (type tag length : Byte) (acc : List Byte) (b : Byte) :
    overLength (type :: tag :: length :: (acc ++ [b])) = none := by
  cases acc with
  | nil => rfl
  | cons _ _ => rfl

theorem take_frame_more {type tag length : Byte} {acc : List Byte} (b : Byte)
    (h : acc.length + 1 ≠ length.toNat + 2) : (Receiver.inFrame (type :: tag :: length :: acc)).take b =
      (.inFrame (type :: tag :: length :: (acc ++ [b])), none) := by
  have hcomplete : completeFrame (type :: tag :: length :: (acc ++ [b])) = none :=
    if_neg (by rw [List.length_append]; exact h)
  simp only [Receiver.take, List.cons_append, overLength_long, hcomplete]
  rfl

theorem take_frame_last {type tag length : Byte} {acc : List Byte} (b : Byte)
    (h : acc.length + 1 = length.toNat + 2) : (Receiver.inFrame (type :: tag :: length :: acc)).take b =
      (.waiting, some (.frame type tag ((acc ++ [b]).take length.toNat)
        (BitVec.ofNat 16 (unbe ((acc ++ [b]).drop length.toNat))))) := by
  have hcomplete : completeFrame (type :: tag :: length :: (acc ++ [b])) =
      some (.frame type tag ((acc ++ [b]).take length.toNat)
        (BitVec.ofNat 16 (unbe ((acc ++ [b]).drop length.toNat)))) :=
    if_pos (by rw [List.length_append]; exact h)
  simp only [Receiver.take, List.cons_append, overLength_long, hcomplete]
  rfl

/-- The receiver reads the bytes that are left of a frame. -/
theorem takeAll_frame {type tag length : Byte} (rest acc : List Byte) (hne : rest ≠ [])
    (h : (acc ++ rest).length = length.toNat + 2) :
    (Receiver.inFrame (type :: tag :: length :: acc)).takeAll rest =
      (.waiting, [.frame type tag ((acc ++ rest).take length.toNat)
        (BitVec.ofNat 16 (unbe ((acc ++ rest).drop length.toNat)))]) := by
  induction rest generalizing acc with
  | nil => exact absurd rfl hne
  | cons b rest ih =>
    by_cases hlast : rest = []
    · subst hlast
      rw [Receiver.takeAll, take_frame_last b (by simpa using h)]
      rfl
    · have hmore : acc.length + 1 ≠ length.toNat + 2 := by
        have := List.length_pos_iff.mpr hlast
        simp only [List.length_append, List.length_cons] at h
        omega
      have hassoc : acc ++ [b] ++ rest = acc ++ b :: rest := by simp
      have hrest := ih (acc ++ [b]) hlast (by rw [hassoc]; exact h)
      rw [hassoc] at hrest
      rw [Receiver.takeAll, take_frame_more b hmore, hrest]
      rfl

/-- The receiver takes the start byte, the type and the tag. -/
theorem takeAll_head (type tag : Byte) (rest : List Byte) :
    Receiver.waiting.takeAll (0xA5 :: type :: tag :: rest) = (Receiver.inFrame [type, tag]).takeAll rest := rfl

theorem take_length {type tag length : Byte} (h : length.toNat ≤ 120) :
    (Receiver.inFrame [type, tag]).take length = (.inFrame [type, tag, length], none) := by
  have hover : overLength [type, tag, length] = none := if_neg (Nat.not_lt.mpr h)
  have hcomplete : completeFrame [type, tag, length] = none := by
    simp only [completeFrame, List.length_nil]
    exact if_neg (by omega)
  simp only [Receiver.take, List.cons_append, List.nil_append, hover, hcomplete]
  rfl

theorem take_overLength {type tag length : Byte} (h : 120 < length.toNat) :
    (Receiver.inFrame [type, tag]).take length = (.waiting, some (.tooLong length)) := by
  have hover : overLength [type, tag, length] = some (.tooLong length) := if_pos h
  simp only [Receiver.take, List.cons_append, List.nil_append, hover]
  rfl

theorem takeAll_frameBytes (type tag : Byte) {p : List Byte} (crc : BitVec 16) (hp : p.length ≤ 120) :
    Receiver.waiting.takeAll (frameBytes type tag p crc) = (.waiting, [.frame type tag p crc]) := by
  have hlength : (byteOf p.length).toNat = p.length := byteOf_toNat (by omega)
  have hcrc : unbe (be 2 crc.toNat) = crc.toNat := unbe_be crc.isLt
  have hne : p ++ be 2 crc.toNat ≠ [] := by
    intro h
    have := congrArg List.length h
    simp at this
  have hrest := takeAll_frame (type := type) (tag := tag) (length := byteOf p.length) (p ++ be 2 crc.toNat) [] hne
    (by rw [List.nil_append, List.length_append, be_length, hlength])
  rw [List.nil_append, hlength, List.take_left, List.drop_left, hcrc, BitVec.ofNat_toNat, BitVec.setWidth_eq] at hrest
  rw [frameBytes, takeAll_head, Receiver.takeAll, take_length (by rw [hlength]; exact hp), hrest]
  rfl

/-! ### Frames that arrive (R185, R186) -/

theorem frameArrives_request {tag : Byte} {p : List Byte} (s : State) :
    frameArrives 1 tag p (frameCrc 1 tag p) s = requestArrives tag (parseRequest p) s := by
  rw [frameArrives, if_neg (not_not_intro rfl), if_pos rfl]

theorem frameArrives_badCrc {type tag : Byte} {p : List Byte} {crc : BitVec 16} (h : crc ≠ frameCrc type tag p)
    (s : State) : frameArrives type tag p crc s = receiveError s := if_pos h

theorem frameArrives_otherType {type tag : Byte} {p : List Byte} (h : type ≠ 1) {s : State} (hact : s.isActive = true) :
    frameArrives type tag p (frameCrc type tag p) s = receiveError s := by
  rw [frameArrives, if_neg (not_not_intro rfl), if_neg h, if_pos hact]

section
variable (dt : Nat) (type tag : Byte) (p : List Byte) (crc : BitVec 16) (length : Byte) (s : State)

theorem exec_panelFrameReceived : exec (.panelFrameReceived dt type tag p crc) s =
    event dt s fun s => frameArrives type tag p crc (awaitStart s) := rfl

theorem exec_byteGapAbort : exec (.byteGapAbort dt) s = event dt s fun s => receiveError (awaitStart s) := rfl

theorem exec_panelLengthAbove120 : exec (.panelLengthAbove120 dt length) s =
    event dt s fun s => if 120 < length.toNat then receiveError (awaitStart s) else s := rfl

end

/-- Settles O4. -/
theorem framesAreServedOrCounted : Obligations.FramesAreServedOrCounted := by
  refine ⟨fun r p dt tag s hw hp hs => ?_, fun s dt hreset => ?_, fun b rest hb => ?_,
    fun type tag p crc => takeAll_frameBytes type tag crc, fun type tag length hlength => ?_⟩
  · have hparse : parseRequest p = r := (requestPayloadRoundTrip r p hw hp).1
    have hs' : (awaitStart s).serving = true := hs
    have hreset := (s.serving_iff.mp hs).1
    have hevent := (event_of_awake (s := awaitStart s) (dt := dt) hreset).symm.trans
      (event_requestArrives_of_serving hs' dt tag r)
    dsimp only
    rw [← hevent, exec_panelFrameReceived, event_of_awake hreset, frameArrives_request, hparse]
    rfl
  · refine ⟨?_, fun length hlength => ?_, fun type tag p crc hcrc => ?_, fun type tag p htype hpower => ?_⟩
    · rw [exec_byteGapAbort, event_of_awake hreset]
      rfl
    · rw [exec_panelLengthAbove120, event_of_awake hreset, if_pos hlength]
      rfl
    · rw [exec_panelFrameReceived, event_of_awake hreset, frameArrives_badCrc hcrc]
      rfl
    · have hact : (awaitStart (s.elapse dt)).isActive = true := decide_eq_true hpower
      rw [exec_panelFrameReceived, event_of_awake hreset, frameArrives_otherType htype hact]
      rfl
  · have htake : Receiver.waiting.take b = (.waiting, none) := Prod.ext (if_neg hb) rfl
    rw [Receiver.takeAll, htake]
    rfl
  · rw [takeAll_head, Receiver.takeAll, take_overLength hlength]
    rfl

/-! ### Departures (R188) -/

section
variable {s : State} {h : EgressFrame} {rest : List EgressFrame}

theorem headSent_head (hact : s.isActive = true) (hegress : s.link.egress = h :: rest)
    (hrestart : s.link.restarting = false) : headSent s = serveAll (putEgress rest s) := by
  have hnot : ¬ (((putEgress rest s).link.restarting && h.isRestart) = true) := by
    have hkept : (putEgress rest s).link.restarting = false := hrestart
    rw [hkept, Bool.false_and]
    decide
  rw [headSent, if_pos hact, hegress]
  exact if_neg hnot

theorem serveAll_of_empty (hempty : s.link.ingress = []) : serveAll s = s := by
  rw [serveAll, hempty]
  rfl

end

/-- Settles O20. -/
theorem egressHeadLeaves : Obligations.EgressHeadLeaves := by
  refine ⟨fun f hf => ?_, fun tag code r d p f x => ⟨rfl, rfl, rfl, rfl, rfl, rfl⟩, rfl,
    fun s dt h rest hawake hegress hrestart => ?_⟩
  · rw [EgressFrame.bytes, if_pos hf]
    exact takeAll_frameBytes _ _ _ hf
  · obtain ⟨hreset, hact⟩ := s.awake_iff.mp hawake
    have hhead : headSent (s.elapse dt) = serveAll (putEgress rest (s.elapse dt)) :=
      headSent_head (s := s.elapse dt) hact hegress hrestart
    refine ⟨?_, fun hempty => (event_of_awake hreset).trans (congrArg _ (hhead.trans ?_)),
      fun f hf hroom => (event_of_awake hreset).trans (congrArg _ (hhead.trans ?_))⟩
    · rw [State.sending, hact, hreset, hegress]
      rfl
    · exact serveAll_of_empty (s := putEgress rest (s.elapse dt)) hempty
    · have hmay : State.mayServe { s.elapse dt with link := { s.link with egress := rest, ingress := [] } } = true := by
        simp [State.mayServe, hrestart, hroom]
      have hserve := serveAll_single f (s := { s.elapse dt with
        link := { s.link with egress := rest, ingress := [] } }) hmay rfl
      rw [← hf] at hserve
      exact hserve

end Sys2Proof.Machine
end

section
/-! PROOFS. What telling and the faults leave of the gauges, the lamps and the lines (`Held`); homing and motion of the
gauges (R75 to R78, R82); and lamp protection (R121, R122). -/

namespace Sys2Proof.Machine

/-! ### What telling leaves of gauges, lamps and lines -/

/-- Of a gauge only the points it aims at change, of a lamp only its proving time, of a line only its level. -/
structure Held (s t : State) : Prop where
  gauge : ∀ g : Fin 6, s.gauges[g].sameCourse t.gauges[g]
  lamp : ∀ k : Fin 8, t.lamps[k] = { s.lamps[k] with proving := t.lamps[k].proving }
  line : ∀ l : Fin 16, t.outputs[l] = { s.outputs[l] with on := t.outputs[l].on }

theorem GaugeUnit.sameCourse.trans {u v w : GaugeUnit} (h : u.sameCourse v) (h' : v.sameCourse w) : u.sameCourse w := by
  unfold sameCourse at *
  rw [h', h]

namespace Held

theorem refl (s : State) : Held s s := ⟨fun _ => rfl, fun _ => rfl, fun _ => rfl⟩

theorem trans {a b c : State} (h : Held a b) (h' : Held b c) : Held a c :=
  ⟨fun g => (h.gauge g).trans (h'.gauge g), fun k => by rw [h'.lamp k, h.lamp k], fun l => by rw [h'.line l, h.line l]⟩

/-- An update of none of the three. -/
theorem apart {s t : State} (hg : t.gauges = s.gauges) (hk : t.lamps = s.lamps) (ho : t.outputs = s.outputs) :
    Held s t :=
  ⟨fun g => by rw [hg]; rfl, fun k => by rw [hk], fun l => by rw [ho]⟩

theorem driveLine (l : Fin 16) (s : State) : Held s (driveLine l s) := by
  have hline (on : Bool) (j : Fin 16) : (vput s.outputs l { s.outputs[l] with on := on })[j] =
      { s.outputs[j] with on := (vput s.outputs l { s.outputs[l] with on := on })[j].on } := by
    rw [vput_get]
    split
    next h => rw [h]
    next => rfl
  unfold Machine.driveLine
  dsimp only
  split
  · exact ⟨fun _ => rfl, fun _ => rfl, hline _⟩
  next k _ =>
    refine ⟨fun _ => rfl, fun j => ?_, hline _⟩
    dsimp only
    rw [vput_get]
    split
    next h => rw [h]
    next => rfl

end Held

theorem Quiet.held {s t : State} (h : Quiet False s t) : Held s t := by
  induction h with
  | refl s => exact Held.refl s
  | trans _ _ ih1 ih2 => exact ih1.trans ih2
  | line l s => exact Held.driveLine l s
  | flags _ => exact Held.apart rfl rfl rfl
  | chime _ _ => exact Held.apart rfl rfl rfl
  | telltales _ _ => exact Held.apart rfl rfl rfl
  | conds _ _ => exact Held.apart rfl rfl rfl
  | gauges h _ => exact ⟨h.resolve_left id, fun _ => rfl, fun _ => rfl⟩

theorem redrive_held (s : State) : Held s (redrive s) := (redrive_quiet s).held

theorem writeInternal_held (k : Fin 256) (v : Int) (st : SlotState) (s : State) : Held s (writeInternal k v st s) := by
  simp only [writeInternal]
  split
  · exact Held.refl s
  · exact (Held.apart rfl rfl rfl : Held s { s with slots := vput s.slots k _ }).trans
      ((tellGauges_quiet _ _).trans (tellConditions_quiet _ _)).held

theorem publish_held (k : Fin 256) (v : Nat) (s : State) : Held s (publish k v s) := writeInternal_held k v .valid s

theorem decideBrake_held (s : State) : Held s (decideBrake s) := by
  refine Held.trans ?_ (redrive_held _)
  exact Held.apart rfl rfl rfl

theorem decidePermit_held (s : State) : Held s (decidePermit s) := by
  unfold decidePermit
  refine Held.trans (Held.trans ?_ (publish_held _ _ _)) (redrive_held _)
  exact Held.apart rfl rfl rfl

theorem publishDoors_held (s : State) : Held s (publishDoors s) :=
  (publish_held slotAnyDoorOpen (bit s.anyDoorOpen) s).trans (decidePermit_held _)

theorem Busy.held {place : Prop} {s t : State} (h : Busy False place s t) : Held s t := by
  induction h with
  | refl s => exact Held.refl s
  | trans _ _ ih1 ih2 => exact ih1.trans ih2
  | quiet h => exact h.held
  | doors _ _ ih =>
    refine Held.trans (Held.trans ?_ ih) (publishDoors_held _)
    exact Held.apart rfl rfl rfl
  | speed _ ih =>
    refine Held.trans (Held.trans ?_ ih) (decideBrake_held _)
    exact Held.apart rfl rfl rfl
  | _ => exact Held.apart rfl rfl rfl

theorem raiseFault_held (c : FaultCode) (src : Option Nat) (s : State) : Held s (raiseFault c src s) :=
  (raiseFault_busy (place := True) c src s).held

theorem clearFault_held (c : FaultCode) (src : Option Nat) (s : State) : Held s (clearFault c src s) :=
  (clearFault_busy (place := True) c src s).held

/-! ### Gauges (R75 to R78, R82) -/

section
variable {g : Fin 6} {s : State}

/-- A step ends at the aim or at the slew limit (R75). -/
theorem stepped_eq (u : GaugeUnit) : u.stepped =
    if u.position ≤ u.aim then Nat.min (u.position + u.entry.slew) u.aim
    else Nat.max (u.position - u.entry.slew) u.aim := by
  simp only [GaugeUnit.stepped, distance, Nat.min_def, Nat.max_def]
  split_ifs <;> omega

theorem motionStep_due {due : Nat} (ht : s.gauges[g].state = .tracking) (hm : s.gauges[g].motion = some due)
    (hdue : due ≤ s.now) : motionStep g s = { s with gauges := vput s.gauges g { s.gauges[g] with
      position := s.gauges[g].stepped, sweep := s.gauges[g].turned s.gauges[g].stepped, motion := some (due + 1000) } } := by
  have hguard : (s.gauges[g].state = .tracking && s.due s.gauges[g].motion) = true := by
    rw [ht, hm]
    exact decide_eq_true hdue
  rw [motionStep, if_pos hguard, hm]
  rfl

theorem stall_homing (hact : s.isActive = true) (h : s.gauges[g].state = .homing) : stall g s =
    { s with gauges := vput s.gauges g { s.gauges[g] with
      state := .tracking, position := 0, attempt := 0, travel := none, motion := some (s.after 1) } } :=
  if_pos (by rw [hact, h]; rfl)

theorem stall_ignored (h : s.gauges[g].state ≠ .homing) : stall g s = s :=
  if_neg fun hc => h (of_decide_eq_true (Bool.and_eq_true_iff.mp hc).2)

theorem expireTravel_due {due : Nat} (h : s.gauges[g].state = .homing) (ht : s.gauges[g].travel = some due)
    (hdue : due ≤ s.now) : expireTravel g s = if s.gauges[g].attempt < 3 then
      { s with gauges := vput s.gauges g (s.gauges[g].attemptFrom (s.gauges[g].attempt + 1) s) } else gaugeFault g s := by
  have hguard : (s.gauges[g].state = .homing && s.due s.gauges[g].travel) = true := by
    rw [h, ht]
    exact decide_eq_true hdue
  rw [expireTravel, if_pos hguard]

/-- The gauge that has spent its third attempt, before its fault is raised. -/
def GaugeUnit.failed (u : GaugeUnit) : GaugeUnit := { u with state := .fault, attempt := 0, travel := none }

theorem gaugeFault_eq (g : Fin 6) (s : State) : gaugeFault g s =
    setFlag .gaugeFault (raiseFault .gaugeHome (some g.val)
      { s with gauges := vput s.gauges g s.gauges[g].failed }) := rfl

theorem setFlag_gauges (f : Attention) (s : State) : (setFlag f s).gauges = s.gauges := rfl

theorem gaugeFault_gauge (g : Fin 6) (s : State) :
    (gaugeFault g s).gauges[g].state = .fault ∧ (gaugeFault g s).gauges[g].travel = none := by
  have hcourse := (raiseFault_held .gaugeHome (some g.val) { s with gauges := vput s.gauges g s.gauges[g].failed }).gauge g
  rw [GaugeUnit.sameCourse, vput_same] at hcourse
  rw [gaugeFault_eq, setFlag_gauges, hcourse]
  exact ⟨rfl, rfl⟩

theorem setFlag_isLive (f : Attention) (c : FaultCode) (src : Option Nat) (s : State) :
    (setFlag f s).isLive c src = s.isLive c src := rfl

theorem gaugeFault_isLive (g : Fin 6) {s : State} (hact : s.isActive = true) (hroom : s.faults.live.length < 48) :
    (gaugeFault g s).isLive .gaugeHome (some g.val) = true := by
  rw [gaugeFault_eq, setFlag_isLive]
  exact raiseFault_isLive _ _ hact hroom

end

/-- Settles O33. -/
theorem gaugesHomeAndTrack : Obligations.GaugesHomeAndTrack := by
  intro s dt due g hawake u
  obtain ⟨hreset, hact⟩ := s.awake_iff.mp hawake
  refine ⟨fun ht hsweep hm hdue => ?_, fun aim ht hsweep hm hdue => ?_, fun h => ?_, fun h => ?_,
    fun h ht hdue hattempt => ?_, fun h ht hdue hattempt => ?_⟩
  · have haim : u.aim = u.target := by rw [GaugeUnit.aim, hsweep]; rfl
    have hturned : u.turned u.stepped = u.sweep := by rw [GaugeUnit.turned, hsweep]
    have hstep := stepped_eq u
    rw [haim] at hstep
    refine (event_of_awake hreset).trans (congrArg _ ((motionStep_due (s := s.elapse dt) ht hm hdue).trans ?_))
    rw [State.elapse_gauges, hturned, hstep]
  · have haim : u.aim = aim := by rw [GaugeUnit.aim, hsweep]; rfl
    have hstep := stepped_eq u
    rw [haim] at hstep
    have hturned : u.turned u.stepped =
        some (if u.stepped = aim then (if aim = 0 then u.entry.fullScale else 0) else aim) := by
      rw [GaugeUnit.turned, hsweep]
      dsimp only
      split <;> rfl
    refine (event_of_awake hreset).trans (congrArg _ ((motionStep_due (s := s.elapse dt) ht hm hdue).trans ?_))
    rw [State.elapse_gauges, hturned, hstep]
  · exact (event_of_awake hreset).trans (congrArg _ (stall_ignored (s := s.elapse dt) h))
  · exact (event_of_awake hreset).trans (congrArg _ (stall_homing (s := s.elapse dt) hact h))
  · have hexpire := expireTravel_due (s := s.elapse dt) h ht hdue
    rw [State.elapse_gauges, if_pos hattempt] at hexpire
    exact (event_of_awake hreset).trans (congrArg _ hexpire)
  · have hexpire := expireTravel_due (s := s.elapse dt) h ht hdue
    rw [State.elapse_gauges, if_neg (Nat.not_lt.mpr hattempt)] at hexpire
    refine ⟨_, (event_of_awake hreset).trans (congrArg _ hexpire), (gaugeFault_gauge g _).1, (gaugeFault_gauge g _).2,
      setFlag_flag _ _, fun hroom => ?_, gaugeFault_told g _⟩
    exact gaugeFault_isLive g (s := s.elapse dt) hact (of_decide_eq_true hroom)

/-! ### Lamp protection (R121, R122) -/

theorem lampOf_lineOfLamp (k : Fin 8) : lampOf (lineOfLamp k) = some k := unit?_val k

theorem lineOfLamp_of_lampOf {l : Fin 16} {k : Fin 8} (h : lampOf l = some k) : l = lineOfLamp k :=
  Fin.ext (val_of_unit? h).symm

/-- A lamp driver is on only in protection state NORMAL. -/
def State.lampSafe (s : State) (k : Fin 8) : Prop :=
  s.outputs[lineOfLamp k].on = true → s.lamps[k].protection = .normal

theorem driveLine_lampOn (k : Fin 8) (s : State) : (driveLine (lineOfLamp k) s).outputs[lineOfLamp k].on =
    (s.lineActive (lineOfLamp k) && decide (s.lamps[k].protection = .normal)) := by
  simp only [driveLine, lampOf_lineOfLamp, vput_same]

theorem driveLine_lampSafe {l : Fin 16} {k : Fin 8} {s : State} (h : s.lampSafe k) : (driveLine l s).lampSafe k := by
  have hprot : (driveLine l s).lamps[k].protection = s.lamps[k].protection := by rw [(Held.driveLine l s).lamp k]
  by_cases hl : lineOfLamp k = l
  · subst hl
    intro hon
    rw [driveLine_lampOn] at hon
    rw [hprot]
    exact of_decide_eq_true (Bool.and_eq_true_iff.mp hon).2
  · intro hon
    rw [driveLine_other hl] at hon
    rw [hprot]
    exact h hon

theorem Quiet.lampSafe {free : Prop} {k : Fin 8} {s t : State} (h : Quiet free s t) (hs : s.lampSafe k) :
    t.lampSafe k := by
  induction h with
  | trans _ _ ih1 ih2 => exact ih2 (ih1 hs)
  | line l s => exact driveLine_lampSafe hs
  | _ => exact hs

/-- Driving the lines again makes every lamp safe. -/
theorem redrive_lampSafe (k : Fin 8) (s : State) : (redrive s).lampSafe k := by
  obtain ⟨a, -, hrest⟩ := each_at (fun a b => a.lampSafe k → b.lampSafe k) (fun _ h => h) (fun h h' ha => h' (h ha))
    driveLine (lineOfLamp k) (fun l a _ => driveLine_lampSafe) s
  refine hrest fun hon => ?_
  rw [driveLine_lampOn] at hon
  have hprot : (driveLine (lineOfLamp k) a).lamps[k].protection = a.lamps[k].protection := by
    rw [(Held.driveLine (lineOfLamp k) a).lamp k]
  rw [hprot]
  exact of_decide_eq_true (Bool.and_eq_true_iff.mp hon).2

theorem decideBrake_lampSafe (k : Fin 8) (s : State) : (decideBrake s).lampSafe k := by
  unfold decideBrake
  exact redrive_lampSafe k _

theorem publishDoors_lampSafe (k : Fin 8) (s : State) : (publishDoors s).lampSafe k := by
  unfold publishDoors decidePermit
  exact redrive_lampSafe k _

theorem Busy.lampSafe {free place : Prop} {k : Fin 8} {s t : State} (h : Busy free place s t) (hs : s.lampSafe k) :
    t.lampSafe k := by
  induction h with
  | trans _ _ ih1 ih2 => exact ih2 (ih1 hs)
  | quiet h => exact h.lampSafe hs
  | doors _ _ _ => exact publishDoors_lampSafe k _
  | speed _ _ => exact decideBrake_lampSafe k _
  | _ => exact hs

theorem lamp_off {k : Fin 8} {s : State} (hsafe : s.lampSafe k) (h : s.lamps[k].protection ≠ .normal) :
    s.outputs[lineOfLamp k].on = false := Bool.eq_false_iff.mpr fun hon => h (hsafe hon)

theorem putLamp_told (k : Fin 8) (u : LampUnit) (s : State) : Told s (putLamp k u s) := (tell_outputs rfl).told

theorem setFault_held (b : Bool) (c : FaultCode) (src : Option Nat) (s : State) : Held s (setFault b c src s) :=
  (setFault_busy (place := True) b c src s).held

section
variable {k : Fin 8} {s : State}

/-- The lamp after an operation that keeps it but for its proving time. -/
theorem Held.lampFields {t : State} (h : Held s t) (k : Fin 8) : t.lamps[k].openLoad = s.lamps[k].openLoad ∧
    t.lamps[k].protection = s.lamps[k].protection ∧ t.lamps[k].shorts = s.lamps[k].shorts := by
  rw [h.lamp k]
  exact ⟨rfl, rfl, rfl⟩

theorem openLoad_lamp (b : Bool) : (openLoad k b s).lamps[k].openLoad = b := by
  have hheld := (setFault_held b .lampOpen (lampSource k) (putLamp k { s.lamps[k] with openLoad := b } s)).lampFields k
  rw [openLoad, hheld.1, putLamp, vput_same]

theorem openLoad_told (b : Bool) : Told s (openLoad k b s) := (putLamp_told k _ s).trans (setFault_told _ _ _ _)

theorem shortReported_on (hn : s.lamps[k].protection = .normal) (hon : s.outputs[lineOfLamp k].on = true) :
    shortReported k s =
      raiseFault .lampShort (lampSource k) (redrive (putLamp k (s.lamps[k].shorted s) s)) :=
  if_pos (by rw [hn, State.lampOn, hon]; rfl)

/-- The line and the lamp after a short that is acted on. -/
theorem shorted_lamp : let t := raiseFault .lampShort (lampSource k) (redrive (putLamp k (s.lamps[k].shorted s) s))
    t.outputs[lineOfLamp k].on = false ∧ t.lamps[k].shorts = s.lamps[k].shorts + 1 ∧
      t.lamps[k].protection = (s.lamps[k].shorted s).protection := by
  intro t
  have hheld := ((redrive_held (putLamp k (s.lamps[k].shorted s) s)).trans
    (raiseFault_held .lampShort (lampSource k) _)).lampFields k
  have hput : (putLamp k (s.lamps[k].shorted s) s).lamps[k] = s.lamps[k].shorted s := vput_same _ _ _
  rw [hput] at hheld
  have hsafe : t.lampSafe k := (raiseFault_busy (free := True) (place := True) _ _ _).lampSafe (redrive_lampSafe k _)
  refine ⟨lamp_off hsafe ?_, hheld.2.2, hheld.2.1⟩
  rw [hheld.2.1, LampUnit.shorted]
  dsimp only
  split <;> exact fun h => Protection.noConfusion h

theorem expireRetry_due {due : Nat} (hp : s.lamps[k].protection = .retryWait due) (hdue : due ≤ s.now) :
    expireRetry k s = redrive (putLamp k { s.lamps[k] with protection := .normal } s) := by
  simp only [expireRetry, hp, hdue, if_true]

theorem expireProving_due {due : Nat} (hn : s.lamps[k].protection = .normal) (hon : s.outputs[lineOfLamp k].on = true)
    (hp : s.lamps[k].proving = some due) (hdue : due ≤ s.now) : expireProving k s =
      clearFault .lampShort (lampSource k) (putLamp k { s.lamps[k] with proving := none } s) := by
  have hrun : s.due s.lamps[k].proving = true := by
    rw [hp]
    exact decide_eq_true hdue
  exact if_pos (by rw [hrun, State.lampOn, hon, hn]; rfl)

end

/-- Settles O41. -/
theorem lampLinesAreProtected : Obligations.LampLinesAreProtected := by
  intro s dt due k hawake u
  obtain ⟨hreset, hact⟩ := s.awake_iff.mp hawake
  have hreport (b : Bool) : exec (.openLoadReport dt k b) s = .next (openLoad k b (s.elapse dt)) :=
    congrArg Host.Outcome.next (if_neg (by rw [State.elapse_resetLow, hreset]; decide))
  refine ⟨⟨_, hreport true, openLoad_lamp true, fun hroom => ?_, openLoad_told true⟩,
    ⟨_, hreport false, openLoad_lamp false, ?_, openLoad_told false⟩, fun hn hon => ?_, fun hp hdue => ?_,
    fun hn hon hp hdue => ?_⟩
  · exact raiseFault_isLive (s := putLamp k { u with openLoad := true } (s.elapse dt)) _ _ hact (of_decide_eq_true hroom)
  · exact clearFault_isLive (s := putLamp k { u with openLoad := false } (s.elapse dt)) _ _ hact
  · obtain ⟨hoff, hshorts, hprot⟩ := shorted_lamp (k := k) (s := s.elapse dt)
    have hredrive := redrive_tell (putLamp k ((s.elapse dt).lamps[k].shorted (s.elapse dt)) (s.elapse dt))
    refine ⟨_, (event_of_awake hreset).trans (congrArg _ (shortReported_on (s := s.elapse dt) hn hon)), hoff, hshorts, ?_,
      fun hroom => ?_, ((putLamp_told k _ _).trans hredrive.told).trans (raiseFault_told _ _ _)⟩
    · rw [hprot, LampUnit.shorted]
      by_cases hcount : s.lamps[k].shorts < 2
      · exact (if_pos (Nat.succ_lt_succ hcount)).trans (if_pos hcount).symm
      · exact (if_neg fun h => hcount (Nat.lt_of_succ_lt_succ h)).trans (if_neg hcount).symm
    · exact raiseFault_isLive _ _ ((hredrive.told.project (·.isActive) rfl).trans hact)
        (by rw [hredrive.faults]; exact of_decide_eq_true hroom)
  · have hheld := (redrive_held (putLamp k { u with protection := .normal } (s.elapse dt))).lampFields k
    have hput : (putLamp k { u with protection := .normal } (s.elapse dt)).lamps[k] = { u with protection := .normal } :=
      vput_same _ _ _
    rw [hput] at hheld
    obtain ⟨o, l, hdrive⟩ := redrive_eq (putLamp k { u with protection := .normal } (s.elapse dt))
    refine ⟨_, (event_of_awake hreset).trans (congrArg _ (expireRetry_due (s := s.elapse dt) hp hdue)), hheld.2.1,
      hheld.2.2, ?_⟩
    rw [State.elapse_lamps, hdrive]
    rfl
  · have hheld := (clearFault_held .lampShort (lampSource k) (putLamp k { u with proving := none } (s.elapse dt))).lampFields k
    have hput : (putLamp k { u with proving := none } (s.elapse dt)).lamps[k] = { u with proving := none } :=
      vput_same _ _ _
    rw [hput] at hheld
    exact ⟨_, (event_of_awake hreset).trans (congrArg _ (expireProving_due (s := s.elapse dt) hn hon hp hdue)),
      clearFault_isLive (s := putLamp k { u with proving := none } (s.elapse dt)) _ _ hact, hheld.2.1.trans hn,
      (putLamp_told k _ _).trans (clearFault_told _ _ _)⟩

end Sys2Proof.Machine
end

section
/-! PROOFS. Pulse inputs and distance: edges after noise rejection (R48, R49, R61, R63), and the results a gate, an
edge and a stuck deadline deliver (R38, R50, R52, R53). -/

namespace Sys2Proof.Machine

/-! ### Metres (R63) -/

/-- What is told does not reach the speed unit's counts. -/
theorem Tell.withSpeed {s t : State} (h : Tell s t) (sp : SpeedUnit) :
    Tell { s with speed := sp } { t with speed := sp } := by
  obtain ⟨_, _, _, _, _, _, _, _, _, rfl, htables, hrecord⟩ := h
  exact ⟨_, _, _, _, _, _, _, _, _, rfl, congrArg (fun ts : Tables => { ts with speed := sp.entry }) htables, hrecord⟩

/-- The speed unit after `n` metres below the saturation of the total. -/
def SpeedUnit.further (u : SpeedUnit) (n : Nat) : SpeedUnit := { u with total := u.total + n, delta := u.delta + n }

theorem addMetre_below {s : State} (h : s.speed.total < 4294967295) : addMetre s =
    publish slotTotalDistance ((s.speed.total + 1) / 100) { s with speed := s.speed.further 1 } := if_pos h

theorem addMetre_told {s : State} (h : s.speed.total < 4294967295) :
    Tell { s with speed := s.speed.further 1 } (addMetre s) := by
  rw [addMetre_below h]
  exact publish_tell (by decide) _ _

theorem times_succ_last {σ : Type} (f : σ → σ) (n : Nat) (s : σ) : times (n + 1) f s = f (times n f s) := by
  induction n generalizing s with
  | zero => rfl
  | succ n ih => exact ih (f s)

/-- `n` metres below the saturation of the total. -/
theorem times_addMetre_tell (n : Nat) {s : State} (h : s.speed.total + n ≤ 4294967295) :
    Tell { s with speed := s.speed.further n } (times n addMetre s) := by
  induction n with
  | zero => exact Tell.refl s
  | succ n ih =>
    have hbefore := ih (by omega)
    have hspeed : (times n addMetre s).speed = s.speed.further n := hbefore.project (·.speed) rfl
    have hstep := addMetre_told (s := times n addMetre s) (by rw [hspeed]; exact Nat.lt_of_succ_le h)
    rw [times_succ_last]
    refine Tell.trans ?_ hstep
    rw [hspeed]
    exact hbefore.withSpeed (s.speed.further (n + 1))

theorem times_addMetre_slot {n : Nat} (hn : 0 < n) {s : State} (h : s.speed.total + n ≤ 4294967295) :
    (times n addMetre s).slots[slotTotalDistance].value = ((s.speed.total + n) / 100 : Nat) := by
  obtain ⟨m, rfl⟩ := Nat.exists_eq_succ_of_ne_zero (Nat.pos_iff_ne_zero.mp hn)
  have hspeed : (times m addMetre s).speed = s.speed.further m :=
    (times_addMetre_tell m (by omega)).project (·.speed) rfl
  rw [times_succ_last, addMetre_below (by rw [hspeed]; exact Nat.lt_of_succ_le h), hspeed]
  exact publish_value _ _ _

/-- An edge of P0 that counts distance (R61). -/
theorem countPulse_metres {s : State} (hsource : s.speed.entry.source = .pulseP0)
    (h : s.speed.total + (s.speed.pulseResidue + 1000) / s.speed.entry.pulsesPerKm ≤ 4294967295) :
    let metres := (s.speed.pulseResidue + 1000) / s.speed.entry.pulsesPerKm
    (0 < metres → (countPulse s).slots[slotTotalDistance].value = ((s.speed.total + metres) / 100 : Nat)) ∧
      Tell { s with speed := { s.speed with
        total := s.speed.total + metres, delta := s.speed.delta + metres,
        pulseResidue := (s.speed.pulseResidue + 1000) % s.speed.entry.pulsesPerKm } } (countPulse s) := by
  intro metres
  have hcount : countPulse s = times metres addMetre { s with speed := { s.speed with
      pulseResidue := (s.speed.pulseResidue + 1000) % s.speed.entry.pulsesPerKm } } := by
    rw [countPulse, hsource]
  rw [hcount]
  exact ⟨fun hn => times_addMetre_slot hn h, times_addMetre_tell metres h⟩

theorem countPulse_speedSlot {s : State} (hsource : s.speed.entry.source = .speedSlot) : countPulse s = s := by
  rw [countPulse, hsource]

/-! ### Edges (R48, R49) -/

section
variable {i : Fin 4} {m : PulseMeas} {s : State}

theorem putMeas_putPulse (i : Fin 4) (m : PulseMeas) (u : PulseUnit) (s : State) :
    putMeas i m (putPulse i u s) = putPulse i { u with meas := some m } s := by
  simp only [putMeas, putPulse, vput_same, vput_vput]

theorem pulseLine_begins {level : Bool} (hm : s.pulses[i].meas = some m) (hlevel : level ≠ m.accepted)
    (hpending : m.pending = none) (hnoise : s.pulses[i].entry.noise ≠ 0) : pulseLine i level s =
      putPulse i { s.pulses[i] with line := level, meas := some { m with pending := some s.now } } s := by
  rw [pulseLine]
  simp only [hm, hlevel, hpending, hnoise, if_false, Option.isSome_none, Bool.false_eq_true]
  exact putMeas_putPulse _ _ _ _

theorem pulseLine_returns (hm : s.pulses[i].meas = some m) : pulseLine i m.accepted s =
    putPulse i { s.pulses[i] with line := m.accepted, meas := some { m with pending := none } } s := by
  rw [pulseLine]
  simp only [hm, if_true]
  exact putMeas_putPulse _ _ _ _

theorem noiseEnd_accepts {start : Nat} (hm : s.pulses[i].meas = some m) (hpending : m.pending = some start)
    (h : start + s.pulses[i].entry.noise ≤ s.now) : noiseEnd i s = acceptEdge i m start s := by
  simp only [noiseEnd, hm, hpending, h, if_true]

/-- The measurement after an accepted edge of a FREQUENCY input. -/
def PulseMeas.edged (m : PulseMeas) (e : PulseEntry) (start : Nat) : PulseMeas :=
  if countsEdge e (!m.accepted) then
    { m with accepted := !m.accepted, pending := none, count := m.count + 1, lastEdge := BitVec.ofNat 32 start }
  else { m with accepted := !m.accepted, pending := none }

theorem frequencyEdge_eq (start : Nat) : frequencyEdge i { m with accepted := !m.accepted, pending := none }
    (!m.accepted) start s = putMeas i (m.edged s.pulses[i].entry start) s := by
  unfold frequencyEdge PulseMeas.edged
  split <;> rfl

theorem acceptEdge_frequency {start : Nat} (hmode : s.pulses[i].entry.mode = .frequency) : acceptEdge i m start s =
    if i = 0 ∧ countsEdge s.pulses[i].entry (!m.accepted) = true then
      countPulse (putMeas i (m.edged s.pulses[i].entry start) s)
    else putMeas i (m.edged s.pulses[i].entry start) s := by
  rw [acceptEdge, hmode]
  dsimp only
  rw [frequencyEdge_eq]

end

/-- A change of a pin acts where the part is not held in reset. -/
theorem pinEvent_of_awake {s : State} {dt : Nat} {f g : State → State} (h : s.resetLow = false) :
    pinEvent dt s (fun s => if s.resetLow then g s else f s) = .next (f (s.elapse dt)) :=
  congrArg Host.Outcome.next (if_neg (by rw [State.elapse_resetLow, h]; decide))

/-- Settles O30. -/
theorem pulseEdgesAreAcceptedAfterNoiseRejection : Obligations.PulseEdgesAreAcceptedAfterNoiseRejection := by
  refine ⟨fun s dt i m hawake hi hm => ⟨fun level hlevel hpending hnoise => ?_, ?_,
    fun start hpending hpast hmode => ?_⟩, fun s dt start m hawake hm hpending hpast hmode => ?_⟩
  · exact (pinEvent_of_awake (s.awake_iff.mp hawake).1).trans
      (congrArg _ (pulseLine_begins (s := s.elapse dt) hm hlevel hpending hnoise))
  · exact (pinEvent_of_awake (s.awake_iff.mp hawake).1).trans (congrArg _ (pulseLine_returns (s := s.elapse dt) hm))
  · refine (event_of_awake (s.awake_iff.mp hawake).1).trans (congrArg _ ?_)
    rw [noiseEnd_accepts (s := s.elapse dt) hm hpending hpast, acceptEdge_frequency (s := s.elapse dt) hmode,
      if_neg fun hc => hi hc.1]
    rfl
  · have hexec : exec (.noiseRejectionEnd dt 0) s = .next (acceptEdge 0 m start (s.elapse dt)) :=
      (event_of_awake (s.awake_iff.mp hawake).1).trans (congrArg _ (noiseEnd_accepts (s := s.elapse dt) hm hpending hpast))
    have hedge := acceptEdge_frequency (i := 0) (m := m) (s := s.elapse dt) (start := start) hmode
    refine ⟨fun hcounted hsource hroom => ?_, fun hnot => hexec.trans (congrArg _ (hedge.trans ?_))⟩
    · obtain ⟨hslot, htell⟩ := countPulse_metres (s := putMeas 0 (m.edged s.pulses[(0 : Fin 4)].entry start) (s.elapse dt))
        hsource hroom
      refine ⟨_, hexec.trans (congrArg _ (hedge.trans (if_pos ⟨rfl, hcounted⟩))), hslot, htell⟩
    · obtain hcounted | hsource := hnot
      · exact if_neg fun hc => absurd (hcounted.symm.trans hc.2) (by decide)
      · split
        · exact countPulse_speedSlot (s := putMeas 0 (m.edged s.pulses[(0 : Fin 4)].entry start) (s.elapse dt)) hsource
        · rfl

/-! ### A result that is delivered (R38) -/

/-- What one slot does with a result. -/
def takeResult (k : Fin 240) (result : Option Nat) (s : State) : State :=
  match result with
  | some r => storeValue k r (scaled s.descs[k] r) s
  | none => changeSlot k (s.record k).value .senderError s

/-- The slot takes the results of an input's quantity. -/
def State.hears (s : State) (k : Fin 240) (i : Fin 4) (q : Quantity) : Bool :=
  s.descs[k].kind = .pulse && s.descs[k].pulse = i.val && s.descs[k].quantity = q

def deliverVisit (i : Fin 4) (q : Quantity) (result : Option Nat) (k : Fin 240) (s : State) : State :=
  if s.hears k i q then takeResult k result s else s

theorem deliverPulse_eq (i : Fin 4) (q : Quantity) (result : Option Nat) (s : State) :
    deliverPulse i q result s = each 240 (deliverVisit i q result) s := by
  have hvisit : (fun (k : Fin 240) (s : State) =>
      let d := s.descs[k]
      if d.kind = .pulse && d.pulse = i.val && d.quantity = q then
        match result with
        | some r => storeValue k r (scaled d r) s
        | none => changeSlot k (s.record k).value .senderError s
      else s) = deliverVisit i q result := by
    funext k s
    cases result with
    | none => rfl
    | some r => rfl
  exact congrArg (fun f => each 240 f s) hvisit

theorem takeResult_stored (k : Fin 240) (result : Option Nat) (s : State) : Stored s (takeResult k result s) := by
  cases result with
  | none => exact changeSlot_stored _ _ _ s
  | some r => exact storeValue_stored _ _ _ s

theorem takeResult_other {j k : Fin 240} (h : j ≠ k) (result : Option Nat) (s : State) :
    (takeResult k result s).record j = s.record j := by
  cases result with
  | none => exact changeSlot_other s h _ _
  | some r => exact storeValue_other s h _ _

/-- A result writes slots and leaves the faults of the pulse inputs. -/
theorem takeResult_keeps (k : Fin 240) (result : Option Nat) (s : State) :
    Keeps (List.finRange 256) (.signalRange :: selectCodes) s (takeResult k result s) := by
  cases result with
  | none => exact (changeSlot_keeps _ _ _ s).mono (fun _ _ => List.mem_finRange _) (by simp)
  | some r => exact (storeValue_keeps _ _ _ s).mono (fun _ _ => List.mem_finRange _) (List.Subset.refl _)

theorem deliverPulse_keeps (i : Fin 4) (q : Quantity) (result : Option Nat) (s : State) :
    Keeps (List.finRange 256) (.signalRange :: selectCodes) s (deliverPulse i q result s) := by
  rw [deliverPulse_eq]
  exact Keeps.each (fun k s => Keeps.ite (takeResult_keeps k result s) (Keeps.refl s)) s

/-- A slot that hears the result takes it once. -/
theorem deliverPulse_record {i : Fin 4} {q : Quantity} {k : Fin 240} {s : State} (h : s.hears k i q = true)
    (result : Option Nat) : ∃ a, a.descs = s.descs ∧ a.record k = s.record k ∧
      (deliverPulse i q result s).record k = (takeResult k result a).record k := by
  have hother (j : Fin 240) (a : State) (hj : j ≠ k) : Stored a (deliverVisit i q result j a) ∧
      (deliverVisit i q result j a).record k = a.record k := by
    unfold deliverVisit
    split
    · exact ⟨takeResult_stored j result a, takeResult_other hj.symm result a⟩
    · exact ⟨Stored.refl a, rfl⟩
  obtain ⟨a, ⟨ha, hrec⟩, -, hrest⟩ := each_at (fun a b => Stored a b ∧ b.record k = a.record k)
    (fun a => ⟨Stored.refl a, rfl⟩) (fun hab hbc => ⟨hab.1.trans hbc.1, hbc.2.trans hab.2⟩)
    (deliverVisit i q result) k hother s
  have hhears : a.hears k i q = true := (ha.project (·.hears k i q) rfl).trans h
  refine ⟨a, ha.project (·.descs) rfl, hrec, ?_⟩
  rw [deliverPulse_eq, hrest, deliverVisit, if_pos hhears]

section
variable {i : Fin 4} {q : Quantity} {k : Fin 240} {s : State}

theorem deliverPulse_value (h : s.hears k i q = true) (r : Nat) : ((deliverPulse i q (some r) s).record k).state = .valid ∧
    ((deliverPulse i q (some r) s).record k).raw = r ∧
      ((deliverPulse i q (some r) s).record k).value = limited s.descs[k] (scaled s.descs[k] r) := by
  obtain ⟨a, hdescs, -, hend⟩ := deliverPulse_record h (some r)
  obtain ⟨n, hsame⟩ := storeValue_same (k := k) a r (scaled a.descs[k] r)
  rw [hend, takeResult, hsame, hdescs]
  exact ⟨rfl, rfl, rfl⟩

theorem deliverPulse_error (h : s.hears k i q = true) : ((deliverPulse i q none s).record k).state = .senderError ∧
    ((deliverPulse i q none s).record k).value = (s.record k).value := by
  obtain ⟨a, -, hrec, hend⟩ := deliverPulse_record h none
  rw [hend, takeResult, changeSlot_same, hrec]
  exact ⟨rfl, rfl⟩

end

/-! ### Gates and the stuck deadline (R50, R53) -/

theorem stampDiff_eq (a b : Stamp) : stampDiff a b = if a = b then 1 else (a - b).toNat := by
  unfold stampDiff
  by_cases h : a = b
  · subst h
    simp
  · have hne : (a - b).toNat ≠ 0 := fun hz => h (by
      have := BitVec.eq_of_toNat_eq (x := a - b) (y := 0) (by simpa using hz)
      bv_omega)
    simp only [hne, h, if_false]

/-- A raise after which the live set has room has joined its pair, or found it there. -/
theorem raiseFault_isLive_of_after (c : FaultCode) (src : Option Nat) {s : State} (hact : s.isActive = true)
    (h : (raiseFault c src s).faults.live.length < 48) : (raiseFault c src s).isLive c src = true := by
  by_cases hroom : s.faults.live.length < 48
  · exact raiseFault_isLive c src hact hroom
  · cases hlive : s.isLive c src with
    | true =>
      rw [raiseFault, if_pos (by rw [hlive, Bool.or_true])]
      exact hlive
    | false =>
      have hraise : (raiseFault c src s).faults.live = s.faults.live := by
        rw [raiseFault, if_neg (by rw [hlive, hact]; decide), if_pos (Nat.not_lt.mp hroom)]
      rw [hraise] at h
      exact absurd h hroom

section
variable {i : Fin 4} {m : PulseMeas} {s : State} {due : Nat}

theorem gateEnd_delivers {r : Stamp} (hm : s.pulses[i].meas = some m) (hgate : m.gateDeadline = some due)
    (hdue : due ≤ s.now) (hcount : m.count ≠ 0) (href : m.reference = some r) : gateEnd i s =
      deliverPulse i .frequency (some (frequencyOf m.count (stampDiff m.lastEdge r))) (putMeas i { m with
        count := 0, reference := some m.lastEdge, result := some (frequencyOf m.count (stampDiff m.lastEdge r)),
        gateDeadline := some (due + 1000 * s.pulses[i].entry.gate) } s) := by
  have hdue' : s.due (some due) = true := decide_eq_true hdue
  simp only [gateEnd, hm, hgate, hdue', if_true, hcount, if_false, PulseMeas.counted, href, Option.map_some]

theorem expireStuck_delivers (hm : s.pulses[i].meas = some m) (hstuck : m.stuckDeadline = some due)
    (hdue : due ≤ s.now) : expireStuck i s = raiseFault .pulseStuck (pulseSource i)
      (deliverPulse i .duty (some (if m.accepted then 10000 else 0))
        (putMeas i { m with reference := none, stuckDeadline := none } s)) := by
  have hdue' : s.due m.stuckDeadline = true := by
    rw [hstuck]
    exact decide_eq_true hdue
  simp only [expireStuck, hm, hdue', if_true]

end

theorem hears_iff {s : State} {k : Fin 240} {i : Fin 4} {q : Quantity} : s.hears k i q = true ↔
    s.descs[k].kind = .pulse ∧ s.descs[k].pulse = i.val ∧ s.descs[k].quantity = q := by
  simp [State.hears, and_assoc]

/-! ### Edges of a DUTY input (R52) -/

/-- What is told does not reach the pulse inputs. -/
theorem Told.withPulses {s t : State} (h : Told s t) (i : Fin 4) (m : PulseMeas) :
    Told (putMeas i m s) (putMeas i m t) := by
  obtain ⟨_, _, _, _, _, _, _, _, _, _, _, rfl, htables, hrecord⟩ := h
  refine ⟨_, _, _, _, _, _, _, _, _, _, _, rfl, ?_, hrecord⟩
  exact congrArg (fun ts : Tables => { ts with
    pulse := (vput s.pulses i { s.pulses[i] with meas := some m }).toArray.toList.map PulseUnit.entry }) htables

section
variable {i : Fin 4} {m : PulseMeas} {start : Nat} {s : State}

/-- The measurement at an accepted edge of a DUTY input, its stuck deadline started anew. -/
def PulseMeas.noted (m : PulseMeas) (e : PulseEntry) (start : Nat) : PulseMeas :=
  { m with accepted := !m.accepted, pending := none, stuckDeadline := some (start + 2 * e.maxPeriod) }

theorem acceptEdge_duty (hmode : s.pulses[i].entry.mode = .duty) (hi : i ≠ 0) : acceptEdge i m start s =
    dutyEdge i { m with accepted := !m.accepted, pending := none } (!m.accepted) start s := by
  rw [acceptEdge, hmode]
  exact if_neg fun hc => hi hc.1

theorem dutyEdge_opposite (h : countsEdge s.pulses[i].entry (!m.accepted) = false) :
    dutyEdge i { m with accepted := !m.accepted, pending := none } (!m.accepted) start s =
      putMeas i { m.noted s.pulses[i].entry start with opposite := some (stampOf start) }
        (clearFault .pulseStuck (pulseSource i) s) := by
  simp only [dutyEdge, h, Bool.false_eq_true, if_false]
  rfl

theorem dutyEdge_first (h : countsEdge s.pulses[i].entry (!m.accepted) = true)
    (hnone : m.reference = none ∨ m.opposite = none) :
    dutyEdge i { m with accepted := !m.accepted, pending := none } (!m.accepted) start s =
      putMeas i { m.noted s.pulses[i].entry start with reference := some (stampOf start) }
        (clearFault .pulseStuck (pulseSource i) s) := by
  simp only [dutyEdge, h, if_true]
  split
  next r o hr ho => simp [hr, ho] at hnone
  next => rfl

theorem dutyEdge_closes {r o : Stamp} (h : countsEdge s.pulses[i].entry (!m.accepted) = true)
    (href : m.reference = some r) (hopp : m.opposite = some o) :
    dutyEdge i { m with accepted := !m.accepted, pending := none } (!m.accepted) start s =
      closePeriod i (dutyTimes s.pulses[i].entry r o (stampOf start)).1
        (dutyTimes s.pulses[i].entry r o (stampOf start)).2
        (putMeas i { m.noted s.pulses[i].entry start with reference := some (stampOf start) }
          (clearFault .pulseStuck (pulseSource i) s)) := by
  simp only [dutyEdge, h, if_true, href, hopp, PulseMeas.noted]

/-- The pulse inputs and the fault after an accepted edge of a DUTY input, before a period is closed. -/
theorem edgeNoted_told (n : PulseMeas) :
    Told (putMeas i n s) (putMeas i n (clearFault .pulseStuck (pulseSource i) s)) :=
  (clearFault_told .pulseStuck (pulseSource i) s).withPulses i n

theorem edgeNoted_isLive (n : PulseMeas) (hact : s.isActive = true) :
    (putMeas i n (clearFault .pulseStuck (pulseSource i) s)).isLive .pulseStuck (some i.val) = false :=
  clearFault_isLive (s := s) .pulseStuck (pulseSource i) hact

/-! ### The end of a period -/

/-- The period lies within the entry's limits. -/
def periodWithin (e : PulseEntry) (period : Nat) : Prop := e.minPeriod ≤ period ∧ period ≤ e.maxPeriod

theorem closePeriod_within {period : Nat} (h : periodWithin s.pulses[i].entry period) (high : Nat) :
    closePeriod i period high s =
      clearFault .pulseRange (pulseSource i) (deliverPulse i .duty (some (dutyOf period high)) s) := if_pos h

theorem closePeriod_beyond {period : Nat} (h : ¬ periodWithin s.pulses[i].entry period) (high : Nat) :
    closePeriod i period high s = raiseFault .pulseRange (pulseSource i) (deliverPulse i .duty none s) := if_neg h

theorem closePeriod_stored (period high : Nat) : Stored s (closePeriod i period high s) :=
  Stored.ite ((deliverPulse_stored i .duty _ s).trans (clearFault_told _ _ _).stored)
    ((deliverPulse_stored i .duty _ s).trans (raiseFault_told _ _ _).stored)

theorem closePeriod_keepsStuck (period high : Nat) (src : Option Nat) :
    (closePeriod i period high s).isLive .pulseStuck src = s.isLive .pulseStuck src := by
  by_cases h : periodWithin s.pulses[i].entry period
  · rw [closePeriod_within h, (clearFault_keeps_self .pulseRange _ _).live _ _ (by simp),
      (deliverPulse_keeps i .duty _ s).live _ _ (by decide)]
  · rw [closePeriod_beyond h, (raiseFault_keeps_self .pulseRange _ _).live _ _ (by simp),
      (deliverPulse_keeps i .duty _ s).live _ _ (by decide)]

theorem closePeriod_range {period : Nat} (hact : s.isActive = true) (high : Nat) :
    (periodWithin s.pulses[i].entry period → (closePeriod i period high s).isLive .pulseRange (some i.val) = false) ∧
    (¬ periodWithin s.pulses[i].entry period → (closePeriod i period high s).faults.live.length < 48 →
      (closePeriod i period high s).isLive .pulseRange (some i.val) = true) := by
  have hact' (r : Option Nat) : (deliverPulse i .duty r s).isActive = true :=
    ((deliverPulse_stored i .duty r s).project (·.isActive) rfl).trans hact
  refine ⟨fun h => ?_, fun h hroom => ?_⟩
  · rw [closePeriod_within h]
    exact clearFault_isLive .pulseRange (pulseSource i) (hact' _)
  · rw [closePeriod_beyond h] at hroom ⊢
    exact raiseFault_isLive_of_after .pulseRange (pulseSource i) (hact' _) hroom

theorem closePeriod_record {k : Fin 240} (h : s.hears k i .duty = true) (period high : Nat) :
    (periodWithin s.pulses[i].entry period → ((closePeriod i period high s).record k).state = .valid ∧
      ((closePeriod i period high s).record k).raw = dutyOf period high ∧
      ((closePeriod i period high s).record k).value = limited s.descs[k] (scaled s.descs[k] (dutyOf period high))) ∧
    (¬ periodWithin s.pulses[i].entry period → ((closePeriod i period high s).record k).state = .senderError ∧
      ((closePeriod i period high s).record k).value = (s.record k).value) := by
  refine ⟨fun hw => ?_, fun hw => ?_⟩
  · rw [closePeriod_within hw, (clearFault_told _ _ _).record]
    exact deliverPulse_value h _
  · rw [closePeriod_beyond hw, (raiseFault_told _ _ _).record]
    exact deliverPulse_error h

theorem dutyTimes_eq (e : PulseEntry) (r o stamp : Stamp) : dutyTimes e r o stamp =
    (stampDiff stamp r, if e.polarity = .rising then stampDiff o r else stampDiff stamp o) := by
  unfold dutyTimes
  cases e.polarity <;> rfl

end

/-- Settles O31. -/
theorem pulseResultsAreDelivered : Obligations.PulseResultsAreDelivered := by
  refine ⟨fun s dt due i m hawake hm => ⟨fun r hgate hdue hcount href => ?_, fun hstuck hdue => ?_⟩,
    fun s dt start i m hawake hi hm hpending hpast hmode => ?_⟩
  · have hstep := gateEnd_delivers (s := s.elapse dt) hm hgate hdue hcount href
    rw [stampDiff_eq] at hstep
    refine ⟨_, (event_of_awake (s.awake_iff.mp hawake).1).trans (congrArg _ hstep),
      (deliverPulse_stored _ _ _ _).project (·.pulses) rfl, fun k hk hi hq => ?_, ?_⟩
    · exact deliverPulse_value (s := putMeas i _ (s.elapse dt)) (hears_iff.mpr ⟨hk, hi, hq⟩) _
    · rw [(deliverPulse_stored _ _ _ _).project (·.pulses) rfl]
      exact deliverPulse_stored _ _ _ (putMeas i _ (s.elapse dt))
  · obtain ⟨hreset, hact⟩ := s.awake_iff.mp hawake
    have hstep := expireStuck_delivers (s := s.elapse dt) hm hstuck hdue
    generalize hv : deliverPulse i .duty (some (if m.accepted then 10000 else 0))
      (putMeas i { m with reference := none, stuckDeadline := none } (s.elapse dt)) = v at hstep
    have hstored : Stored (putMeas i { m with reference := none, stuckDeadline := none } (s.elapse dt)) v :=
      hv ▸ deliverPulse_stored _ _ _ _
    have hraise := hstored.trans (raiseFault_told .pulseStuck (pulseSource i) v).stored
    refine ⟨_, (event_of_awake hreset).trans (congrArg _ hstep), hraise.project (·.pulses) rfl, fun hroom =>
      raiseFault_isLive_of_after _ _ ((hstored.project (·.isActive) rfl).trans hact) hroom, fun k hk hi hq => ?_, ?_⟩
    · rw [(raiseFault_told _ _ _).record, ← hv]
      have hvalue := deliverPulse_value (s := putMeas i { m with reference := none, stuckDeadline := none } (s.elapse dt))
        (hears_iff.mpr ⟨hk, hi, hq⟩) (if m.accepted then 10000 else 0)
      refine ⟨hvalue.1, hvalue.2.1.trans ?_⟩
      split <;> rfl
    · rw [hraise.project (·.pulses) rfl]
      exact hraise
  · obtain ⟨hreset, hact⟩ := s.awake_iff.mp hawake
    have hexec : exec (.noiseRejectionEnd dt i) s = .next (dutyEdge i { m with accepted := !m.accepted, pending := none }
        (!m.accepted) start (s.elapse dt)) :=
      (event_of_awake hreset).trans (congrArg _ ((noiseEnd_accepts (s := s.elapse dt) hm hpending hpast).trans
        (acceptEdge_duty (s := s.elapse dt) hmode hi)))
    refine ⟨fun h => ?_, fun h hnone => ?_, fun r o h href hopp => ?_⟩
    · exact ⟨_, hexec.trans (congrArg _ (dutyEdge_opposite (s := s.elapse dt) h)), edgeNoted_isLive _ hact, edgeNoted_told _⟩
    · exact ⟨_, hexec.trans (congrArg _ (dutyEdge_first (s := s.elapse dt) h hnone)), edgeNoted_isLive _ hact,
        edgeNoted_told _⟩
    · intro span period high duty
      have hstep := dutyEdge_closes (start := start) (s := s.elapse dt) h href hopp
      rw [dutyTimes_eq, stampDiff_eq, stampDiff_eq, stampDiff_eq] at hstep
      have hclose : dutyEdge i { m with accepted := !m.accepted, pending := none } (!m.accepted) start (s.elapse dt) =
          closePeriod i period high (putMeas i
            { m.noted s.pulses[i].entry start with reference := some (stampOf start) }
            (clearFault .pulseStuck (pulseSource i) (s.elapse dt))) := hstep
      have htold := edgeNoted_told (i := i) (s := s.elapse dt)
        { m.noted s.pulses[i].entry start with reference := some (stampOf start) }
      have hstuck := edgeNoted_isLive (i := i) (s := s.elapse dt)
        { m.noted s.pulses[i].entry start with reference := some (stampOf start) } hact
      generalize putMeas i { m.noted s.pulses[i].entry start with reference := some (stampOf start) }
        (clearFault .pulseStuck (pulseSource i) (s.elapse dt)) = v at htold hstuck hclose
      have hpulses : v.pulses = vput s.pulses i { s.pulses[i] with
          meas := some { m.noted s.pulses[i].entry start with reference := some (stampOf start) } } :=
        htold.project (·.pulses) rfl
      have hentry : v.pulses[i].entry = s.pulses[i].entry := by rw [hpulses, vput_same]
      have hact' : v.isActive = true := (htold.project (·.isActive) rfl).trans hact
      have hdescs : v.descs = s.descs := htold.project (·.descs) rfl
      have hstored := htold.stored.trans (closePeriod_stored (i := i) (s := v) period high)
      have hrange := closePeriod_range (i := i) (s := v) (period := period) hact' high
      rw [hentry] at hrange
      refine ⟨_, hexec.trans (congrArg _ hclose), hstored.project (·.pulses) rfl,
        (closePeriod_keepsStuck _ _ _).trans hstuck, hrange.1, hrange.2, fun k hk hki hq => ?_, ?_⟩
      · have hrecord := closePeriod_record (s := v) (i := i) (k := k)
          (hears_iff.mpr (by rw [hdescs]; exact ⟨hk, hki, hq⟩)) period high
        rw [hentry, hdescs, htold.record k] at hrecord
        split
        next h => exact hrecord.1 h
        next h => exact hrecord.2 h
      · rw [hstored.project (·.pulses) rfl]
        exact hstored

end Sys2Proof.Machine
end

section
/-! PROOFS. The speed unit: selection with its faults, the mismatch timer and STANDSTILL (R56 to R59), the host's write
of a speed slot, and the distance tick (R62, R63). -/

namespace Sys2Proof.Machine

/-! ### What a change of VEHICLE_SPEED reaches -/

/-- As `Tell`, and the doors with what they derive. -/
def Derived (s t : State) : Prop :=
  ∃ sl g c tt ch o l f a d dp sb,
    t = { s with slots := sl, gauges := g, conds := c, telltales := tt, chime := ch, outputs := o, lamps := l,
                 flags := f, attn := a, doors := d, drivePermit := dp, stopBrake := sb }

namespace Derived

theorem project {α : Type} {s t : State} (h : Derived s t) (f : State → α)
    (hf : (fun sl g c tt ch o l fl a d dp sb =>
      f { s with slots := sl, gauges := g, conds := c, telltales := tt, chime := ch, outputs := o, lamps := l,
                 flags := fl, attn := a, doors := d, drivePermit := dp, stopBrake := sb }) =
      fun _ _ _ _ _ _ _ _ _ _ _ _ => f s) : f t = f s := by
  obtain ⟨_, _, _, _, _, _, _, _, _, _, _, _, rfl⟩ := h
  simp only [funext_iff] at hf
  exact hf _ _ _ _ _ _ _ _ _ _ _ _

theorem refl (s : State) : Derived s s := ⟨_, _, _, _, _, _, _, _, _, _, _, _, rfl⟩

theorem trans {a b c : State} (h : Derived a b) (h' : Derived b c) : Derived a c := by
  obtain ⟨_, _, _, _, _, _, _, _, _, _, _, _, rfl⟩ := h
  obtain ⟨_, _, _, _, _, _, _, _, _, _, _, _, rfl⟩ := h'
  exact ⟨_, _, _, _, _, _, _, _, _, _, _, _, rfl⟩

theorem ite {p : Prop} [Decidable p] {s a b : State} (ha : Derived s a) (hb : Derived s b) :
    Derived s (if p then a else b) := by
  split
  · exact ha
  · exact hb

theorem each {n : Nat} {f : Fin n → State → State} (h : ∀ i s, Derived s (f i s)) (s : State) :
    Derived s (Sys2Proof.each n f s) := each_rel Derived refl trans f h s

end Derived

theorem Tell.derived {s t : State} (h : Tell s t) : Derived s t := by
  obtain ⟨_, _, _, _, _, _, _, _, _, rfl, -, -⟩ := h
  exact ⟨_, _, _, _, _, _, _, _, _, _, _, _, rfl⟩

theorem putDoor_derived (d : Fin 4) (u : DoorUnit) (s : State) : Derived s (putDoor d u s) :=
  ⟨_, _, _, _, _, _, _, _, _, _, _, _, rfl⟩

theorem interlock_derived {s : State} (dp sb : Bool) : Derived s { s with drivePermit := dp, stopBrake := sb } :=
  ⟨_, _, _, _, _, _, _, _, _, _, _, _, rfl⟩

theorem decideBrake_derived (s : State) : Derived s (decideBrake s) :=
  (interlock_derived s.drivePermit s.brakeWanted).trans (redrive_tell _).derived

theorem decidePermit_derived (s : State) : Derived s (decidePermit s) :=
  ((interlock_derived s.permit s.brakeWanted).trans (publish_tell (by decide) _ _).derived).trans (redrive_tell _).derived

theorem publishDoors_derived (s : State) : Derived s (publishDoors s) :=
  (publish_tell (by decide) _ s).derived.trans (decidePermit_derived _)

theorem setFields_derived (d : Fin 4) (r o : Bool) (s : State) : Derived s (setFields d r o s) :=
  Derived.ite (Derived.refl s) ((putDoor_derived d _ s).trans (publishDoors_derived _))

theorem tellDoorsSpeed_derived (s : State) : Derived s (tellDoorsSpeed s) :=
  Derived.ite ((Derived.each (fun _ _ => Derived.ite (Derived.refl _) (setFields_derived _ _ _ _)) s).trans
    (decideBrake_derived _)) (Derived.refl s)

theorem writeSpeed_derived (v : Int) (st : SlotState) (s : State) : Derived s (writeSpeed v st s) :=
  Derived.ite (Derived.refl s) ((writeInternal_tell (by decide) _ _ s).derived.trans (tellDoorsSpeed_derived _))

theorem writeSource_tell (n : Nat) (s : State) : Tell s (writeSource n s) :=
  (publish_tell (by decide) n s).trans (setFlagIf_tell _ _ _)

/-! ### Readings (R56) -/

theorem limitSpeed_cast (v : Int) : (limitSpeed v : Int) = if v < 0 then 0 else if 30000 < v then 30000 else v := by
  simp only [limitSpeed, Nat.min_def]
  split_ifs <;> omega

theorem speedReading_usable {k : Nat} {s : State} (h : (s.slot k).state.usable = true) :
    s.speedReading (some k) = some (limitSpeed (s.slot k).value) := by
  rw [State.speedReading, if_pos h]

theorem speedReading_unusable {k : Nat} {s : State} (h : (s.slot k).state.usable = false) :
    s.speedReading (some k) = none := by
  rw [State.speedReading, h]
  rfl

/-! ### VEHICLE_SPEED and SPEED_SOURCE -/

theorem writeSpeed_slot (v : Int) (st : SlotState) (s : State) :
    (writeSpeed v st s).slots[slotVehicleSpeed].value = v ∧ (writeSpeed v st s).slots[slotVehicleSpeed].state = st := by
  unfold writeSpeed
  dsimp only
  split
  next h => exact h
  next h =>
    have hkeeps := tellDoorsSpeed_keeps (ks := [slotAnyDoorOpen, slotDrivePermit]) (cs := [])
      (writeInternal slotVehicleSpeed v st s) (by simp) (by simp)
    rw [hkeeps.slots _ (by decide)]
    exact ⟨writeInternal_value _ _ _ _, writeInternal_state _ _ _ _⟩

theorem setFlagIf_slots (b : Bool) (f : Attention) (s : State) : (setFlagIf b f s).slots = s.slots := by
  unfold setFlagIf
  split <;> rfl

/-- The first two steps of a selection: VEHICLE_SPEED and SPEED_SOURCE. -/
def speedSelected (p f : Option Nat) (s : State) : State := writeSource (speedSource p f) (selectSpeed p f s)

section
variable (p f : Option Nat) (s : State)

theorem speedSelected_derived : Derived s (speedSelected p f s) := by
  have hselect : Derived s (selectSpeed p f s) := by
    unfold selectSpeed
    split <;> exact writeSpeed_derived _ _ s
  exact hselect.trans (writeSource_tell _ _).derived

theorem speedSelected_source : (speedSelected p f s).slots[slotSpeedSource].value = speedSource p f := by
  have hflag : (speedSelected p f s).slots = (publish slotSpeedSource (speedSource p f) (selectSpeed p f s)).slots :=
    setFlagIf_slots _ _ _
  rw [hflag]
  exact publish_value _ _ _

theorem speedSelected_speed : (speedSelected p f s).slots[slotVehicleSpeed] =
    (selectSpeed p f s).slots[slotVehicleSpeed] :=
  (writeSource_keeps (cs := []) _ _).slots _ (by decide)

variable {p f}

theorem speedSelected_reading {v : Nat} (h : p = some v ∨ p = none ∧ f = some v) :
    (speedSelected p f s).slots[slotVehicleSpeed].value = v ∧
      (speedSelected p f s).slots[slotVehicleSpeed].state = .valid := by
  rw [speedSelected_speed]
  obtain rfl | ⟨rfl, rfl⟩ := h
  · exact writeSpeed_slot _ _ s
  · exact writeSpeed_slot _ _ s

theorem speedSelected_held (hp : p = none) (hf : f = none) :
    (speedSelected p f s).slots[slotVehicleSpeed].value = s.slots[slotVehicleSpeed].value ∧
      (speedSelected p f s).slots[slotVehicleSpeed].state = .stale := by
  rw [speedSelected_speed, hp, hf]
  exact writeSpeed_slot _ _ s

end

/-! ### The faults of a selection (R57, R58) -/

section
variable {s : State} (hact : s.isActive = true)
include hact

theorem setFault_isLive_false (c : FaultCode) (src : Option Nat) : (setFault false c src s).isLive c src = false :=
  clearFault_isLive c src hact

theorem setFault_isLive_true (c : FaultCode) (src : Option Nat) (hroom : s.faults.live.length < 48) :
    (setFault true c src s).isLive c src = true := raiseFault_isLive c src hact hroom

end

theorem setFault_keeps_self (b : Bool) (c : FaultCode) (src : Option Nat) (s : State) :
    Keeps [slotActiveFaults] [c] s (setFault b c src s) :=
  setFault_keeps b src s (List.mem_singleton_self _) (List.mem_singleton_self _)

section
variable {s : State} (hact : s.isActive = true)
include hact

theorem speedFaults_primaryLost (n : Nat) : (n ≠ 1 → (speedFaults n s).isLive .speedPrimaryLost none = false) ∧
    (n = 1 → s.faults.live.length < 48 → (speedFaults n s).isLive .speedPrimaryLost none = true) := by
  unfold speedFaults
  rw [(setFault_keeps_self _ .speedLost none _).live _ _ (by simp)]
  refine ⟨fun hn => ?_, fun hn hroom => ?_⟩
  · rw [decide_eq_false hn]
    exact setFault_isLive_false hact _ _
  · rw [decide_eq_true hn]
    exact setFault_isLive_true hact _ _ hroom

theorem speedFaults_lost (n : Nat) :
    (n ≠ 2 ∨ s.speed.entry.primary = none → (speedFaults n s).isLive .speedLost none = false) ∧
    (n = 2 → s.speed.entry.primary.isSome = true → s.faults.live.length < 48 →
      (speedFaults n s).isLive .speedLost none = true) := by
  have hact' : (setFault (n = 1) .speedPrimaryLost none s).isActive = true :=
    ((setFault_told _ _ _ s).project (·.isActive) rfl).trans hact
  unfold speedFaults
  refine ⟨fun h => ?_, fun hn hp hroom => ?_⟩
  · have hoff : (decide (n = 2) && s.speed.entry.primary.isSome) = false := by
      obtain hn | hp := h
      · rw [decide_eq_false hn, Bool.false_and]
      · rw [hp, Option.isSome_none, Bool.and_false]
    rw [hoff]
    exact setFault_isLive_false hact' _ _
  · have hon : (decide (n = 2) && s.speed.entry.primary.isSome) = true := by rw [hn, hp]; rfl
    have hclear : setFault (n = 1) .speedPrimaryLost none s = clearFault .speedPrimaryLost none s := by
      rw [hn]
      rfl
    rw [hon]
    refine setFault_isLive_true hact' _ _ ?_
    rw [hclear]
    exact Nat.lt_of_le_of_lt (clearFault_length _ _ _) hroom

end

theorem speedFaults_told (n : Nat) (s : State) : Told s (speedFaults n s) :=
  (setFault_told _ _ _ s).trans (setFault_told _ _ _ _)

/-- Both readings stand, further apart than both limits (R58). -/
theorem speedsMismatch_iff {e : SpeedEntry} {p f : Option Nat} : speedsMismatch e p f = true ↔
    ∃ a b, p = some a ∧ f = some b ∧ e.mismatchLimit < distance a b ∧ a * e.mismatchPercent < 100 * distance a b := by
  unfold speedsMismatch
  split
  next a b => simp
  next h =>
    refine ⟨fun hf => absurd hf (by decide), fun ⟨a, b, hp, hf, _⟩ => absurd ?_ (h a b hp)⟩
    exact hf

section
variable {p f : Option Nat} {s : State}

theorem mismatchTest_apart (h : speedsMismatch s.speed.entry p f = true) :
    ((s.speed.mismatch.isSome = true ∨ s.isLive .speedMismatch none = true) → mismatchTest p f s = s) ∧
    (s.speed.mismatch = none → s.isLive .speedMismatch none = false → s.speed.entry.mismatchTime ≠ 0 →
      mismatchTest p f s = putMismatch (some (s.after s.speed.entry.mismatchTime)) s) := by
  rw [mismatchTest, if_pos h]
  refine ⟨fun hrun => if_pos ?_, fun hnone hlive hzero => ?_⟩
  · rw [Bool.or_eq_true]
    exact hrun
  · rw [hnone, hlive]
    exact if_neg hzero

theorem mismatchTest_near (h : speedsMismatch s.speed.entry p f = false) :
    mismatchTest p f s = clearFault .speedMismatch none (putMismatch none s) := by
  rw [mismatchTest, h]
  rfl

end

/-! ### STANDSTILL (R59) -/

theorem endTest_speed (s : State) : (endTest s).speed = s.speed := by
  unfold endTest
  split
  · rfl
  · exact ((setSweep_tell _ _ _).trans ((setFlag_tell _ _).trans (redrive_tell _))).speed

theorem tellTest_speed (s : State) : (tellTest s).speed = s.speed := by
  unfold tellTest
  split
  · rfl
  · exact endTest_speed s

theorem writeStandstill_speed (b : Bool) (s : State) : (writeStandstill b s).speed = s.speed := by
  unfold writeStandstill
  split
  · rfl
  · rw [tellTest_speed]
    exact (publish_tell (by decide) _ s).speed

theorem writeStandstill_value (b : Bool) (s : State) : (writeStandstill b s).slots[slotStandstill].value = (bit b : Nat) := by
  unfold writeStandstill
  split
  next h => exact h
  next h =>
    rw [(tellTest_keeps (ks := []) (cs := []) _).slots _ (by simp)]
    exact publish_value _ _ _

/-! ### A selection (R56 to R59) -/

/-- A selection but for its last step. -/
def speedJudged (p f : Option Nat) (s : State) : State :=
  mismatchTest p f (speedFaults (speedSource p f) (speedSelected p f s))

theorem select_eq {s : State} (h : 2 ≤ s.stage) : select s =
    let p := s.speedReading s.speed.entry.primary
    let f := s.speedReading s.speed.entry.fallback
    writeStandstill (speedJudged p f s).standstillNow (speedJudged p f s) := if_pos h

section
variable (p f : Option Nat) (s : State)

/-- The slots and the live set after the speed faults, and after the whole selection. -/
theorem speedJudged_keeps : Keeps [slotActiveFaults] [.speedMismatch]
    (speedFaults (speedSource p f) (speedSelected p f s)) (speedJudged p f s) := mismatchTest_keeps p f _

theorem speedJudged_slot {k : Fin 256} (h : k ≠ slotActiveFaults) :
    (speedJudged p f s).slots[k] = (speedSelected p f s).slots[k] := by
  rw [(speedJudged_keeps p f s).slots k (by simpa using h), (speedFaults_keeps _ _).slots k (by simpa using h)]

theorem speedJudged_entry : (speedJudged p f s).speed.entry = s.speed.entry := by
  have htables := ((speedFaults_told (speedSource p f) (speedSelected p f s)).moved.trans (mismatchTest_moved p f _)).tables
  exact (congrArg Tables.speed htables).trans ((speedSelected_derived p f s).project (·.speed.entry) rfl)

/-- The state after the speed faults: the speed unit, ACTIVE and the live set of the selection's beginning. -/
theorem speedFaults_selected : (speedFaults (speedSource p f) (speedSelected p f s)).speed = s.speed :=
  ((speedFaults_told _ _).project (·.speed) rfl).trans ((speedSelected_derived p f s).project (·.speed) rfl)

end

section
variable {s : State} {k : Fin 256} (hstage : 2 ≤ s.stage)
include hstage

/-- What a selection keeps from the state before its last step. -/
theorem select_slot (h : k ≠ slotStandstill) : (select s).slots[k] =
    (speedJudged (s.speedReading s.speed.entry.primary) (s.speedReading s.speed.entry.fallback) s).slots[k] := by
  rw [select_eq hstage]
  exact (writeStandstill_keeps (cs := []) _ _).slots k (by simpa using h)

theorem select_isLive (c : FaultCode) : (select s).isLive c none =
    (speedJudged (s.speedReading s.speed.entry.primary) (s.speedReading s.speed.entry.fallback) s).isLive c none := by
  rw [select_eq hstage]
  exact (writeStandstill_keeps (cs := []) _ _).live c none (by simp)

theorem select_speed : (select s).speed =
    (speedJudged (s.speedReading s.speed.entry.primary) (s.speedReading s.speed.entry.fallback) s).speed := by
  rw [select_eq hstage]
  exact writeStandstill_speed _ _

theorem select_standstill : (select s).slots[slotStandstill].value =
    (bit (speedJudged (s.speedReading s.speed.entry.primary) (s.speedReading s.speed.entry.fallback) s).standstillNow : Nat) := by
  rw [select_eq hstage]
  exact writeStandstill_value _ _

end

section
variable {s : State} (hstage : 2 ≤ s.stage)
include hstage

/-- VEHICLE_SPEED and SPEED_SOURCE after a selection that has a reading. -/
theorem select_reading {v : Nat} (h : s.speedReading s.speed.entry.primary = some v ∨
    s.speedReading s.speed.entry.primary = none ∧ s.speedReading s.speed.entry.fallback = some v) :
    (select s).slots[slotVehicleSpeed].value = v ∧ (select s).slots[slotVehicleSpeed].state = .valid ∧
      (select s).slots[slotSpeedSource].value = if (s.speedReading s.speed.entry.primary).isSome then 0 else 1 := by
  obtain ⟨hvalue, hstate⟩ := speedSelected_reading s h
  rw [select_slot hstage (by decide), select_slot hstage (by decide), speedJudged_slot _ _ _ (by decide),
    speedJudged_slot _ _ _ (by decide), speedSelected_source]
  refine ⟨hvalue, hstate, ?_⟩
  obtain h | ⟨h, h'⟩ := h
  · rw [h]
    rfl
  · rw [h, h']
    rfl

theorem select_held (hp : s.speedReading s.speed.entry.primary = none)
    (hf : s.speedReading s.speed.entry.fallback = none) :
    (select s).slots[slotVehicleSpeed].value = s.slots[slotVehicleSpeed].value ∧
      (select s).slots[slotVehicleSpeed].state = .stale ∧ (select s).slots[slotSpeedSource].value = 2 := by
  obtain ⟨hvalue, hstate⟩ := speedSelected_held s hp hf
  rw [select_slot hstage (by decide), select_slot hstage (by decide), speedJudged_slot _ _ _ (by decide),
    speedJudged_slot _ _ _ (by decide), speedSelected_source]
  rw [hp, hf] at hvalue hstate ⊢
  exact ⟨hvalue, hstate, rfl⟩

/-- STANDSTILL after a selection is 1 while the speed is VALID and below the threshold (R59). -/
theorem select_standstillNow : (select s).slots[slotStandstill].value =
    if (select s).slots[slotVehicleSpeed].state = .valid ∧
      (select s).slots[slotVehicleSpeed].value < s.speed.entry.standstill then 1 else 0 := by
  rw [select_standstill hstage, select_slot hstage (by decide), State.standstillNow, speedJudged_entry]
  simp only [bit, Bool.and_eq_true, decide_eq_true_eq]
  split <;> rfl

end

section
variable {s : State} (hact : s.isActive = true) (hstage : 2 ≤ s.stage)
include hact hstage

/-- The faults of a selection follow its source (R57). -/
theorem select_faults : let n := speedSource (s.speedReading s.speed.entry.primary) (s.speedReading s.speed.entry.fallback)
    (n ≠ 1 → (select s).isLive .speedPrimaryLost none = false) ∧
    (n = 1 → s.hasRoom = true → (select s).isLive .speedPrimaryLost none = true) ∧
    (n ≠ 2 ∨ s.speed.entry.primary = none → (select s).isLive .speedLost none = false) ∧
    (n = 2 → s.speed.entry.primary.isSome = true → s.hasRoom = true → (select s).isLive .speedLost none = true) := by
  intro n
  have hselected := speedSelected_derived (s.speedReading s.speed.entry.primary)
    (s.speedReading s.speed.entry.fallback) s
  have hact' := (hselected.project (·.isActive) rfl).trans hact
  obtain ⟨hprimary, hprimaryOn⟩ := speedFaults_primaryLost hact' n
  obtain ⟨hlost, hlostOn⟩ := speedFaults_lost hact' n
  rw [hselected.project (·.faults) rfl] at hprimaryOn hlostOn
  rw [hselected.project (·.speed) rfl] at hlost hlostOn
  rw [select_isLive hstage, select_isLive hstage, (speedJudged_keeps _ _ s).live _ _ (by simp),
    (speedJudged_keeps _ _ s).live _ _ (by simp)]
  exact ⟨hprimary, fun hn hroom => hprimaryOn hn (of_decide_eq_true hroom), hlost,
    fun hn hp hroom => hlostOn hn hp (of_decide_eq_true hroom)⟩

theorem select_near (h : speedsMismatch s.speed.entry (s.speedReading s.speed.entry.primary)
    (s.speedReading s.speed.entry.fallback) = false) :
    (select s).speed.mismatch = none ∧ (select s).isLive .speedMismatch none = false := by
  have hfaults := speedFaults_selected (s.speedReading s.speed.entry.primary) (s.speedReading s.speed.entry.fallback) s
  have hact' := (((speedSelected_derived (s.speedReading s.speed.entry.primary)
    (s.speedReading s.speed.entry.fallback) s).project (·.isActive) rfl).trans hact)
  rw [select_isLive hstage, select_speed hstage, speedJudged, mismatchTest_near (by rw [hfaults]; exact h)]
  refine ⟨(clearFault_told _ _ _).project (·.speed.mismatch) rfl, clearFault_isLive _ _ ?_⟩
  exact ((speedFaults_told _ _).project (·.isActive) rfl).trans hact'

end

section
variable {s : State} (hstage : 2 ≤ s.stage)
include hstage

theorem select_apart (h : speedsMismatch s.speed.entry (s.speedReading s.speed.entry.primary)
    (s.speedReading s.speed.entry.fallback) = true) :
    ((s.speed.mismatch.isSome = true ∨ s.isLive .speedMismatch none = true) →
      (select s).speed.mismatch = s.speed.mismatch) ∧
    (s.speed.mismatch = none → s.isLive .speedMismatch none = false → s.speed.entry.mismatchTime ≠ 0 →
      (select s).speed.mismatch = some (s.after s.speed.entry.mismatchTime)) := by
  have hselected := speedSelected_derived (s.speedReading s.speed.entry.primary) (s.speedReading s.speed.entry.fallback) s
  have hfaults := speedFaults_selected (s.speedReading s.speed.entry.primary) (s.speedReading s.speed.entry.fallback) s
  have hlive := ((speedFaults_keeps (speedSource (s.speedReading s.speed.entry.primary)
    (s.speedReading s.speed.entry.fallback)) _).live .speedMismatch none (by simp)).trans
    (hselected.project (·.isLive .speedMismatch none) rfl)
  have htold := speedFaults_told (speedSource (s.speedReading s.speed.entry.primary)
    (s.speedReading s.speed.entry.fallback)) (speedSelected (s.speedReading s.speed.entry.primary)
    (s.speedReading s.speed.entry.fallback) s)
  have hnow := (htold.project (fun t => t.after s.speed.entry.mismatchTime) rfl).trans
    (hselected.project (fun t => t.after s.speed.entry.mismatchTime) rfl)
  obtain ⟨hrun, hstart⟩ := mismatchTest_apart (by rw [hfaults]; exact h)
  rw [hfaults, hlive] at hrun hstart
  rw [select_speed hstage, speedJudged]
  refine ⟨fun hr => ?_, fun hnone hl hz => ?_⟩
  · rw [hrun hr, hfaults]
  · rw [hstart hnone hl hz, hnow]
    rfl

end

theorem mismatch_iff {s : State} {p f : Option Nat} : speedsMismatch s.speed.entry p f = false ↔
    ¬ ∃ a b : Nat, p = some a ∧ f = some b ∧
      (s.speed.entry.mismatchLimit < distance a b ∧ a * s.speed.entry.mismatchPercent < 100 * distance a b) := by
  rw [← speedsMismatch_iff, Bool.not_eq_true]

/-! ### A selection made by the host's write of the primary slot -/

theorem slot_of_lt {s : State} (k : Fin 256) : s.slot k.val = s.slots[k] := by
  simp [State.slot, vget?]

theorem tellConsumers_slot {k j : Fin 256} (s : State) (h : j ≠ slotAnyDoorOpen) (h' : j ≠ slotDrivePermit) :
    (tellConsumers k s).slots[j] = (tellSpeed k (tellConditions k (tellGauges k s))).slots[j] := by
  have hbrake : ∀ a : State, (tellDoorsBrake k a).slots[j] = a.slots[j] := fun a =>
    (tellDoorsBrake_keeps (ks := [slotAnyDoorOpen, slotDrivePermit]) (cs := []) k a (by simp) (by simp)).slots j
      (by simp [h, h'])
  unfold tellConsumers
  dsimp only
  split
  · rw [(tellTest_keeps (ks := []) (cs := []) _).slots j (by simp), hbrake]
  · rw [hbrake]

/-- The primary slot becomes VALID with another value or from another state: the speed follows. -/
theorem changeSlot_primary {k : Fin 240} {w : Int} {s : State} (hstage : 2 ≤ s.stage)
    (hprimary : s.speed.entry.primary = some k.val) (hchange : ¬((s.record k).value = w ∧ (s.record k).state = .valid)) :
    (changeSlot k w .valid s).slots[slotVehicleSpeed].value = (if w < 0 then 0 else if 30000 < w then 30000 else w) ∧
      (changeSlot k w .valid s).slots[slotVehicleSpeed].state = .valid ∧
      (changeSlot k w .valid s).slots[slotSpeedSource].value = 0 := by
  have hstep : changeSlot k w .valid s = tellConsumers (configSlot k)
      (putRec k { s.record k with value := w, state := .valid, lastChange := s.msNow } s) := if_neg hchange
  have hput : (putRec k { s.record k with value := w, state := .valid, lastChange := s.msNow } s).record k =
      { s.record k with value := w, state := .valid, lastChange := s.msNow } := putRec_same _ _
  have hspeed : (putRec k { s.record k with value := w, state := .valid, lastChange := s.msNow } s).speed = s.speed ∧
      (putRec k { s.record k with value := w, state := .valid, lastChange := s.msNow } s).stage = s.stage := ⟨rfl, rfl⟩
  generalize putRec k { s.record k with value := w, state := .valid, lastChange := s.msNow } s = x at hstep hput hspeed
  have htell := (tellGauges_tell (configSlot k) x).trans (tellConditions_tell (configSlot k) _)
  have hslots : (tellConditions (configSlot k) (tellGauges (configSlot k) x)).slots = x.slots := by
    rw [tellConditions_slots, tellGauges_slots]
  generalize hy : tellConditions (configSlot k) (tellGauges (configSlot k) x) = y at htell hslots
  have hspeed' : y.speed = s.speed := htell.speed.trans hspeed.1
  have hstage' : 2 ≤ y.stage := by rw [htell.stage, hspeed.2]; exact hstage
  have hslot : y.slot k.val = { s.record k with value := w, state := .valid, lastChange := s.msNow } := by
    rw [← hput, State.record, ← hslots]
    exact slot_of_lt (configSlot k)
  have hreading : y.speedReading y.speed.entry.primary = some (limitSpeed w) := by
    rw [hspeed', hprimary, speedReading_usable (by rw [hslot]; rfl), hslot]
  have hselect : tellSpeed (configSlot k) y = select y := if_pos (.inl (by rw [hspeed']; exact hprimary))
  obtain ⟨hvalue, hstate, hsource⟩ := select_reading hstage' (.inl hreading)
  rw [hreading, Option.isSome_some, if_pos rfl] at hsource
  rw [hstep, tellConsumers_slot _ (by decide) (by decide), tellConsumers_slot _ (by decide) (by decide), hy, hselect]
  exact ⟨hvalue.trans (limitSpeed_cast w), hstate, hsource⟩

/-! ### The mismatch timer and the distance tick (R58, R62) -/

theorem expireMismatch_due {s : State} {due : Nat} (h : s.speed.mismatch = some due) (hdue : due ≤ s.now) :
    expireMismatch s = raiseFault .speedMismatch none (putMismatch none s) :=
  if_pos (by rw [h]; exact decide_eq_true hdue)

theorem distanceTick_valid {s : State} {due : Nat} (h : s.speed.tick = some due) (hdue : due ≤ s.now)
    (hvalid : s.slots[slotVehicleSpeed].state = .valid) : distanceTick s =
      times ((s.speed.speedResidue + s.slots[slotVehicleSpeed].value.toNat) / 3600) addMetre
        { s with speed := { s.speed with
          speedResidue := (s.speed.speedResidue + s.slots[slotVehicleSpeed].value.toNat) % 3600,
          tick := some (due + 100000) } } := by
  have hdue' : s.due (some due) = true := decide_eq_true hdue
  simp only [distanceTick, h, hdue', hvalid, if_true, Option.map_some]

/-- Settles O32. -/
theorem speedTimersExpire : Obligations.SpeedTimersExpire := by
  refine ⟨fun s k => ⟨rfl, speedReading_unusable, fun h => ⟨_, speedReading_usable h, limitSpeed_cast _⟩⟩,
    fun s hact hstage => ?_, fun s dt tag k v hs hm hsettled hk hprimary hchange => ?_,
    fun s dt due hawake hdue => ⟨fun h => ?_, fun v htick hvalid hvalue hroom => ?_⟩⟩
  · obtain ⟨hprimary, hprimaryOn, hlost, hlostOn⟩ := select_faults hact hstage
    refine ⟨select_moved s, fun v h => ?_, fun hp hf => ?_, fun h => select_near hact hstage (mismatch_iff.mpr h),
      fun a b hp hf h => ?_⟩
    · obtain ⟨hvalue, hstate, hsource⟩ := select_reading hstage h
      have hn2 : speedSource (s.speedReading s.speed.entry.primary) (s.speedReading s.speed.entry.fallback) ≠ 2 := by
        obtain h | ⟨h, h'⟩ := h
        · rw [h]
          exact (by decide : (0 : Nat) ≠ 2)
        · rw [h, h']
          exact (by decide : (1 : Nat) ≠ 2)
      refine ⟨hvalue, hstate, hsource, ?_, hlost (.inl hn2), fun hsome => hprimary ?_, fun hnone hroom => hprimaryOn ?_ hroom⟩
      · rw [select_standstillNow hstage, hvalue, hstate]
        simp
      · obtain ⟨w, hw⟩ := Option.isSome_iff_exists.mp hsome
        rw [hw]
        exact (by decide : (0 : Nat) ≠ 1)
      · obtain h | ⟨h, h'⟩ := h
        · rw [h] at hnone
          exact absurd hnone (Option.some_ne_none v)
        · rw [h, h']
          rfl
    · obtain ⟨hvalue, hstate, hsource⟩ := select_held hstage hp hf
      have hn : speedSource (s.speedReading s.speed.entry.primary) (s.speedReading s.speed.entry.fallback) = 2 := by
        rw [hp, hf]
        rfl
      refine ⟨hvalue, hstate, hsource, ?_, hprimary (by rw [hn]; decide), fun h => hlost (.inr h),
        fun h hroom => hlostOn hn h hroom⟩
      rw [select_standstillNow hstage, hstate]
      simp
    · exact select_apart hstage (speedsMismatch_iff.mpr ⟨a, b, hp, hf, h⟩)
  · obtain ⟨hreset, hact, -⟩ := s.serving_iff.mp hs
    have hstage : 2 ≤ s.stage := by
      have hsix : s.stage = 6 := by
        rw [of_decide_eq_true hsettled, State.isRun, hm, hact]
        rfl
      omega
    have hlimited : Stored (s.noted dt) (recordLimited k v v (s.noted dt)) := recordLimited_stored k v v _
    have hchange' : ¬(((recordLimited k v v (s.noted dt)).record k).value = limited s.descs[k] v ∧
        ((recordLimited k v v (s.noted dt)).record k).state = .valid) := by
      rw [recordLimited_same]
      exact hchange
    obtain ⟨hvalue, hstate, hsource⟩ := changeSlot_primary (s := recordLimited k v v (s.noted dt))
      (by rw [hlimited.project (·.stage) rfl]; exact hstage)
      ((congrArg (·.primary) (congrArg Tables.speed hlimited.tables)).trans hprimary) hchange'
    have hslots : ∀ j, j ≠ slotActiveFaults → (signalWritten k v (s.noted dt)).slots[j] =
        (changeSlot k (limited s.descs[k] v) .valid (recordLimited k v v (s.noted dt))).slots[j] := fun j hj => by
      rw [signalWritten, startPanelDeadline_slots, (clearFault_keeps_self _ _ _).slots j (by simpa using hj)]
      rfl
    refine ⟨_, exec_served rfl rfl hs (serveSignalWrite_panel (s := s.noted dt) v hm k hk), ?_, ?_, ?_,
      signalWritten_stored k v _⟩
    · rw [hslots _ (by decide)]
      exact hvalue
    · rw [hslots _ (by decide)]
      exact hstate
    · rw [hslots _ (by decide)]
      exact hsource
  · obtain ⟨hreset, hact⟩ := s.awake_iff.mp hawake
    exact ⟨_, (event_of_awake hreset).trans (congrArg _ (expireMismatch_due (s := s.elapse dt) h hdue)),
      fun hroom => raiseFault_isLive (s := putMismatch none (s.elapse dt)) _ _ hact (of_decide_eq_true hroom),
      raiseFault_told _ _ _⟩
  · obtain ⟨hreset, hact⟩ := s.awake_iff.mp hawake
    have hstep := distanceTick_valid (s := s.elapse dt) htick hdue hvalid
    rw [State.elapse_slots, hvalue, Int.toNat_natCast] at hstep
    exact ⟨_, (event_of_awake hreset).trans (congrArg _ hstep), fun hn => times_addMetre_slot hn hroom,
      times_addMetre_tell _ hroom⟩

end Sys2Proof.Machine
end

section
/-! PROOFS. Confirmation and fault memory: the stored pair, the replaced record and the triggered capture (R154 to
R158, R160, R180), and the clearing of fault memory (R162). -/

namespace Sys2Proof.Machine

/-! ### The victim in a full memory (R158) -/

section
variable {s : State} {ok : FaultRecord → Bool} {beats : FaultRecord → FaultRecord → Bool}

/-- One visit of the search for a victim. -/
def victimVisit (s : State) (ok : FaultRecord → Bool) (beats : FaultRecord → FaultRecord → Bool)
    (best : Option (Fin 40 × FaultRecord)) (p : Fin 40) : Option (Fin 40 × FaultRecord) :=
  match s.faults.memory[p] with
  | none => best
  | some r =>
    if ok r then
      match best with
      | none => some (p, r)
      | some (_, q) => if beats r q then some (p, r) else best
    else best

theorem victim_eq (s : State) (ok : FaultRecord → Bool) (beats : FaultRecord → FaultRecord → Bool) :
    s.victim ok beats = ((List.finRange 40).foldl (victimVisit s ok beats) none).map (·.1) := rfl

/-- A position that holds no eligible record leaves the best so far. -/
theorem victimVisit_skip {p : Fin 40} (h : ∀ r, s.faults.memory[p] = some r → ok r = false)
    (best : Option (Fin 40 × FaultRecord)) : victimVisit s ok beats best p = best := by
  unfold victimVisit
  split
  · rfl
  next r hr =>
    rw [h r hr]
    rfl

theorem victimVisit_first {p : Fin 40} {r : FaultRecord} (hr : s.faults.memory[p] = some r) (hok : ok r = true) :
    victimVisit s ok beats none p = some (p, r) := by
  simp only [victimVisit, hr, hok, if_true]

theorem victimVisit_next {p q : Fin 40} {r b : FaultRecord} (hr : s.faults.memory[p] = some r) (hok : ok r = true) :
    victimVisit s ok beats (some (q, b)) p = if beats r b then some (p, r) else some (q, b) := by
  simp only [victimVisit, hr, hok, if_true]

theorem victim_none (h : ∀ (q : Fin 40) b, s.faults.memory[q] = some b → ok b = false) :
    s.victim ok beats = none := by
  have hfold : ∀ l : List (Fin 40), l.foldl (victimVisit s ok beats) none = none := by
    intro l
    induction l with
    | nil => rfl
    | cons q l ih => rw [List.foldl_cons, victimVisit_skip (h q), ih]
  rw [victim_eq, hfold]
  rfl

/-- The best so far is eligible and stands before `p`, or there is none. -/
def BestBefore (s : State) (ok : FaultRecord → Bool) (p : Fin 40) (best : Option (Fin 40 × FaultRecord)) : Prop :=
  ∀ q b, best = some (q, b) → q < p ∧ s.faults.memory[q] = some b ∧ ok b = true

theorem victimVisit_bestBefore {p q : Fin 40} (hq : q < p) {best : Option (Fin 40 × FaultRecord)}
    (h : BestBefore s ok p best) : BestBefore s ok p (victimVisit s ok beats best q) := by
  by_cases hnone : ∀ r, s.faults.memory[q] = some r → ok r = false
  · rw [victimVisit_skip hnone]
    exact h
  · simp only [not_forall, Bool.not_eq_false] at hnone
    obtain ⟨r, hr, hok⟩ := hnone
    have hself : BestBefore s ok p (some (q, r)) := by
      intro q' b' he
      obtain ⟨rfl, rfl⟩ := Prod.mk.inj (Option.some.inj he)
      exact ⟨hq, hr, hok⟩
    match best, h with
    | none, _ =>
      rw [victimVisit_first hr hok]
      exact hself
    | some (q', b'), h =>
      rw [victimVisit_next hr hok]
      split
      · exact hself
      · exact h

/-- The eligible record that beats every one before it and that none after it beats is the victim. -/
theorem victim_some {p : Fin 40} {a : FaultRecord} (ha : s.faults.memory[p] = some a) (hok : ok a = true)
    (h : ∀ (q : Fin 40) b, s.faults.memory[q] = some b → ok b = true →
      (q < p → beats a b = true) ∧ (p < q → beats b a = false)) : s.victim ok beats = some p := by
  obtain ⟨before, rest, hsplit⟩ := List.append_of_mem (List.mem_finRange p)
  have hsorted : (before ++ p :: rest).Pairwise (· < ·) := hsplit ▸ List.pairwise_lt_finRange 40
  obtain ⟨-, hrest, hbefore⟩ := List.pairwise_append.mp hsorted
  have hfirst : ∀ l : List (Fin 40), (∀ q ∈ l, q < p) → ∀ best, BestBefore s ok p best →
      BestBefore s ok p (l.foldl (victimVisit s ok beats) best) := by
    intro l
    induction l with
    | nil => exact fun _ _ hb => hb
    | cons q l ih =>
      intro hl best hb
      exact ih (fun r hr => hl r (List.mem_cons_of_mem _ hr)) _ (victimVisit_bestBefore (hl q (List.mem_cons_self ..)) hb)
  have hlast : ∀ l : List (Fin 40), (∀ q ∈ l, p < q) →
      l.foldl (victimVisit s ok beats) (some (p, a)) = some (p, a) := by
    intro l
    induction l with
    | nil => exact fun _ => rfl
    | cons q l ih =>
      intro hl
      have hkeep : victimVisit s ok beats (some (p, a)) q = some (p, a) := by
        by_cases hnone : ∀ r, s.faults.memory[q] = some r → ok r = false
        · exact victimVisit_skip hnone _
        · simp only [not_forall, Bool.not_eq_false] at hnone
          obtain ⟨r, hr, hokr⟩ := hnone
          rw [victimVisit_next hr hokr, (h q r hr hokr).2 (hl q (List.mem_cons_self ..))]
          rfl
      rw [List.foldl_cons, hkeep]
      exact ih fun r hr => hl r (List.mem_cons_of_mem _ hr)
  have hbest := hfirst before (fun q hq => hbefore q hq p (List.mem_cons_self ..)) none
    (fun _ _ he => absurd he.symm (Option.some_ne_none _))
  have hvisit : victimVisit s ok beats (before.foldl (victimVisit s ok beats) none) p = some (p, a) := by
    match hb : before.foldl (victimVisit s ok beats) none with
    | none => exact victimVisit_first ha hok
    | some (q, b) =>
      obtain ⟨hq, hmem, hokb⟩ := hbest q b hb
      rw [victimVisit_next ha hok, (h q b hmem hokb).1 hq]
      rfl
  rw [victim_eq, hsplit, List.foldl_append, List.foldl_cons, hvisit, hlast rest (List.pairwise_cons.mp hrest).1]
  rfl

end

/-! ### The replacement of a record (R158) -/

section
variable {s : State} {sev : Nat} {p : Fin 40} {a : FaultRecord}

/-- A record that step 1 of R158 may replace, and one that step 2 may. -/
def healedRecord (sev : Nat) (r : FaultRecord) : Prop := r.active = false ∧ r.severity ≤ sev

def lesserRecord (sev : Nat) (r : FaultRecord) : Prop := r.active = true ∧ r.severity < sev

theorem healed_iff {r : FaultRecord} : (!r.active && decide (r.severity ≤ sev)) = true ↔ healedRecord sev r := by
  simp [healedRecord]

theorem lesser_iff {r : FaultRecord} : (r.active && decide (r.severity < sev)) = true ↔ lesserRecord sev r := by
  simp [lesserRecord]

/-- The record that is older, or of equal age at the lower position. -/
def olderRecord (p q : Fin 40) (a b : FaultRecord) : Prop :=
  a.firstCycle < b.firstCycle ∨ (a.firstCycle = b.firstCycle ∧ p < q)

theorem beatsInactive_of_first {q : Fin 40} {b : FaultRecord} (h : a.severity < b.severity ∨
    (a.severity = b.severity ∧ (b.heal < a.heal ∨ (b.heal = a.heal ∧ olderRecord p q a b)))) :
    (q < p → beatsInactive a b = true) ∧ (p < q → beatsInactive b a = false) := by
  simp only [olderRecord, Fin.lt_def] at h
  simp only [beatsInactive, Fin.lt_def, Bool.or_eq_true, Bool.and_eq_true, decide_eq_true_eq, Bool.or_eq_false_iff,
    Bool.and_eq_false_iff, decide_eq_false_iff_not]
  omega

theorem beatsActive_of_first {q : Fin 40} {b : FaultRecord} (h : a.severity < b.severity ∨
    (a.severity = b.severity ∧ olderRecord p q a b)) :
    (q < p → beatsActive a b = true) ∧ (p < q → beatsActive b a = false) := by
  simp only [olderRecord, Fin.lt_def] at h
  simp only [beatsActive, Fin.lt_def, Bool.or_eq_true, Bool.and_eq_true, decide_eq_true_eq, Bool.or_eq_false_iff,
    Bool.and_eq_false_iff, decide_eq_false_iff_not]
  omega

theorem replacement_inactive (ha : s.faults.memory[p] = some a) (hok : healedRecord sev a)
    (h : ∀ (q : Fin 40) b, s.faults.memory[q] = some b → healedRecord sev b → q ≠ p → a.severity < b.severity ∨
      (a.severity = b.severity ∧ (b.heal < a.heal ∨ (b.heal = a.heal ∧ olderRecord p q a b)))) :
    s.replacement sev = some p := by
  have hvictim : s.victim (fun r => !r.active && decide (r.severity ≤ sev)) beatsInactive = some p := by
    refine victim_some ha (healed_iff.mpr hok) fun q b hb hokb => ⟨fun hq => ?_, fun hq => ?_⟩
    · exact (beatsInactive_of_first (h q b hb (healed_iff.mp hokb) (ne_of_lt hq))).1 hq
    · exact (beatsInactive_of_first (h q b hb (healed_iff.mp hokb) (ne_of_gt hq))).2 hq
  rw [State.replacement, hvictim]

/-- With no record for step 1, step 2 decides. -/
theorem replacement_of_noneHealed (hnone : ∀ (q : Fin 40) b, s.faults.memory[q] = some b → ¬ healedRecord sev b) :
    s.replacement sev = s.victim (fun r => r.active && decide (r.severity < sev)) beatsActive := by
  have hvictim : s.victim (fun r => !r.active && decide (r.severity ≤ sev)) beatsInactive = none :=
    victim_none fun q b hb => Bool.eq_false_iff.mpr fun hc => hnone q b hb (healed_iff.mp hc)
  rw [State.replacement, hvictim]

theorem victim_active (ha : s.faults.memory[p] = some a) (hok : lesserRecord sev a)
    (h : ∀ (q : Fin 40) b, s.faults.memory[q] = some b → lesserRecord sev b → q ≠ p → a.severity < b.severity ∨
      (a.severity = b.severity ∧ olderRecord p q a b)) :
    s.victim (fun r => r.active && decide (r.severity < sev)) beatsActive = some p := by
  refine victim_some ha (lesser_iff.mpr hok) fun q b hb hokb => ⟨fun hq => ?_, fun hq => ?_⟩
  · exact (beatsActive_of_first (h q b hb (lesser_iff.mp hokb) (ne_of_lt hq))).1 hq
  · exact (beatsActive_of_first (h q b hb (lesser_iff.mp hokb) (ne_of_gt hq))).2 hq

theorem victim_noneLesser (hnone : ∀ (q : Fin 40) b, s.faults.memory[q] = some b → ¬ lesserRecord sev b) :
    s.victim (fun r => r.active && decide (r.severity < sev)) beatsActive = none :=
  victim_none fun q b hb => Bool.eq_false_iff.mpr fun hc => hnone q b hb (lesser_iff.mp hc)

end

/-! ### What a confirmation stores (R155 to R157, R160) -/

section
variable {c : FaultCode} {src : Option Nat} {s : State}

theorem storePair_held {p : Fin 40} (h : s.recordAt c src = some p) :
    storePair c src s = putRecord p (s.faults.memory[p].map s.confirmedAgain) s := by
  rw [storePair, h]

theorem storePair_empty {p : Fin 40} (h : s.recordAt c src = none) (he : s.emptyPosition = some p) :
    storePair c src s = putRecord p (some (s.newRecord c src)) s := by
  rw [storePair, h, he]

theorem storePair_replaced {p : Fin 40} (h : s.recordAt c src = none) (he : s.emptyPosition = none)
    (hp : s.replacement (codeSeverity c) = some p) :
    storePair c src s = putRecord p (some (s.newRecord c src)) s := by
  rw [storePair, h, he, hp]

theorem storePair_lost (h : s.recordAt c src = none) (he : s.emptyPosition = none)
    (hp : s.replacement (codeSeverity c) = none) : storePair c src s = setFlag .faultMemoryFull
      { s with faults := { s.faults with memoryOverflow := bump16 s.faults.memoryOverflow } } := by
  rw [storePair, h, he, hp]

/-- Storing writes the memory and its overflow counter. -/
theorem storePair_faults (c : FaultCode) (src : Option Nat) (s : State) :
    (storePair c src s).faults.live = s.faults.live ∧ (storePair c src s).faults.latch = s.faults.latch ∧
      (storePair c src s).capture = s.capture := by
  unfold storePair
  split
  · exact ⟨rfl, rfl, rfl⟩
  · split
    · exact ⟨rfl, rfl, rfl⟩
    · split <;> exact ⟨rfl, rfl, rfl⟩

theorem recordAt_isPair {p : Fin 40} (h : s.recordAt c src = some p) :
    ∃ r, s.faults.memory[p] = some r ∧ r.code = c ∧ r.source = src := by
  have hfound := List.find?_some h
  split at hfound
  next r hr => exact ⟨r, hr, by simpa [FaultRecord.isPair] using hfound⟩
  next => exact absurd hfound (by decide)

/-- A pair that the memory holds, or for which it has an empty position, is stored ACTIVE. -/
theorem storePair_stores (h : (s.recordAt c src).isSome = true ∨ s.emptyPosition.isSome = true) :
    ∃ p : Fin 40, ∃ r, (storePair c src s).faults.memory[p] = some r ∧ r.code = c ∧ r.source = src ∧ r.active = true ∧
      r.heal = 0 := by
  match hrec : s.recordAt c src with
  | some p =>
    obtain ⟨r, hr, hcode, hsource⟩ := recordAt_isPair hrec
    refine ⟨p, s.confirmedAgain r, ?_, hcode, hsource, rfl, rfl⟩
    rw [storePair_held hrec, hr]
    exact vput_same _ _ _
  | none =>
    match hempty : s.emptyPosition with
    | some p =>
      refine ⟨p, s.newRecord c src, ?_, rfl, rfl, rfl, rfl⟩
      rw [storePair_empty hrec hempty]
      exact vput_same _ _ _
    | none =>
      rw [hrec, hempty] at h
      exact absurd h (by decide)

theorem fillLatch_faults (c : FaultCode) (src : Option Nat) (s : State) :
    (fillLatch c src s).faults.live = s.faults.live ∧ (fillLatch c src s).faults.memory = s.faults.memory ∧
      (fillLatch c src s).faults.memoryOverflow = s.faults.memoryOverflow ∧ (fillLatch c src s).capture = s.capture := by
  unfold fillLatch
  split <;> exact ⟨rfl, rfl, rfl, rfl⟩

theorem fillLatch_latch (c : FaultCode) (src : Option Nat) (s : State) : (fillLatch c src s).faults.latch ≠ none ∧
    (s.faults.latch ≠ none → (fillLatch c src s).faults.latch = s.faults.latch) := by
  unfold fillLatch
  split
  next l hl => exact ⟨fun h => Option.some_ne_none l (hl.symm.trans h), fun _ => rfl⟩
  next hl => exact ⟨fun h => Option.some_ne_none _ h, fun h => absurd hl h⟩

theorem confirmationTold_faults (c : FaultCode) (s : State) : (confirmationTold c s).faults = s.faults := by
  unfold confirmationTold triggerCapture
  split
  · split <;> rfl
  · rfl

/-- The state after a pair is marked confirmed and stored. -/
def storedPair (c : FaultCode) (src : Option Nat) (s : State) : State := storePair c src (markConfirmed c src s)

theorem confirmPair_eq (c : FaultCode) (src : Option Nat) (s : State) : confirmPair c src s =
    confirmationTold c (setFlag .faultConfirmed (fillLatch c src (storedPair c src s))) := rfl

theorem confirmPair_faults (c : FaultCode) (src : Option Nat) (s : State) :
    (confirmPair c src s).faults = (fillLatch c src (storedPair c src s)).faults := confirmationTold_faults _ _

theorem confirmPair_memory (c : FaultCode) (src : Option Nat) (s : State) :
    (confirmPair c src s).faults.memory = (storedPair c src s).faults.memory ∧
      (confirmPair c src s).faults.memoryOverflow = (storedPair c src s).faults.memoryOverflow := by
  rw [confirmPair_faults]
  exact ⟨(fillLatch_faults _ _ _).2.1, (fillLatch_faults _ _ _).2.2.1⟩

theorem confirmPair_live (c : FaultCode) (src : Option Nat) (s : State) :
    (confirmPair c src s).faults.live = (markConfirmed c src s).faults.live := by
  rw [confirmPair_faults, (fillLatch_faults _ _ _).1]
  exact (storePair_faults _ _ _).1

theorem confirmPair_latch (c : FaultCode) (src : Option Nat) (s : State) : (confirmPair c src s).faults.latch ≠ none ∧
    (s.faults.latch ≠ none → (confirmPair c src s).faults.latch = s.faults.latch) := by
  have hstored : (storedPair c src s).faults.latch = s.faults.latch := (storePair_faults _ _ _).2.1
  have hfill := fillLatch_latch c src (storedPair c src s)
  rw [hstored] at hfill
  rw [confirmPair_faults]
  exact hfill

theorem confirmPair_flag (c : FaultCode) (src : Option Nat) (s : State) :
    (confirmPair c src s).flag .faultConfirmed = true :=
  (confirmationTold_keeps (ks := []) (cs := []) c _).flags _ (setFlag_flag _ _)

theorem confirmPair_keepsFlag {c : FaultCode} {src : Option Nat} {s : State} {f : Attention}
    (h : (storedPair c src s).flag f = true) : (confirmPair c src s).flag f = true :=
  (confirmationTold_keeps (ks := []) (cs := []) c _).flags f
    ((setFlag_keeps (ks := []) (cs := []) .faultConfirmed _).flags f
      ((fillLatch_keeps (ks := []) (cs := []) c src _).flags f h))

theorem confirmPair_capture (c : FaultCode) (src : Option Nat) (s : State) :
    (s.capture.state = .armed → s.capture.code = some c →
      (confirmPair c src s).capture = { s.capture with state := .triggered, triggerPending := true }) ∧
    ((s.capture.state ≠ .armed ∨ s.capture.code ≠ some c) → (confirmPair c src s).capture = s.capture) := by
  have hbefore : (setFlag .faultConfirmed (fillLatch c src (storedPair c src s))).capture = s.capture :=
    (fillLatch_faults _ _ _).2.2.2.trans (storePair_faults _ _ _).2.2
  rw [confirmPair_eq]
  unfold confirmationTold triggerCapture
  rw [hbefore]
  refine ⟨fun harmed hcode => ?_, fun h => ?_⟩
  · rw [if_pos hcode, if_pos harmed]
  · split
    next hcode =>
      rw [if_neg (h.resolve_right (not_not_intro hcode))]
      exact hbefore
    next => exact hbefore

theorem markConfirmed_isConfirmed {e : LiveEntry} (h : e ∈ s.faults.live) :
    (markConfirmed e.code e.source s).isConfirmed e.code e.source = true := by
  have hpair : e.isPair e.code e.source = true := by simp [LiveEntry.isPair]
  refine List.any_eq_true.mpr ⟨_, List.mem_map_of_mem h, ?_⟩
  rw [if_pos hpair]
  exact Bool.and_eq_true_iff.mpr ⟨hpair, rfl⟩

theorem markConfirmed_pairs (c : FaultCode) (src : Option Nat) (s : State) :
    (markConfirmed c src s).faults.live.map (fun x => (x.code, x.source)) =
      s.faults.live.map fun x => (x.code, x.source) := by
  refine map_pairs (fun e => ?_) s.faults.live
  split <;> exact ⟨rfl, rfl⟩

theorem expireConfirmation_due {e : LiveEntry} {due : Nat} (h : e ∈ s.faults.live) (hc : e.confirmed = false)
    (hd : e.deadline = some due) (hdue : due ≤ s.now) :
    expireConfirmation e.code e.source s = confirmPair e.code e.source s := by
  refine if_pos (List.any_eq_true.mpr ⟨e, h, ?_⟩)
  have hpair : e.isPair e.code e.source = true := by simp [LiveEntry.isPair]
  have hrun : s.due e.deadline = true := by
    rw [hd]
    exact decide_eq_true hdue
  rw [hpair, hc, hrun]
  rfl

end

/-- Settles O44. -/
theorem confirmationStoresThePair : Obligations.ConfirmationStoresThePair := by
  intro s dt due e hawake hlive hconfirmed hdeadline hdue
  obtain ⟨hreset, hact⟩ := s.awake_iff.mp hawake
  have hstep := expireConfirmation_due (s := s.elapse dt) hlive hconfirmed hdeadline hdue
  have hcapture := confirmPair_capture e.code e.source (s.elapse dt)
  refine ⟨_, (event_of_awake hreset).trans (congrArg _ hstep), ?_, confirmPair_flag _ _ _, (confirmPair_latch _ _ _).1,
    (confirmPair_latch e.code e.source (s.elapse dt)).2, ?_, fun h => ?_, confirmPair_told _ _ _, hcapture.1, hcapture.2,
    fun hrec hempty => ?_⟩
  · rw [State.isConfirmed, confirmPair_live]
    exact markConfirmed_isConfirmed (s := s.elapse dt) hlive
  · rw [confirmPair_live]
    exact markConfirmed_pairs _ _ (s.elapse dt)
  · rw [(confirmPair_memory _ _ _).1]
    exact storePair_stores (s := markConfirmed e.code e.source (s.elapse dt)) h
  · intro sev healed lesser older replaced
    have hreplaced : ∀ p, (markConfirmed e.code e.source (s.elapse dt)).replacement sev = some p → replaced p := by
      intro p hp
      have hstored : storedPair e.code e.source (s.elapse dt) = _ :=
        storePair_replaced (s := markConfirmed e.code e.source (s.elapse dt)) hrec hempty hp
      refine ⟨(confirmPair_memory _ _ _).1.trans ?_, (confirmPair_memory _ _ _).2.trans ?_⟩
      · rw [hstored]
        rfl
      · rw [hstored]
        rfl
    refine ⟨fun p a ha hok h => hreplaced p (replacement_inactive ha hok h), fun hnone =>
      ⟨fun p a ha hok h => hreplaced p ?_, fun hnone' => ?_⟩⟩
    · exact (replacement_of_noneHealed hnone).trans (victim_active ha hok h)
    · have hstored : storedPair e.code e.source (s.elapse dt) = _ :=
        storePair_lost (s := markConfirmed e.code e.source (s.elapse dt)) hrec hempty
          ((replacement_of_noneHealed hnone).trans (victim_noneLesser hnone'))
      refine ⟨(confirmPair_memory _ _ _).1.trans ?_, (confirmPair_memory _ _ _).2.trans ?_, confirmPair_keepsFlag ?_⟩
      · rw [hstored]
        rfl
      · rw [hstored]
        rfl
      · rw [hstored]
        exact setFlag_flag _ _

end Sys2Proof.Machine
end

section
/-! PROOFS. Clearing fault memory (chapter 8), and the answers of the service channel (chapter 9). -/

namespace Sys2Proof.Machine

/-! ### Clearing fault memory (R162) -/

/-- Where no live entry's code is confirmed at once, a clear confirms nothing. -/
theorem clearMemory_unconfirmed {s : State} (h : ∀ e ∈ s.faults.live, s.confirmTime e.code ≠ 0) :
    clearMemory s = { s with faults := { s.faults with
      memory := Vector.replicate 40 none, latch := none, memoryOverflow := 0,
      live := s.faults.live.map fun e => { e with
        confirmed := false, since := s.now, deadline := some (s.now + 1000 * s.confirmTime e.code) } } } := by
  rw [clearMemory, confirmDue, List.filter_eq_nil_iff.mpr]
  · rfl
  · intro e he
    obtain ⟨d, hd, rfl⟩ := List.mem_map.mp he
    simp [h d hd]

theorem serveFaultClear_taken {s : State} (h : s.clearAllowed = true) :
    serveFaultClear s = accept (.removed s.recordCount) (clearMemory s) := if_pos h

theorem serveFaultClear_refused {s : State} (h : s.clearAllowed = false) :
    serveFaultClear s = refuse .notNow s := if_neg (by simp [h])

/-! ### Requests of the service channel (R169) -/

theorem abandon_service (s : State) : abandon s = { s with service := (abandon s).service } ∧
    (abandon s).service.entry = s.service.entry ∧ (abandon s).service.test = s.service.test := by
  rw [abandon]
  split
  · exact ⟨rfl, rfl, rfl⟩
  · exact ⟨rfl, rfl, rfl⟩

/-- What taking a service request changes: the reception is counted, and the service channel moves on, but neither
its entry nor an output test. -/
theorem State.asked_eq (s : State) (dt : Nat) : ∃ se, se.entry = s.service.entry ∧ se.test = s.service.test ∧
    s.asked dt = { s.elapse dt with
      ports := (countReception s.service.entry.port s).ports
      service := se } := by
  obtain ⟨habandon, hentry, htest⟩ := abandon_service (countReception s.service.entry.port (s.elapse dt))
  refine ⟨(s.asked dt).service, hentry, htest, ?_⟩
  rw [State.asked, habandon]
  rfl

theorem takenFrame_full {f : RxFrame} (hcode : f.lengthCode.val = f.data.length) (h : f.data.length ≤ 8) :
    takenFrame f = { format := f.format, id := f.id, data := f.data } := by
  simp [takenFrame, hcode, List.take_of_length_le, h]

/-- A service request frame is taken: it is diverted, and answered in the state `State.asked`. -/
theorem event_receiveService {s : State} (dt : Nat) {data : List Byte} (h : s.onAir = true) (hdata : data.length ≤ 8) :
    event dt s (receiveService data) = .next
      (let a := judgeService data (s.asked dt)
       beginResponse (data.headD 0) (message a.verdict a.payload) a.after) := by
  obtain ⟨hawake, hopen⟩ := Bool.and_eq_true_iff.mp h
  obtain ⟨hreset, hact⟩ := s.awake_iff.mp hawake
  have hmod : data.length % 16 = data.length := by omega
  have hdiverts : ∀ f : RxFrame, f.format = s.service.entry.format → f.id = s.service.entry.requestId →
      f.lengthCode.val = f.data.length → f.data.length ≤ 8 → f.remote = false →
      receiveFrame s.service.entry.port f (s.elapse dt) =
        serveFrame f.data (countReception s.service.entry.port (s.elapse dt)) := by
    intro f hformat hid hcode hlen hdata
    have hreceive : receiveFrame s.service.entry.port f (s.elapse dt) =
        receiveActive s.service.entry.port f (s.elapse dt) := if_pos hact
    have hactive : receiveActive s.service.entry.port f (s.elapse dt) =
        if f.remote then countRemote s.service.entry.port (countReception s.service.entry.port (s.elapse dt))
        else dataFrame s.service.entry.port (takenFrame f) (countReception s.service.entry.port (s.elapse dt)) :=
      if_pos hopen
    rw [hreceive, hactive, hdata, takenFrame_full hcode hlen]
    refine (if_neg Bool.false_ne_true).trans (if_pos ?_)
    simp only [State.diverts, hformat, hid]
    simp [countReception]
  rw [event_of_awake hreset]
  exact congrArg _ (hdiverts _ rfl rfl hmod hdata rfl)

/-- A service request of its service's length has the outcome of its service. -/
theorem service_answered {s t : State} {dt : Nat} {code : Byte} {rest : List Byte} {v : Verdict} {payload : List Byte}
    (h : s.onAir = true) (hlength : serviceLength? code = some (rest.length + 1)) (hdata : rest.length ≤ 7)
    (ha : answerService (code :: rest) (s.asked dt) = ⟨v, payload, t⟩) :
    event dt s (receiveService (code :: rest)) = .next (beginResponse code (message v payload) t) := by
  have hjudge : judgeService (code :: rest) (s.asked dt) = ⟨v, payload, t⟩ := by
    rw [judgeService, hlength]
    exact (if_pos rfl).trans ha
  rw [event_receiveService dt h (by simp; omega), hjudge]
  rfl

/-! ### Clearing fault memory by either path -/

theorem asked_clearAllowed (s : State) (dt : Nat) : (s.asked dt).clearAllowed = s.clearAllowed := by
  obtain ⟨se, -, -, h⟩ := s.asked_eq dt
  rw [h]
  rfl

theorem asked_recordCount (s : State) (dt : Nat) : (s.asked dt).recordCount = s.recordCount := by
  obtain ⟨se, -, -, h⟩ := s.asked_eq dt
  rw [h]
  rfl

/-- Settles O45. -/
theorem faultClearsEmptyTheMemory : Obligations.FaultClearsEmptyTheMemory := by
  refine ⟨fun s dt tag hs => ⟨fun hc hlive => ?_, fun hc => ?_⟩, fun s dt hair => ⟨fun hc => ?_, fun hc => ?_⟩⟩
  · refine exec_served rfl rfl hs ?_
    exact (serveFaultClear_taken (s := s.noted dt) hc).trans
      (congrArg (accept _) (clearMemory_unconfirmed (s := s.noted dt) hlive))
  · exact exec_served rfl rfl hs (serveFaultClear_refused (s := s.noted dt) hc)
  · refine service_answered hair rfl (by decide) ?_
    have hclear : answerClearFaults (s.asked dt) =
        ⟨.done, [byteOf (s.asked dt).recordCount], setFlag .serviceClear (clearMemory (s.asked dt))⟩ :=
      if_pos ((asked_clearAllowed s dt).trans hc)
    rw [asked_recordCount] at hclear
    exact hclear
  · exact service_answered hair rfl (by decide) (if_neg (by rw [asked_clearAllowed, hc]; decide))

/-! ### Reading services (R173, R174) -/

theorem answerFaultRecord_out {p : Byte} (h : 40 ≤ p.toNat) (s : State) :
    answerFaultRecord p s = refusal .badParameter s := by
  rw [answerFaultRecord, show unit? 40 p.toNat = none from dif_neg (by omega)]

theorem recordPosition (p : Fin 40) : unit? 40 (byteOf p).toNat = some p := by
  rw [byteOf_toNat (by omega), unit?_val]

theorem answerFaultRecord_empty {p : Fin 40} {s : State} (h : s.faults.memory[p] = none) :
    answerFaultRecord (byteOf p) s = refusal .notPresent s := by
  simp only [answerFaultRecord, recordPosition, h]

theorem answerFaultRecord_held {p : Fin 40} {r : FaultRecord} {s : State} (h : s.faults.memory[p] = some r) :
    answerFaultRecord (byteOf p) s = report (recordBytes p r) s := by
  simp only [answerFaultRecord, recordPosition, h]

theorem answerCounters_match (first count : Byte) (s : State) : answerCounters 2 first count s =
    if count = 0 ∨ 47 < count.toNat ∨ 128 < first.toNat + count.toNat then refusal .badParameter s
    else report ([first, count] ++ (s.matchCounters first.toNat count.toNat).flatMap (be 4)) s := rfl

theorem answerCounters_none {group : Byte} (h : 3 ≤ group.toNat) (first count : Byte) (s : State) :
    answerCounters group first count s = refusal .badParameter s := by
  obtain ⟨n, hn⟩ := Nat.exists_eq_add_of_le h
  rw [answerCounters, hn, Nat.add_comm]
  rfl

/-- Settles O46. -/
theorem serviceReadsAnswer : Obligations.ServiceReadsAnswer := by
  intro s dt hair
  obtain ⟨se, -, -, h⟩ := s.asked_eq dt
  have hfaults : (s.asked dt).faults = s.faults := by rw [h]; rfl
  refine ⟨?_, ⟨_, rfl, ?_⟩, fun p hp => ?_, fun p hp => ?_, fun p r hp => ?_, fun hl => ?_, fun f hl => ?_, ?_,
    fun k => ?_, fun first count h1 h2 h3 => ?_, fun first count hbad => ?_, fun first count => ?_,
    fun group first count hg => ?_, fun first count => ?_⟩
  · exact service_answered hair rfl (by simp) (by rw [h]; rfl)
  · exact service_answered hair rfl (by simp) (by rw [h]; rfl)
  · exact service_answered hair rfl (by simp) (answerFaultRecord_out hp _)
  · exact service_answered hair rfl (by simp) (answerFaultRecord_empty (by rw [hfaults, hp]))
  · exact service_answered hair rfl (by simp) (answerFaultRecord_held (by rw [hfaults, hp]))
  · refine service_answered hair rfl (by simp) (?_ : answerFirstFault (s.asked dt) = _)
    rw [answerFirstFault, hfaults, hl]
    rfl
  · refine service_answered hair rfl (by simp) (?_ : answerFirstFault (s.asked dt) = _)
    rw [answerFirstFault, hfaults, hl]
    rfl
  · exact service_answered hair rfl (by simp) (by rw [h]; rfl)
  · exact service_answered hair rfl (by simp) (by rw [h]; rfl)
  · refine service_answered hair rfl (by simp) ((answerCounters_match first count _).trans ?_)
    have hcount : count ≠ 0 := by
      rintro rfl
      exact absurd h1 (by decide)
    have hin : ¬ (count = 0 ∨ 47 < count.toNat ∨ 128 < first.toNat + count.toNat) := by
      rintro (h0 | h0 | h0)
      · exact hcount h0
      · exact absurd h2 (Nat.not_le.mpr h0)
      · exact absurd h3 (Nat.not_le.mpr h0)
    rw [if_neg hin, h]
    rfl
  · refine service_answered hair rfl (by simp) ((answerCounters_match first count _).trans (if_pos ?_))
    exact hbad.imp_left fun h0 => BitVec.eq_of_toNat_eq h0
  · exact service_answered hair rfl (by simp) rfl
  · exact service_answered hair rfl (by simp) (answerCounters_none hg first count _)
  · exact service_answered hair rfl (by simp) (by rw [h]; rfl)

/-! ### Output tests (R175, R176) -/

theorem redrive_flag (f : Attention) (s : State) : (redrive s).flag f = s.flag f := by
  obtain ⟨o, l, h⟩ := redrive_eq s
  rw [h]
  rfl

theorem redrive_gauges (s : State) : (redrive s).gauges = s.gauges := by
  obtain ⟨o, l, h⟩ := redrive_eq s
  rw [h]

/-- The running test, if any, is replaced: both the start and the end of a test do this. -/
def putTest (u : TestUnit) (target : Option Nat) (test : Option OutputTest) (s : State) : State :=
  redrive (setFlag .outputTest (setSweep u target { s with service := { s.service with test := test } }))

section
variable (u : TestUnit) (target : Option Nat) (test : Option OutputTest) (s : State)

theorem putTest_service : (putTest u target test s).service = { s.service with test := test } :=
  (((setSweep_tell u target _).trans (setFlag_tell _ _)).trans (redrive_tell _)).project (·.service) rfl

theorem putTest_flag : (putTest u target test s).flag .outputTest = true := by
  rw [putTest, redrive_flag]
  exact setFlag_flag _ _

theorem putTest_sweep {g : Fin 6} (h : u = .gauge g) : (putTest u target test s).gauges[g].sweep = target := by
  subst h
  rw [putTest, redrive_gauges, setFlag_gauges]
  simp [setSweep]

end

section
variable {s : State}

theorem endTest_running {x : OutputTest} (h : s.service.test = some x) : endTest s = putTest x.unit none none s := by
  rw [endTest, h]
  rfl

theorem startTest_eq (u : TestUnit) : startTest u s =
    putTest u (some 0) (some { unit := u, deadline := (endTest s).after 30000 }) (endTest s) := rfl

/-- The unit a start names, its start conditions and whether it can be tested do not rest on what taking the request
changes. -/
theorem asked_test (dt : Nat) : (∀ kind index, (s.asked dt).testUnit? kind index = s.testUnit? kind index) ∧
    (s.asked dt).startConditions = s.startConditions ∧ (∀ u, (s.asked dt).canTest u = s.canTest u) ∧
    (s.asked dt).service.test = s.service.test := by
  obtain ⟨se, -, htest, h⟩ := s.asked_eq dt
  rw [h]
  exact ⟨fun _ _ => rfl, rfl, fun _ => rfl, htest⟩

theorem answerTestStart_of_unit {kind index : Byte} {u : TestUnit} (h : s.testUnit? kind index = some u) :
    answerTestStart kind index s =
      if !s.startConditions then refusal .notNow s
      else if !s.canTest u then refusal .wrongState s
      else { verdict := .done, payload := u.bytes, after := startTest u s } := by
  rw [answerTestStart, h]

end

/-- Settles O48. -/
theorem outputTestsStartAndEnd : Obligations.OutputTestsStartAndEnd := by
  refine ⟨fun s dt hair => ?_, fun s dt x hreset hx hdue => ?_⟩
  · obtain ⟨hunit, hconditions, hcan, htest⟩ := asked_test (s := s) dt
    refine ⟨fun kind index u hu hc ht => ⟨startTest u (s.asked dt), ?_, ?_, ?_, putTest_flag _ _ _ _,
      startTest_moved _ _⟩, fun kind index hu => ?_, fun kind index u hu hc => ?_, fun kind index u hu hc ht => ?_,
      fun hx => ?_, fun x hx => ⟨endTest (s.asked dt), ?_, ?_, ?_, endTest_moved _⟩⟩
    · refine service_answered hair rfl (by simp) ((answerTestStart_of_unit ((hunit _ _).trans hu)).trans ?_)
      rw [hconditions, hcan, hc, ht]
      rfl
    · rw [startTest_eq, putTest_service]
      have hnow : (endTest (s.asked dt)).now = s.now + dt := by
        obtain ⟨se, -, -, h⟩ := s.asked_eq dt
        rw [(endTest_moved _).project (·.now) rfl, h]
        rfl
      rw [State.after, hnow]
    · rintro g rfl
      exact putTest_sweep _ _ _ _ rfl
    · refine service_answered hair rfl (by simp) (?_ : answerTestStart kind index _ = _)
      rw [answerTestStart, hunit, hu]
      rfl
    · refine service_answered hair rfl (by simp) ((answerTestStart_of_unit ((hunit _ _).trans hu)).trans ?_)
      rw [hconditions, hc]
      rfl
    · refine service_answered hair rfl (by simp) ((answerTestStart_of_unit ((hunit _ _).trans hu)).trans ?_)
      rw [hconditions, hcan, hc, ht]
      rfl
    · refine service_answered hair rfl (by simp) (?_ : answerTestStop _ = _)
      rw [answerTestStop, htest, hx]
      rfl
    · refine service_answered hair rfl (by simp) (?_ : answerTestStop _ = _)
      rw [answerTestStop, htest, hx]
    · rw [endTest_running (htest.trans hx), putTest_service]
    · rw [endTest_running (htest.trans hx)]
      exact putTest_flag _ _ _ _
  · have hexpire : expireTest (s.elapse dt) = endTest (s.elapse dt) := if_pos (by
      rw [show (s.elapse dt).service.test = some x from hx]
      exact decide_eq_true hdue)
    have hend : endTest (s.elapse dt) = putTest x.unit none none (s.elapse dt) := endTest_running (s := s.elapse dt) hx
    refine ⟨_, (event_of_awake hreset).trans (congrArg _ hexpire), ?_, ?_, endTest_moved _⟩
    · rw [hend, putTest_service]
      rfl
    · rw [hend]
      exact putTest_flag _ _ _ _

end Sys2Proof.Machine
end

section
/-! PROOFS. The reception of a frame: the classification, the decode, the forwarding and the frame offer to the capture
buffer (chapters 1, 2 and 9). -/

namespace Sys2Proof.Machine

/-! ### The classifier (R8, R9, R11) -/

theorem firstUnit_of_first {n : Nat} {q : Fin n → Bool} {e : Fin n} (h : q e = true) (hfirst : ∀ j, j < e → q j = false) :
    firstUnit n q = some e := by
  refine List.find?_eq_some_iff_getElem.mpr ⟨h, e.val, by simp, by simp, fun j hj => ?_⟩
  simpa using hfirst ⟨j, Nat.lt_trans hj e.isLt⟩ hj

theorem firstUnit_of_none {n : Nat} {q : Fin n → Bool} (h : ∀ j, q j = false) : firstUnit n q = none :=
  List.find?_eq_none.mpr fun j _ => by simp [h j]

section
variable {p : Fin 3} {f : RxFrame} {s : State} (dt : Nat)

/-- A frame received on an open port of a part that is awake. -/
theorem exec_frameReceived (hawake : s.awake = true) (hopen : s.ports[p].open_ = true) :
    exec (.frameReceived dt p f) s = .next
      (if f.remote then countRemote p (countReception p (s.elapse dt))
       else dataFrame p (takenFrame f) (countReception p (s.elapse dt))) := by
  obtain ⟨hreset, hact⟩ := s.awake_iff.mp hawake
  have hreceive : receiveFrame p f (s.elapse dt) = receiveActive p f (s.elapse dt) := if_pos hact
  have hactive : receiveActive p f (s.elapse dt) =
      if f.remote then countRemote p (countReception p (s.elapse dt))
      else dataFrame p (takenFrame f) (countReception p (s.elapse dt)) := if_pos hopen
  exact (event_of_awake hreset).trans (congrArg _ (hreceive.trans hactive))

variable (hawake : s.awake = true) (hopen : s.ports[p].open_ = true) (hdata : f.remote = false)
  (hdiverts : s.diverts p (takenFrame f) = false)
include hawake hopen hdata hdiverts

theorem exec_frameReceived_data : exec (.frameReceived dt p f) s = .next
    (if (countReception p (s.elapse dt)).isRun then classify p (takenFrame f) (countReception p (s.elapse dt))
     else offerCapture p (takenFrame f) none false (countReception p (s.elapse dt))) := by
  rw [exec_frameReceived dt hawake hopen, hdata]
  have hd : (countReception p (s.elapse dt)).diverts p (takenFrame f) = false := hdiverts
  exact congrArg _ ((if_neg Bool.false_ne_true).trans (if_neg (by rw [hd]; decide)))

theorem exec_frameReceived_setup (hm : s.mode = .setup) : exec (.frameReceived dt p f) s = .next
    (offerCapture p (takenFrame f) none false (countReception p (s.elapse dt))) := by
  rw [exec_frameReceived_data dt hawake hopen hdata hdiverts]
  exact congrArg _ (if_neg (by simp [State.isRun, countReception, State.elapse, hm]))

theorem exec_frameReceived_run (hm : s.mode = .run) : exec (.frameReceived dt p f) s = .next
    (classify p (takenFrame f) (countReception p (s.elapse dt))) := by
  rw [exec_frameReceived_data dt hawake hopen hdata hdiverts]
  exact congrArg _ (if_pos (by simp [State.isRun, countReception, State.elapse, hm]))

theorem exec_frameReceived_taken (hm : s.mode = .run) {e : Fin 128}
    (htakes : entryTakes s.matchTable[e].entry p (takenFrame f) = true)
    (hfirst : ∀ j, j < e → entryTakes s.matchTable[j].entry p (takenFrame f) = false) :
    exec (.frameReceived dt p f) s = .next (takenBy e p (takenFrame f) (countReception p (s.elapse dt))) := by
  rw [exec_frameReceived_run dt hawake hopen hdata hdiverts hm, classify]
  rw [show (countReception p (s.elapse dt)).taker p (takenFrame f) = some e from firstUnit_of_first htakes hfirst]

theorem exec_frameReceived_unmatched (hm : s.mode = .run)
    (hnone : ∀ e : Fin 128, entryTakes s.matchTable[e].entry p (takenFrame f) = false) :
    exec (.frameReceived dt p f) s = .next (unmatched p (takenFrame f) (countReception p (s.elapse dt))) := by
  rw [exec_frameReceived_run dt hawake hopen hdata hdiverts hm, classify]
  rw [show (countReception p (s.elapse dt)).taker p (takenFrame f) = none from firstUnit_of_none hnone]

end

/-! ### The decode (R30, R31) -/

section
variable {ks : List (Fin 256)} {k : Fin 240} {data : List Byte} {s : State}

theorem fedBy_iff {e : Fin 128} : s.fedBy k e = true ↔ s.descs[k].kind = .frame ∧ s.descs[k].sourceEntry = e.val := by
  simp only [State.fedBy, Bool.and_eq_true, decide_eq_true_eq]

theorem decodeSlot_other {j : Fin 240} (h : j ≠ k) (data : List Byte) (s : State) :
    (decodeSlot k data s).record j = s.record j := by
  unfold decodeSlot
  dsimp only
  split
  · rw [changeSlot_other _ h, putRec_other _ h]
  · split
    · split
      · rw [(raiseFault_told _ _ _).record, changeSlot_other _ h, putRec_other _ h]
      · rw [changeSlot_other _ h, putRec_other _ h]
    · rw [(clearFault_told _ _ _).record, storeValue_other _ h, putRec_other _ h]

theorem decodeSlot_raw (k : Fin 240) (data : List Byte) (s : State) :
    ((decodeSlot k data s).record k).raw = rawPattern s.descs[k] data := by
  unfold decodeSlot
  dsimp only
  split
  · rw [changeSlot_same, putRec_same]
  · split
    · split
      · rw [(raiseFault_told _ _ _).record, changeSlot_same, putRec_same]
      · rw [changeSlot_same, putRec_same]
    · rw [(clearFault_told _ _ _).record]
      obtain ⟨n, h⟩ := storeValue_same (k := k) (putRec k { s.record k with raw := rawPattern s.descs[k] data } s)
        (rawPattern s.descs[k] data) (scaled s.descs[k] (readPattern s.descs[k] (rawPattern s.descs[k] data)))
      rw [h]
      rfl

/-- The pattern is reserved for a slot whose descriptor reserves its two highest patterns. -/
def SlotReserved (d : SlotDesc) : Prop := d.reserved = true ∧ 2 ≤ d.length

theorem decodeSlot_notAvailable (hr : SlotReserved s.descs[k])
    (hp : rawPattern s.descs[k] data = 2 ^ s.descs[k].length - 1) :
    ((decodeSlot k data s).record k).state = .notAvailable ∧
      ((decodeSlot k data s).record k).value = (s.record k).value := by
  obtain ⟨hres, hlen⟩ := hr
  unfold decodeSlot
  simp only [hres, hlen, hp, decide_true, Bool.and_self, if_true, changeSlot_same, and_self]

theorem decodeSlot_senderError (hr : SlotReserved s.descs[k])
    (hp : rawPattern s.descs[k] data = 2 ^ s.descs[k].length - 2) :
    ((decodeSlot k data s).record k).state = .senderError ∧
      ((decodeSlot k data s).record k).value = (s.record k).value := by
  obtain ⟨hres, hlen⟩ := hr
  have hpow : 4 ≤ 2 ^ s.descs[k].length := Nat.pow_le_pow_right (n := 2) (by decide) hlen
  have hne : 2 ^ s.descs[k].length - 2 ≠ 2 ^ s.descs[k].length - 1 := by omega
  unfold decodeSlot
  simp only [hres, hlen, hp, hne, decide_true, decide_false, Bool.and_self, Bool.and_false, Bool.false_eq_true,
    if_true, if_false]
  split
  · simp only [(raiseFault_told _ _ _).record, changeSlot_same, and_self]
  · simp only [changeSlot_same, and_self]

theorem decodeSlot_valid (h : ¬ (SlotReserved s.descs[k] ∧ (rawPattern s.descs[k] data = 2 ^ s.descs[k].length - 1 ∨
      rawPattern s.descs[k] data = 2 ^ s.descs[k].length - 2))) :
    let v := scaled s.descs[k] (readPattern s.descs[k] (rawPattern s.descs[k] data))
    ((decodeSlot k data s).record k).state = .valid ∧
      ((decodeSlot k data s).record k).value = limited s.descs[k] v ∧
      ((decodeSlot k data s).record k).clamped = decide (limited s.descs[k] v ≠ v) := by
  have h1 : (s.descs[k].reserved && decide (2 ≤ s.descs[k].length) &&
      decide (rawPattern s.descs[k] data = 2 ^ s.descs[k].length - 1)) = false := by
    rw [Bool.eq_false_iff]
    intro hb
    simp only [Bool.and_eq_true, decide_eq_true_eq] at hb
    exact h ⟨hb.1, .inl hb.2⟩
  have h2 : (s.descs[k].reserved && decide (2 ≤ s.descs[k].length) &&
      decide (rawPattern s.descs[k] data = 2 ^ s.descs[k].length - 2)) = false := by
    rw [Bool.eq_false_iff]
    intro hb
    simp only [Bool.and_eq_true, decide_eq_true_eq] at hb
    exact h ⟨hb.1, .inr hb.2⟩
  unfold decodeSlot
  simp only [h1, h2, Bool.false_eq_true, if_false, (clearFault_told _ _ _).record]
  obtain ⟨n, hn⟩ := storeValue_same (k := k) (putRec k { s.record k with raw := rawPattern s.descs[k] data } s)
    (rawPattern s.descs[k] data) (scaled s.descs[k] (readPattern s.descs[k] (rawPattern s.descs[k] data)))
  rw [hn]
  exact ⟨rfl, rfl, rfl⟩

/-- The visit of a slot in the decode of an entry's frame. -/
def decodeVisit (e : Fin 128) (data : List Byte) (k : Fin 240) (s : State) : State :=
  if s.fedBy k e then decodeSlot k data s else s

theorem decodeEntry_eq (e : Fin 128) (data : List Byte) (s : State) :
    decodeEntry e data s = each 240 (decodeVisit e data) s := rfl

theorem decodeVisit_stored (e : Fin 128) (data : List Byte) (k : Fin 240) (s : State) :
    Stored s (decodeVisit e data k s) :=
  Stored.ite (decodeSlot_stored k data s) (Stored.refl s)

/-- The visit of another slot, or of a slot that the entry does not feed, leaves the record of a slot. -/
theorem decodeVisit_record {e : Fin 128} {j : Fin 240} (h : j ≠ k ∨ s.fedBy k e = false) :
    (decodeVisit e data j s).record k = s.record k := by
  unfold decodeVisit
  split
  next hfed =>
    refine decodeSlot_other (fun he => ?_) data s
    subst he
    obtain hne | hf := h
    · exact hne rfl
    · rw [hfed] at hf
      exact absurd hf (by decide)
  next => rfl

theorem decodeEntry_unfed {e : Fin 128} (h : s.fedBy k e = false) :
    (decodeEntry e data s).record k = s.record k := by
  have hall := each_rel (fun a b => Stored a b ∧ (a.fedBy k e = false → b.record k = a.record k))
    (fun a => ⟨Stored.refl a, fun _ => rfl⟩)
    (fun {a b c} hab hbc => ⟨hab.1.trans hbc.1, fun ha =>
      (hbc.2 ((hab.1.project (·.fedBy k e) rfl).trans ha)).trans (hab.2 ha)⟩)
    (decodeVisit e data) (fun j a => ⟨decodeVisit_stored e data j a, fun ha => decodeVisit_record (.inr ha)⟩) s
  rw [decodeEntry_eq]
  exact hall.2 h

/-- A slot that the entry feeds is decoded once. -/
theorem decodeEntry_fed {e : Fin 128} (hfed : s.fedBy k e = true) : ∃ a, a.descs = s.descs ∧
    a.record k = s.record k ∧ (decodeEntry e data s).record k = (decodeSlot k data a).record k := by
  obtain ⟨a, ⟨ha, hrec⟩, -, hrest⟩ := each_at (fun a b => Stored a b ∧ b.record k = a.record k)
    (fun a => ⟨Stored.refl a, rfl⟩) (fun hab hbc => ⟨hab.1.trans hbc.1, hbc.2.trans hab.2⟩)
    (decodeVisit e data) k (fun j a hj => ⟨decodeVisit_stored e data j a, decodeVisit_record (.inl hj)⟩) s
  refine ⟨a, ha.project (·.descs) rfl, hrec, ?_⟩
  rw [decodeEntry_eq, hrest, decodeVisit, if_pos ((ha.project (·.fedBy k e) rfl).trans hfed)]

end

/-- What a received frame can raise or clear. -/
def receptionCodes : List FaultCode :=
  [.signalRange, .signalSender, .frameShort, .frameMissing] ++ selectCodes

theorem keeps_reception {ks : List (Fin 256)} {cs : List FaultCode} {s t : State} (h : Keeps ks cs s t)
    (hc : cs ⊆ receptionCodes) : Keeps (List.finRange 256) receptionCodes s t :=
  h.mono (fun _ _ => List.mem_finRange _) hc

theorem decodeSlot_keeps (k : Fin 240) (data : List Byte) (s : State) :
    Keeps (List.finRange 256) receptionCodes s (decodeSlot k data s) := by
  have hput : ∀ r, Keeps (List.finRange 256) receptionCodes s (putRec k r s) := fun r =>
    putRec_keeps k r s (List.mem_finRange _)
  have hchange : ∀ v st a, Keeps (List.finRange 256) receptionCodes a (changeSlot k v st a) := fun v st a =>
    keeps_reception (changeSlot_keeps k v st a) (by decide)
  unfold decodeSlot
  refine Keeps.ite ((hput _).trans (hchange _ _ _)) (Keeps.ite (Keeps.ite ?_ ((hput _).trans (hchange _ _ _))) ?_)
  · exact ((hput _).trans (hchange _ _ _)).trans (keeps_reception (raiseFault_keeps_self _ _ _) (by decide))
  · exact ((hput _).trans (keeps_reception (storeValue_keeps k _ _ _) (by decide))).trans
      (keeps_reception (clearFault_keeps_self _ _ _) (by decide))

theorem decodeEntry_keeps (e : Fin 128) (data : List Byte) (s : State) :
    Keeps (List.finRange 256) receptionCodes s (decodeEntry e data s) :=
  Keeps.each (fun k a => Keeps.ite (decodeSlot_keeps k data a) (Keeps.refl a)) s

/-! ### What a reception changes -/

/-- Besides ports, match entries and the panel link, what a change of a slot can reach. -/
def Received (s t : State) : Prop :=
  Stored { s with
    ports := t.ports
    matchTable := t.matchTable
    link := t.link } t

theorem Stored.withReception {s t : State} (h : Stored s t) (ports : Vector PortUnit 3) (entries : Vector MatchUnit 128)
    (link : PanelLink) :
    Stored { s with ports := ports, matchTable := entries, link := link }
      { t with ports := ports, matchTable := entries, link := link } := by
  obtain ⟨_, _, _, _, _, _, _, _, _, _, _, _, _, _, _, _, _, _, _, rfl, htables⟩ := h
  refine ⟨_, _, _, _, _, _, _, _, _, _, _, _, _, _, _, _, _, _, _, rfl, ?_⟩
  exact congrArg (fun ts : Tables => { ts with
    port := ports.toArray.toList.map PortUnit.entry
    matchTable := entries.toArray.toList.map MatchUnit.entry }) htables

namespace Received

theorem stored {s t : State} (h : Stored s t) : Received s t := by
  rw [Received, h.project (·.ports) rfl, h.project (·.matchTable) rfl, h.project (·.link) rfl]
  exact h

theorem trans {a b c : State} (h : Received a b) (h' : Received b c) : Received a c :=
  Stored.trans (Stored.withReception h c.ports c.matchTable c.link) h'

/-- An update of ports, match entries and the link. -/
theorem apart {s t : State} (h : t = { s with
      ports := t.ports
      matchTable := t.matchTable
      link := t.link
      capture := t.capture
      flags := t.flags
      attn := t.attn }) : Received s t := by
  refine ⟨_, _, _, _, _, _, _, _, _, _, _, _, _, _, _, _, _, _, _, h, ?_⟩
  rw [h]
  rfl

end Received

/-! ### Forwarding (R14, R15) -/

/-- A frame's offers to the transmit queues change ports and set flags. -/
def Offered (s t : State) : Prop := t = { s with ports := t.ports, flags := t.flags, attn := t.attn }

theorem Offered.refl (s : State) : Offered s s := rfl

theorem Offered.trans {a b c : State} (h : Offered a b) (h' : Offered b c) : Offered a c := by
  rw [Offered] at h h' ⊢
  rw [h', h]

theorem Offered.received {s t : State} (h : Offered s t) : Received s t :=
  Received.apart (by rw [h])

section
variable {p q : Fin 3} {f : Frame} {s : State}

theorem offerFrame_offered (p : Fin 3) (f : Frame) (o : Origin) (s : State) : Offered s (offerFrame p f o s).2 := by
  unfold offerFrame
  dsimp only
  split
  · rfl
  · unfold setFlagIf
    split
    · rfl
    · rfl

theorem setFlagIf_ports (b : Bool) (a : Attention) (s : State) : (setFlagIf b a s).ports = s.ports := by
  unfold setFlagIf
  split
  · rfl
  · rfl

theorem offerFrame_other (h : q ≠ p) (f : Frame) (o : Origin) (s : State) :
    (offerFrame p f o s).2.ports[q] = s.ports[q] := by
  unfold offerFrame
  dsimp only
  split
  · exact vput_other _ _ h
  · exact (congrArg (fun ports : Vector PortUnit 3 => ports[q]) (setFlagIf_ports _ _ _)).trans (vput_other _ _ h)

theorem offerFrame_keeps {ks : List (Fin 256)} {cs : List FaultCode} (p : Fin 3) (f : Frame) (o : Origin) (s : State) :
    Keeps ks cs s (offerFrame p f o s).2 := by
  unfold offerFrame
  dsimp only
  split
  · exact Keeps.apart rfl rfl rfl rfl rfl rfl rfl rfl
  · refine Keeps.trans ?_ (setFlagIf_keeps _ _ _)
    exact Keeps.apart rfl rfl rfl rfl rfl rfl rfl rfl

/-- The visit of a port in the forwarding of a frame received on `p`. -/
def forwardVisit (set : ForwardSet) (p : Fin 3) (f : Frame) (q : Fin 3) (s : State) : State :=
  if set.ports.has q && q != p then (offerFrame q f .forward s).2 else s

theorem forwardFrame_eq (set : ForwardSet) (p : Fin 3) (f : Frame) (s : State) : forwardFrame set p f s =
    if set.panel then offerForward p f (each 3 (forwardVisit set p f) s) else each 3 (forwardVisit set p f) s := rfl

theorem forwardVisit_offered (set : ForwardSet) (p : Fin 3) (f : Frame) (q : Fin 3) (s : State) :
    Offered s (forwardVisit set p f q s) := by
  unfold forwardVisit
  split
  · exact offerFrame_offered q f .forward s
  · exact Offered.refl s

theorem forwardVisit_other {j : Fin 3} (h : j ≠ q) (set : ForwardSet) (p : Fin 3) (f : Frame) (s : State) :
    (forwardVisit set p f q s).ports[j] = s.ports[j] := by
  unfold forwardVisit
  split
  · exact offerFrame_other h f .forward s
  · rfl

theorem forwardVisit_keeps (set : ForwardSet) (p : Fin 3) (f : Frame) (q : Fin 3) (s : State) :
    Keeps (List.finRange 256) receptionCodes s (forwardVisit set p f q s) :=
  Keeps.ite (offerFrame_keeps q f .forward s) (Keeps.refl s)

theorem forwardVisits_offered (set : ForwardSet) (p : Fin 3) (f : Frame) (s : State) :
    Offered s (each 3 (forwardVisit set p f) s) :=
  each_rel Offered Offered.refl Offered.trans _ (forwardVisit_offered set p f) s

/-- What the visits make of one port: its own visit alone changes it. -/
theorem forwardVisits_port (set : ForwardSet) (p : Fin 3) (f : Frame) (q : Fin 3) (s : State) :
    ∃ a, Offered s a ∧ a.ports[q] = s.ports[q] ∧
      (each 3 (forwardVisit set p f) s).ports[q] = (forwardVisit set p f q a).ports[q] ∧
      Keeps (List.finRange 256) receptionCodes (forwardVisit set p f q a) (each 3 (forwardVisit set p f) s) := by
  obtain ⟨a, ⟨ha, hport, -⟩, -, hrest, hkeeps⟩ := each_at
    (fun a b => Offered a b ∧ b.ports[q] = a.ports[q] ∧ Keeps (List.finRange 256) receptionCodes a b)
    (fun a => ⟨Offered.refl a, rfl, Keeps.refl a⟩)
    (fun hab hbc => ⟨hab.1.trans hbc.1, hbc.2.1.trans hab.2.1, hab.2.2.trans hbc.2.2⟩)
    (forwardVisit set p f) q
    (fun j a hj => ⟨forwardVisit_offered set p f j a, forwardVisit_other (Ne.symm hj) set p f a,
      forwardVisit_keeps set p f j a⟩) s
  exact ⟨a, ha, hport, hrest, hkeeps⟩

theorem offerForward_eq (p : Fin 3) (f : Frame) (s : State) : ∃ l fl a,
    offerForward p f s = { s with link := l, flags := fl, attn := a } := by
  unfold offerForward
  dsimp only
  split
  · exact ⟨_, _, _, rfl⟩
  · exact ⟨_, _, _, rfl⟩

theorem offerForward_room (p : Fin 3) (f : Frame) {s : State} (h : s.link.egress.length < 28) :
    (offerForward p f s).link = { s.link with
      forwardSeq := s.link.forwardSeq + 1
      egress := s.link.egress ++ [.forward s.link.forwardSeq p f] } := by
  rw [offerForward, if_pos h]
  rfl

theorem offerForward_full (p : Fin 3) (f : Frame) {s : State} (h : 28 ≤ s.link.egress.length) :
    (offerForward p f s).flag .txDrop = true ∧ (offerForward p f s).link = { s.link with
      forwardSeq := s.link.forwardSeq + 1
      forwardDrops := bump32 s.link.forwardDrops } := by
  rw [offerForward, if_neg (by exact Nat.not_lt.mpr h)]
  exact ⟨setFlag_flag _ _, rfl⟩

theorem offerForward_keeps {ks : List (Fin 256)} {cs : List FaultCode} (p : Fin 3) (f : Frame) (s : State) :
    Keeps ks cs s (offerForward p f s) := by
  unfold offerForward
  dsimp only
  split
  · exact Keeps.apart rfl rfl rfl rfl rfl rfl rfl rfl
  · refine Keeps.trans ?_ (setFlag_keeps _ _)
    exact Keeps.apart rfl rfl rfl rfl rfl rfl rfl rfl

theorem forwardFrame_received (set : ForwardSet) (p : Fin 3) (f : Frame) (s : State) :
    Received s (forwardFrame set p f s) := by
  rw [forwardFrame_eq]
  have hvisits := (forwardVisits_offered set p f s).received
  split
  · refine hvisits.trans ?_
    obtain ⟨l, fl, a, h⟩ := offerForward_eq p f (each 3 (forwardVisit set p f) s)
    rw [h]
    exact Received.apart rfl
  · exact hvisits

theorem forwardFrame_keeps (set : ForwardSet) (p : Fin 3) (f : Frame) (s : State) :
    Keeps (List.finRange 256) receptionCodes s (forwardFrame set p f s) := by
  have hvisits := Keeps.each (fun q a => forwardVisit_keeps set p f q a) s
  exact Keeps.ite (hvisits.trans (offerForward_keeps p f _)) hvisits

end

/-! ### The frame offer (R16, R179, R181) -/

theorem offerCapture_eq (p : Fin 3) (f : Frame) (e : Option Nat) (flag : Bool) (s : State) : ∃ c fl a,
    offerCapture p f e flag s = { s with capture := c, flags := fl, attn := a } := by
  unfold offerCapture
  dsimp only
  split
  · split
    · split
      · exact ⟨_, _, _, rfl⟩
      · exact ⟨_, _, _, rfl⟩
    · exact ⟨_, _, _, rfl⟩
  · exact ⟨_, _, _, rfl⟩

/-! ### A frame that an entry takes (R12 to R16) -/

/-- The hit is counted. -/
def countHit (e : Fin 128) (s : State) : State :=
  putMatch e { s.matchTable[e] with hits := bump32 s.matchTable[e].hits } s

/-- The frame has arrived at its entry, and is not yet forwarded. -/
def arrived (e : Fin 128) (f : Frame) (s : State) : State :=
  if s.matchTable[e].entry.minLength ≤ f.data.length then goodArrival e f (countHit e s) else shortArrival e (countHit e s)

theorem takenBy_eq (e : Fin 128) (p : Fin 3) (f : Frame) (s : State) : takenBy e p f s =
    offerCapture p f (some e.val) s.matchTable[e].entry.capture
      (forwardFrame s.matchTable[e].entry.forward p f (arrived e f s)) := rfl

theorem superviseArrival_eq (e : Fin 128) (s : State) : ∃ m, superviseArrival e s = { s with matchTable := m } := by
  unfold superviseArrival
  dsimp only
  split
  · exact ⟨_, rfl⟩
  · exact ⟨_, rfl⟩

/-- The slots of a supervised entry whose frame is decoded, where the entry decodes. -/
def decoded (e : Fin 128) (f : Frame) (s : State) : State :=
  if s.matchTable[e].entry.decode then decodeEntry e f.data (superviseArrival e s) else superviseArrival e s

theorem goodArrival_eq (e : Fin 128) (f : Frame) (s : State) : goodArrival e f s =
    clearFault .frameMissing (entrySource e) (clearFault .frameShort (entrySource e) (decoded e f s)) := rfl

theorem goodArrival_told (e : Fin 128) (f : Frame) (s : State) :
    Told (decoded e f s) (goodArrival e f s) :=
  (clearFault_told _ _ _).trans (clearFault_told _ _ _)

theorem goodArrival_stored (e : Fin 128) (f : Frame) (s : State) :
    Stored (superviseArrival e s) (goodArrival e f s) := by
  have hdecoded : Stored (superviseArrival e s) (decoded e f s) :=
    Stored.ite (decodeEntry_stored e f.data _) (Stored.refl _)
  exact hdecoded.trans (goodArrival_told e f s).stored

theorem superviseArrival_keeps {ks : List (Fin 256)} {cs : List FaultCode} (e : Fin 128) (s : State) :
    Keeps ks cs s (superviseArrival e s) := by
  obtain ⟨m, h⟩ := superviseArrival_eq e s
  rw [h]
  exact Keeps.apart rfl rfl rfl rfl rfl rfl rfl rfl

theorem goodArrival_keeps (e : Fin 128) (f : Frame) (s : State) :
    Keeps (List.finRange 256) receptionCodes s (goodArrival e f s) := by
  have hdecoded : Keeps (List.finRange 256) receptionCodes (superviseArrival e s) (decoded e f s) :=
    Keeps.ite (decodeEntry_keeps e f.data _) (Keeps.refl _)
  refine ((superviseArrival_keeps e s).trans hdecoded).trans ?_
  exact (keeps_reception (clearFault_keeps_self _ _ _) (by decide)).trans
    (keeps_reception (clearFault_keeps_self _ _ _) (by decide))

theorem shortArrival_keeps (e : Fin 128) (s : State) :
    Keeps (List.finRange 256) receptionCodes s (shortArrival e s) := by
  refine Keeps.trans ?_ (keeps_reception (raiseFault_keeps_self _ _ _) (by decide))
  exact Keeps.apart rfl rfl rfl rfl rfl rfl rfl rfl

theorem arrived_keeps (e : Fin 128) (f : Frame) (s : State) :
    Keeps (List.finRange 256) receptionCodes s (arrived e f s) := by
  refine Keeps.trans (b := countHit e s) (Keeps.apart rfl rfl rfl rfl rfl rfl rfl rfl) ?_
  exact Keeps.ite (goodArrival_keeps e f _) (shortArrival_keeps e _)

theorem arrived_received (e : Fin 128) (f : Frame) (s : State) : Received s (arrived e f s) := by
  refine Received.trans (b := countHit e s) (Received.apart rfl) ?_
  unfold arrived
  split
  · obtain ⟨m, h⟩ := superviseArrival_eq e (countHit e s)
    refine Received.trans (b := superviseArrival e (countHit e s)) ?_ (.stored (goodArrival_stored e f _))
    rw [h]
    exact Received.apart rfl
  · exact Received.trans (Received.apart rfl) (.stored (raiseFault_told _ _ _).stored)

/-! ### The capture buffer (R177 to R182) -/

section
variable {p : Fin 3} {f : Frame} {e : Option Nat} {flag : Bool} {s : State}

theorem offerCapture_refused (h : s.capture.takes p flag = false) : offerCapture p f e flag s = s :=
  if_neg (by rw [h]; decide)

theorem captureTakes_false (h : s.capture.state = .idle ∨ s.capture.state = .frozen ∨ s.capture.ports.has p = false ∨
    s.capture.flagged = true ∧ flag = false) : s.capture.takes p flag = false := by
  rcases h with h | h | h | ⟨h, hf⟩
  · simp [CaptureUnit.takes, h]
  · simp [CaptureUnit.takes, h]
  · simp [CaptureUnit.takes, h]
  · simp [CaptureUnit.takes, h, hf]

theorem captureTakes_true (hstate : s.capture.state = .armed ∨ s.capture.state = .triggered)
    (hports : s.capture.ports.has p = true) (hflag : s.capture.flagged = false ∨ flag = true) :
    s.capture.takes p flag = true := by
  rcases hstate with hs | hs <;> rcases hflag with hf | hf <;> simp [CaptureUnit.takes, hs, hports, hf]

/-- A record of a frame offered now. -/
def captureRecord (p : Fin 3) (f : Frame) (e : Option Nat) (trigger : Bool) (s : State) : CaptureRecord :=
  { port := p, frame := f, time := s.msNow, entry := e, trigger := trigger }

theorem offerCapture_armed (h : s.capture.takes p flag = true) (hstate : s.capture.state = .armed) :
    offerCapture p f e flag s = { s with capture := { s.capture with
      ring := ringAdd s.capture.ring (captureRecord p f e false s) } } := by
  simp only [offerCapture, h, if_true, hstate, reduceCtorEq, decide_false, Bool.false_and, if_false]
  rfl

/-- A record written in TRIGGERED: the buffer freezes when none is left to record. -/
theorem offerCapture_triggered (h : s.capture.takes p flag = true) (hstate : s.capture.state = .triggered) :
    offerCapture p f e flag s =
      let c := ({ s.capture with
        ring := ringAdd s.capture.ring (captureRecord p f e s.capture.triggerPending s) } : CaptureUnit).counted
      if !c.triggerPending && c.remaining = 0 then
        setFlag .captureFrozen { s with capture := { c with state := .frozen } }
      else { s with capture := c } := by
  simp only [offerCapture, h, if_true, hstate, decide_true, Bool.true_and]
  rfl

/-- The first record in TRIGGERED is the trigger point. -/
theorem offerCapture_triggerPoint (h : s.capture.takes p flag = true) (hstate : s.capture.state = .triggered)
    (hpending : s.capture.triggerPending = true) :
    offerCapture p f e flag s =
      let c := { s.capture with
        ring := ringAdd s.capture.ring (captureRecord p f e true s)
        triggerPending := false }
      if s.capture.remaining = 0 then setFlag .captureFrozen { s with capture := { c with state := .frozen } }
      else { s with capture := c } := by
  rw [offerCapture_triggered h hstate]
  simp [CaptureUnit.counted, hpending]

/-- A later record in TRIGGERED counts the post count down. -/
theorem offerCapture_counts (h : s.capture.takes p flag = true) (hstate : s.capture.state = .triggered)
    (hpending : s.capture.triggerPending = false) :
    offerCapture p f e flag s =
      let c := { s.capture with
        ring := ringAdd s.capture.ring (captureRecord p f e false s)
        remaining := s.capture.remaining - 1 }
      if s.capture.remaining - 1 = 0 then setFlag .captureFrozen { s with capture := { c with state := .frozen } }
      else { s with capture := c } := by
  rw [offerCapture_triggered h hstate]
  simp [CaptureUnit.counted, hpending]

end

theorem asked_capture (s : State) (dt : Nat) : (s.asked dt).capture = s.capture := by
  obtain ⟨se, -, -, h⟩ := s.asked_eq dt
  rw [h]
  rfl

theorem captureStatus_congr {s t : State} (h : t.capture = s.capture) : t.captureStatus = s.captureStatus := by
  rw [State.captureStatus, State.captureStatus, h]

theorem triggerCode?_none {b : Byte} (h1 : 21 ≤ b.toNat) (h2 : b.toNat ≤ 254) : triggerCode? b = none := by
  have hb : b ≠ 255 := by
    rintro rfl
    exact absurd h2 (by decide)
  rw [triggerCode?, if_neg hb, faultCode?, List.getElem?_eq_none (by exact h1)]
  rfl

theorem answerArm_refused {ports filter post b : Byte} {s : State}
    (h : ports = 0 ∨ 8 ≤ ports.toNat ∨ 2 ≤ filter.toNat ∨ 21 ≤ b.toNat ∧ b.toNat ≤ 254) :
    answerArm ports filter post b s = refusal .badParameter s := by
  rw [answerArm]
  split
  · rfl
  · next code hcode =>
    refine if_pos ?_
    rcases h with h | h | h | ⟨h1, h2⟩
    · exact .inl h
    · exact .inr (.inl h)
    · exact .inr (.inr h)
    · rw [triggerCode?_none h1 h2] at hcode
      exact absurd hcode (by simp)

theorem answerArm_taken {ports filter post b : Byte} {code : Option FaultCode} {s : State} (h1 : 1 ≤ ports.toNat)
    (h7 : ports.toNat ≤ 7) (hfilter : filter.toNat ≤ 1) (hcode : triggerCode? b = some code) :
    answerArm ports filter post b s =
      let t := armCapture (portSetOf ports) (filter = 1) post.toNat code s
      { verdict := .done, payload := t.captureStatus, after := t } := by
  have hports : ports ≠ 0 := by
    rintro rfl
    exact absurd h1 (by decide)
  have hin : ¬ (ports = 0 ∨ 7 < ports.toNat ∨ 1 < filter.toNat) := by
    rintro (h | h | h)
    · exact hports h
    · exact absurd h7 (Nat.not_le.mpr h)
    · exact absurd hfilter (Nat.not_le.mpr h)
  rw [answerArm, hcode]
  exact if_neg hin

/-- The services of the capture buffer. -/
theorem captureServices {s : State} (dt : Nat) (hair : s.onAir = true) :
    (∀ (ports filter post b : Byte) (code : Option FaultCode), 1 ≤ ports.toNat → ports.toNat ≤ 7 →
      filter.toNat ≤ 1 → triggerCode? b = some code →
      let t := armCapture (portSetOf ports) (filter = 1) post.toNat code (s.asked dt)
      exec (.captureArm dt ports filter post b) s = .next (beginResponse 0x30 (message .done t.captureStatus) t)) ∧
    (s.capture.state = .armed →
      let t := triggerCapture (s.asked dt)
      exec (.captureTrigger dt) s = .next (beginResponse 0x31 (message .done t.captureStatus) t)) := by
  refine ⟨fun ports filter post b code h1 h7 hfilter hcode => ?_, fun hstate => ?_⟩
  · exact service_answered hair rfl (by simp) (answerArm_taken h1 h7 hfilter hcode)
  · refine service_answered hair rfl (by simp) (if_pos ?_)
    rw [asked_capture, hstate]

/-- Settles O47. -/
theorem captureServicesMoveTheBuffer : Obligations.CaptureServicesMoveTheBuffer := by
  refine ⟨fun s dt hair => ?_, fun s dt p f hawake hopen hdata hm hdiverts => ?_,
    fun s dt p f e hawake hopen hdata hm hdiverts htakes hfirst hstate hcode hports hroom => ?_⟩
  · have hcapture := asked_capture s dt
    have hstatus := captureStatus_congr hcapture
    refine ⟨fun ports filter post b code h1 h7 hfilter hcode => ?_, fun ports filter post b hbad => ?_, fun hstate => ?_,
      fun hstate => ?_, ?_, fun rewind hr hstate => ?_, fun rewind hr hstate => ?_⟩
    · exact (captureServices dt hair).1 ports filter post b code h1 h7 hfilter hcode
    · exact service_answered hair rfl (by simp) (answerArm_refused hbad)
    · have htrigger : triggerCapture (s.asked dt) = { s.asked dt with
          capture := { s.capture with state := .triggered, triggerPending := true } } := by
        rw [triggerCapture, hcapture, if_pos hstate]
      have h := (captureServices dt hair).2 hstate
      rw [htrigger] at h
      exact h
    · refine service_answered hair rfl (by simp) (?_ : answerTrigger _ = _)
      rw [answerTrigger, hcapture, if_neg hstate, hstatus]
    · refine service_answered hair rfl (by simp) (?_ : answerCaptureStatus _ = _)
      rw [answerCaptureStatus, hstatus]
      rfl
    · refine service_answered hair rfl (by simp) (?_ : answerCaptureRead rewind _ = _)
      rw [answerCaptureRead, if_neg (Nat.not_lt.mpr hr), hcapture, if_pos hstate]
    · refine service_answered hair rfl (by simp) (?_ : answerCaptureRead rewind _ = _)
      rw [answerCaptureRead, if_neg (Nat.not_lt.mpr hr), hcapture, if_neg hstate]
      rfl
  · have hexec := exec_frameReceived_setup dt hawake hopen hdata hdiverts hm
    have htakes : s.capture.ports.has p = true → s.capture.flagged = false →
        (s.capture.state = .armed ∨ s.capture.state = .triggered) →
        (countReception p (s.elapse dt)).capture.takes p false = true := fun hports hflag hstate =>
      captureTakes_true (s := countReception p (s.elapse dt)) hstate hports (.inl hflag)
    refine ⟨fun h => ?_, fun hports hflag => ⟨fun hs => ?_, fun hs hp hr => ?_, fun hs hp hr => ?_, fun hs hp hr => ?_,
      fun hs hp hr => ?_⟩⟩
    · refine hexec.trans (congrArg _ (offerCapture_refused (captureTakes_false ?_)))
      rcases h with h | h | h | h
      · exact .inl h
      · exact .inr (.inl h)
      · exact .inr (.inr (.inl h))
      · exact .inr (.inr (.inr ⟨h, rfl⟩))
    · exact hexec.trans (congrArg _ (offerCapture_armed (htakes hports hflag (.inl hs)) hs))
    · exact hexec.trans (congrArg _
        ((offerCapture_triggerPoint (htakes hports hflag (.inr hs)) hs hp).trans (if_neg hr)))
    · exact hexec.trans (congrArg _
        ((offerCapture_triggerPoint (htakes hports hflag (.inr hs)) hs hp).trans (if_pos hr)))
    · have hleft : s.capture.remaining - 1 ≠ 0 := by omega
      exact hexec.trans (congrArg _
        ((offerCapture_counts (htakes hports hflag (.inr hs)) hs hp).trans (if_neg hleft)))
    · have hnone : s.capture.remaining - 1 = 0 := by omega
      rw [hexec, offerCapture_counts (htakes hports hflag (.inr hs)) hs hp]
      refine congrArg _ ((if_pos hnone).trans ?_)
      rw [show (countReception p (s.elapse dt)).capture.remaining = s.capture.remaining from rfl, hnone]
      rfl
  · have hexec := exec_frameReceived_taken dt hawake hopen hdata hdiverts hm htakes hfirst
    rw [takenBy_eq] at hexec
    have hreceived := (arrived_received e (takenFrame f) (countReception p (s.elapse dt))).trans
      (forwardFrame_received s.matchTable[e].entry.forward p (takenFrame f) _)
    have hkeeps := (arrived_keeps e (takenFrame f) (countReception p (s.elapse dt))).trans
      (forwardFrame_keeps s.matchTable[e].entry.forward p (takenFrame f) _)
    generalize hu : forwardFrame s.matchTable[e].entry.forward p (takenFrame f)
      (arrived e (takenFrame f) (countReception p (s.elapse dt))) = u at hreceived hkeeps
    have hcapture : u.capture = s.capture := hkeeps.capture hcode
    have hnow : u.msNow = (s.elapse dt).msNow := hreceived.project (·.msNow) rfl
    refine ⟨fun hflag => ⟨_, hexec, ?_⟩, fun hflagged hno => ⟨_, hexec, ?_⟩⟩
    · have htake : u.capture.takes p s.matchTable[e].entry.capture = true := by
        rw [hcapture]
        exact captureTakes_true (.inl hstate) hports hflag
      have hjoin := offerCapture_armed (f := takenFrame f) (e := some e.val) htake (by rw [hcapture, hstate])
      rw [captureRecord, hcapture, hnow, ringAdd, if_pos hroom] at hjoin
      exact (congrArg State.capture (congrArg _ hu)).trans (congrArg State.capture hjoin)
    · have hskip : u.capture.takes p s.matchTable[e].entry.capture = false := by
        rw [hcapture]
        exact captureTakes_false (.inr (.inr (.inr ⟨hflagged, hno⟩)))
      exact (congrArg State.capture (congrArg _ hu)).trans
        ((congrArg State.capture (offerCapture_refused hskip)).trans hcapture)

/-! ### The classification of a frame (R11 to R15) -/

/-- A match entry's unit after a frame of `n` bytes has arrived at it. -/
def MatchUnit.arrival (u : MatchUnit) (n : Nat) (now : Nat) : MatchUnit :=
  { u with
    hits := bump32 u.hits
    shorts := if n < u.entry.minLength then bump32 u.shorts else u.shorts
    supervision :=
      if n < u.entry.minLength ∨ u.supervision = .none then u.supervision
      else .present (now + 1000 * u.entry.timeout) }

theorem superviseArrival_matchTable (e : Fin 128) (s : State) : (superviseArrival e s).matchTable =
    vput s.matchTable e { s.matchTable[e] with
      supervision := if s.matchTable[e].supervision = .none then .none
        else .present (s.after s.matchTable[e].entry.timeout) } := by
  unfold superviseArrival
  dsimp only
  split
  · next h =>
    rw [if_pos h, ← h]
    exact (vput_getElem_id _ _).symm
  · next h =>
    rw [if_neg h]
    rfl

theorem arrived_matchTable (e : Fin 128) (f : Frame) (s : State) : (arrived e f s).matchTable =
    vput s.matchTable e (s.matchTable[e].arrival f.data.length s.now) := by
  have hhit : (countHit e s).matchTable[e] = { s.matchTable[e] with hits := bump32 s.matchTable[e].hits } :=
    vput_same _ _ _
  unfold arrived MatchUnit.arrival
  split
  · next h =>
    rw [(goodArrival_stored e f _).project (·.matchTable) rfl, superviseArrival_matchTable, hhit]
    refine (vput_vput _ _ _ _).trans (congrArg _ ?_)
    by_cases hnone : s.matchTable[e].supervision = .none
    · simp only [Nat.not_lt.mpr h, if_false, false_or, if_pos hnone]
      rw [hnone]
    · simp only [Nat.not_lt.mpr h, if_false, false_or, if_neg hnone]
      rfl
  · next h =>
    have hraise : (shortArrival e (countHit e s)).matchTable =
        vput (countHit e s).matchTable e { (countHit e s).matchTable[e] with
          shorts := bump32 (countHit e s).matchTable[e].shorts } := (raiseFault_told _ _ _).project (·.matchTable) rfl
    rw [hraise, hhit]
    simp only [Nat.not_le.mp h, if_true, true_or]
    exact vput_vput _ _ _ _

theorem arrived_ports (e : Fin 128) (f : Frame) (s : State) :
    (arrived e f s).ports = s.ports ∧ (arrived e f s).link = s.link := by
  unfold arrived
  split
  · obtain ⟨m, h⟩ := superviseArrival_eq e (countHit e s)
    have hgood := goodArrival_stored e f (countHit e s)
    refine ⟨(hgood.project (·.ports) rfl).trans ?_, (hgood.project (·.link) rfl).trans ?_⟩
    · rw [h]
      rfl
    · rw [h]
      rfl
  · exact ⟨(raiseFault_told _ _ _).project (·.ports) rfl, (raiseFault_told _ _ _).project (·.link) rfl⟩

section
variable {e : Fin 128} {f : Frame} {k : Fin 240} {s : State}

theorem arrived_good (hdecode : s.matchTable[e].entry.decode = true)
    (hlen : s.matchTable[e].entry.minLength ≤ f.data.length) (hfed : s.fedBy k e = true) :
    ∃ a, a.descs = s.descs ∧ a.record k = s.record k ∧ (arrived e f s).record k = (decodeSlot k f.data a).record k := by
  obtain ⟨m, h⟩ := superviseArrival_eq e (countHit e s)
  have hfed' : (superviseArrival e (countHit e s)).fedBy k e = true := by
    rw [h]
    exact hfed
  obtain ⟨a, hdescs, hrecord, hdecoded⟩ := decodeEntry_fed (data := f.data) hfed'
  refine ⟨a, by rw [hdescs, h]; rfl, by rw [hrecord, h]; rfl, ?_⟩
  have hhit : (countHit e s).matchTable[e].entry.decode = true := by
    rw [show (countHit e s).matchTable[e] = _ from vput_same _ _ _]
    exact hdecode
  rw [arrived, if_pos hlen, (goodArrival_told e f _).record, decoded, if_pos hhit, hdecoded]

theorem arrived_other (hother : ¬ ((s.matchTable[e].entry.decode = true ∧
    s.matchTable[e].entry.minLength ≤ f.data.length) ∧ s.fedBy k e = true)) :
    (arrived e f s).record k = s.record k := by
  unfold arrived
  split
  · next hlen =>
    obtain ⟨m, h⟩ := superviseArrival_eq e (countHit e s)
    have hrecord : (superviseArrival e (countHit e s)).record k = s.record k := by
      rw [h]
      rfl
    rw [(goodArrival_told e f _).record, decoded]
    split
    · next hdecode =>
      have hhit : (countHit e s).matchTable[e].entry.decode = s.matchTable[e].entry.decode := by
        rw [show (countHit e s).matchTable[e] = _ from vput_same _ _ _]
      have hunfed : (superviseArrival e (countHit e s)).fedBy k e = false := by
        rw [h]
        exact Bool.eq_false_iff.mpr fun hfed => hother ⟨⟨hhit.symm.trans hdecode, hlen⟩, hfed⟩
      rw [decodeEntry_unfed hunfed, hrecord]
    · exact hrecord
  · exact (raiseFault_told _ _ _).record k

end

theorem forwardFrame_slots (set : ForwardSet) (p : Fin 3) (f : Frame) (s : State) :
    (forwardFrame set p f s).slots = s.slots ∧ (forwardFrame set p f s).matchTable = s.matchTable := by
  have hvisits : Offered s (each 3 (forwardVisit set p f) s) := forwardVisits_offered set p f s
  rw [forwardFrame_eq]
  split
  · obtain ⟨l, fl, a, h⟩ := offerForward_eq p f (each 3 (forwardVisit set p f) s)
    rw [h, hvisits]
    exact ⟨rfl, rfl⟩
  · rw [hvisits]
    exact ⟨rfl, rfl⟩

theorem forwardFrame_ports (set : ForwardSet) (p : Fin 3) (f : Frame) (s : State) :
    (forwardFrame set p f s).ports = (each 3 (forwardVisit set p f) s).ports := by
  rw [forwardFrame_eq]
  split
  · obtain ⟨l, fl, a, h⟩ := offerForward_eq p f (each 3 (forwardVisit set p f) s)
    rw [h]
  · rfl

theorem setFlag_keepsFlag {a b : Attention} {s : State} (h : s.flag b = true) : (setFlag a s).flag b = true :=
  (setFlag_keeps (ks := []) (cs := []) a s).flags b h

theorem offerCapture_keepsFlag {p : Fin 3} {f : Frame} {e : Option Nat} {flag : Bool} {a : Attention} {s : State}
    (h : s.flag a = true) : (offerCapture p f e flag s).flag a = true := by
  unfold offerCapture
  dsimp only
  split
  · split
    · split
      · exact setFlag_keepsFlag h
      · exact h
    · exact h
  · exact h

section
variable {set : ForwardSet} {p q : Fin 3} {f : Frame} {s : State}

theorem forwardFrame_flag {a : Attention} (h : (each 3 (forwardVisit set p f) s).flag a = true) :
    (forwardFrame set p f s).flag a = true := by
  rw [forwardFrame_eq]
  split
  · exact (offerForward_keeps (ks := []) (cs := []) p f _).flags a h
  · exact h

theorem forwardFrame_own : (forwardFrame set p f s).ports[p] = s.ports[p] := by
  obtain ⟨a, -, hport, hvisit, -⟩ := forwardVisits_port set p f p s
  have hskip : forwardVisit set p f p a = a := if_neg (by simp)
  refine (congrArg (fun ports : Vector PortUnit 3 => ports[p]) (forwardFrame_ports set p f s)).trans ?_
  rw [hvisit, hskip, hport]

theorem forwardFrame_outside (h : set.ports.has q = false) : (forwardFrame set p f s).ports[q] = s.ports[q] := by
  obtain ⟨a, -, hport, hvisit, -⟩ := forwardVisits_port set p f q s
  have hskip : forwardVisit set p f q a = a := if_neg (by simp [h])
  refine (congrArg (fun ports : Vector PortUnit 3 => ports[q]) (forwardFrame_ports set p f s)).trans ?_
  rw [hvisit, hskip, hport]

variable (hq : q ≠ p) (hset : set.ports.has q = true)
include hq hset

theorem forwardVisit_member : forwardVisit set p f q s = (offerFrame q f .forward s).2 :=
  if_pos (by simp [hset, hq])

theorem forwardFrame_joins (hopen : s.ports[q].open_ = true) (hroom : s.ports[q].queue.length < 16) :
    (forwardFrame set p f s).ports[q] = { s.ports[q] with
      queue := joinQueue { frame := f, key := arbitrationKey f, joined := s.now, origin := .forward, onBus := false }
        s.ports[q].queue } := by
  obtain ⟨a, ha, hport, hvisit, -⟩ := forwardVisits_port set p f q s
  have hnow : a.now = s.now := by rw [ha]
  refine (congrArg (fun ports : Vector PortUnit 3 => ports[q]) (forwardFrame_ports set p f s)).trans ?_
  rw [hvisit, forwardVisit_member hq hset, offerFrame_taken f .forward (by rw [hport, hopen]) (by rw [hport]; exact hroom)]
  refine (vput_same _ _ _).trans ?_
  rw [hport, hnow]

theorem forwardFrame_overflows (h : s.ports[q].open_ = false ∨ 16 ≤ s.ports[q].queue.length) :
    (forwardFrame set p f s).flag .txDrop = true ∧
    (forwardFrame set p f s).ports[q] = { s.ports[q] with
      counters := { s.ports[q].counters with overflow := bump32 s.ports[q].counters.overflow } } := by
  obtain ⟨a, ha, hport, hvisit, hkeeps⟩ := forwardVisits_port set p f q s
  rw [← hport] at h
  have hfull := offerFrame_refused (p := q) f .forward h
  refine ⟨forwardFrame_flag (hkeeps.flags _ ?_), ?_⟩
  · rw [forwardVisit_member hq hset, hfull]
    exact setFlag_flag _ _
  · refine (congrArg (fun ports : Vector PortUnit 3 => ports[q]) (forwardFrame_ports set p f s)).trans ?_
    rw [hvisit, forwardVisit_member hq hset, hfull]
    refine (vput_same _ _ _).trans ?_
    rw [hport]

end

section
variable {set : ForwardSet} (p : Fin 3) (f : Frame) (s : State)

theorem forwardVisits_link : (each 3 (forwardVisit set p f) s).link = s.link := by
  rw [forwardVisits_offered set p f s]

theorem forwardFrame_noPanel (h : set.panel = false) : (forwardFrame set p f s).link = s.link := by
  rw [forwardFrame_eq, if_neg (by simp [h]), forwardVisits_link]

variable {s}

theorem forwardFrame_panelRoom (h : set.panel = true) (hroom : s.link.egress.length < 28) :
    (forwardFrame set p f s).link = { s.link with
      forwardSeq := s.link.forwardSeq + 1
      egress := s.link.egress ++ [.forward s.link.forwardSeq p f] } := by
  rw [forwardFrame_eq, if_pos h, offerForward_room p f (by rw [forwardVisits_link]; exact hroom), forwardVisits_link]

theorem forwardFrame_panelFull (h : set.panel = true) (hfull : 28 ≤ s.link.egress.length) :
    (forwardFrame set p f s).flag .txDrop = true ∧ (forwardFrame set p f s).link = { s.link with
      forwardSeq := s.link.forwardSeq + 1
      forwardDrops := bump32 s.link.forwardDrops } := by
  obtain ⟨hflag, hlink⟩ := offerForward_full p f (s := each 3 (forwardVisit set p f) s)
    (by rw [forwardVisits_link]; exact hfull)
  rw [forwardFrame_eq, if_pos h]
  exact ⟨hflag, by rw [hlink, forwardVisits_link]⟩

end

/-- The frame offer leaves all but the capture buffer and its flag. -/
theorem offerCapture_rest (p : Fin 3) (f : Frame) (e : Option Nat) (flag : Bool) (s : State) :
    let t := offerCapture p f e flag s
    t.ports = s.ports ∧ t.matchTable = s.matchTable ∧ t.link = s.link ∧ t.slots = s.slots ∧ Received s t := by
  obtain ⟨c, fl, a, h⟩ := offerCapture_eq p f e flag s
  rw [h]
  exact ⟨rfl, rfl, rfl, rfl, Received.apart rfl⟩

theorem takenBy_tables (e : Fin 128) (p : Fin 3) (f : Frame) (s : State) : (takenBy e p f s).tables = s.tables :=
  (takenBy_runs (k := Scope.powering) trivial e p f s).tables id

theorem takenBy_received (e : Fin 128) (p : Fin 3) (f : Frame) (s : State) : Received s (takenBy e p f s) := by
  rw [takenBy_eq]
  exact ((arrived_received e f s).trans (forwardFrame_received _ p f _)).trans (offerCapture_rest _ _ _ _ _).2.2.2.2

section
variable {e : Fin 128} {p : Fin 3} {f : Frame} {s : State}

theorem takenBy_matchTable : (takenBy e p f s).matchTable =
    vput s.matchTable e (s.matchTable[e].arrival f.data.length s.now) := by
  rw [takenBy_eq, (offerCapture_rest _ _ _ _ _).2.1, (forwardFrame_slots _ _ _ _).2, arrived_matchTable]

theorem takenBy_record (k : Fin 240) : (takenBy e p f s).record k = (arrived e f s).record k := by
  rw [takenBy_eq, State.record, (offerCapture_rest _ _ _ _ _).2.2.2.1, (forwardFrame_slots _ _ _ _).1]
  rfl

theorem takenBy_ports : (takenBy e p f s).ports =
    (forwardFrame s.matchTable[e].entry.forward p f (arrived e f s)).ports := by
  rw [takenBy_eq, (offerCapture_rest _ _ _ _ _).1]

theorem takenBy_link : (takenBy e p f s).link =
    (forwardFrame s.matchTable[e].entry.forward p f (arrived e f s)).link := by
  rw [takenBy_eq, (offerCapture_rest _ _ _ _ _).2.2.1]

theorem arrived_port (q : Fin 3) : (arrived e f s).ports[q] = s.ports[q] :=
  congrArg (fun ports : Vector PortUnit 3 => ports[q]) (arrived_ports e f s).1

theorem takenBy_flag (h : (forwardFrame s.matchTable[e].entry.forward p f (arrived e f s)).flag .txDrop = true) :
    (takenBy e p f s).flag .txDrop = true := by
  rw [takenBy_eq]
  exact offerCapture_keepsFlag h

/-- Where a taken frame is forwarded: the ports. -/
theorem takenBy_forwards {q : Fin 3} (hq : q ≠ p) :
    let set := s.matchTable[e].entry.forward.ports
    let t := takenBy e p f s
    (set.has q = false → t.ports[q] = s.ports[q]) ∧
    (set.has q = true → s.ports[q].open_ = true → s.ports[q].queue.length < 16 →
      t.ports[q] = { s.ports[q] with
        queue := joinQueue { frame := f, key := arbitrationKey f, joined := s.now, origin := .forward, onBus := false }
          s.ports[q].queue }) ∧
    (set.has q = true → (s.ports[q].open_ = false ∨ 16 ≤ s.ports[q].queue.length) →
      t.flag .txDrop = true ∧ t.ports[q] = { s.ports[q] with
        counters := { s.ports[q].counters with overflow := bump32 s.ports[q].counters.overflow } }) := by
  have hport : (arrived e f s).ports[q] = s.ports[q] := arrived_port q
  have hnow : (arrived e f s).now = s.now := (arrived_received e f s).project (·.now) rfl
  have hports := congrArg (fun ports : Vector PortUnit 3 => ports[q]) (takenBy_ports (e := e) (p := p) (f := f) (s := s))
  refine ⟨fun h => hports.trans ((forwardFrame_outside h).trans hport), fun h hopen hroom => hports.trans ?_,
    fun h hfull => ?_⟩
  · have hjoins := forwardFrame_joins (f := f) hq h (s := arrived e f s) (by rw [hport, hopen]) (by rw [hport]; exact hroom)
    rw [hport, hnow] at hjoins
    exact hjoins
  · obtain ⟨hflag, hoverflow⟩ := forwardFrame_overflows (f := f) hq h (s := arrived e f s) (by rw [hport]; exact hfull)
    rw [hport] at hoverflow
    exact ⟨takenBy_flag hflag, hports.trans hoverflow⟩

/-- Where a taken frame is forwarded: the panel. -/
theorem takenBy_forwardsToPanel :
    let panel := s.matchTable[e].entry.forward.panel
    let t := takenBy e p f s
    (panel = false → t.link = s.link) ∧
    (panel = true → s.link.egress.length < 28 → t.link = { s.link with
      forwardSeq := s.link.forwardSeq + 1
      egress := s.link.egress ++ [.forward s.link.forwardSeq p f] }) ∧
    (panel = true → 28 ≤ s.link.egress.length → t.flag .txDrop = true ∧ t.link = { s.link with
      forwardSeq := s.link.forwardSeq + 1
      forwardDrops := bump32 s.link.forwardDrops }) := by
  have hlink : (arrived e f s).link = s.link := (arrived_ports e f s).2
  refine ⟨fun h => ?_, fun h hroom => ?_, fun h hfull => ?_⟩
  · rw [takenBy_link, forwardFrame_noPanel p f _ h, hlink]
  · rw [takenBy_link, forwardFrame_panelRoom p f h (by rw [hlink]; exact hroom), hlink]
  · obtain ⟨hflag, hl⟩ := forwardFrame_panelFull p f h (s := arrived e f s) (by rw [hlink]; exact hfull)
    rw [hlink] at hl
    exact ⟨takenBy_flag hflag, takenBy_link.trans hl⟩

end

theorem countUnmatched_reception (p : Fin 3) (s : State) : countUnmatched p (countReception p s) = { s with
    ports := vput s.ports p { s.ports[p] with
      activity := true
      counters := { s.ports[p].counters with
        received := bump32 s.ports[p].counters.received
        unmatched := bump32 s.ports[p].counters.unmatched } } } := by
  simp [countUnmatched, countReception, putPort]

theorem unmatched_effect (p : Fin 3) (f : Frame) (s : State) :
    let t := unmatched p f (countReception p s)
    t.ports = vput s.ports p { s.ports[p] with
      activity := true
      counters := { s.ports[p].counters with
        received := bump32 s.ports[p].counters.received
        unmatched := bump32 s.ports[p].counters.unmatched } } ∧
    t = { s with
      ports := t.ports
      link := t.link
      capture := t.capture
      flags := t.flags
      attn := t.attn } ∧
    (s.ports[p].entry.defaultAction = .drop → t.link = s.link) ∧
    (s.ports[p].entry.defaultAction = .panel → s.link.egress.length < 28 → t.link = { s.link with
      forwardSeq := s.link.forwardSeq + 1
      egress := s.link.egress ++ [.forward s.link.forwardSeq p f] }) ∧
    (s.ports[p].entry.defaultAction = .panel → 28 ≤ s.link.egress.length →
      t.flag .txDrop = true ∧ t.link = { s.link with
        forwardSeq := s.link.forwardSeq + 1
        forwardDrops := bump32 s.link.forwardDrops }) := by
  have hport : (countUnmatched p (countReception p s)).ports[p].entry = s.ports[p].entry := by
    rw [countUnmatched_reception]
    exact (congrArg PortUnit.entry (vput_same s.ports p _)).trans rfl
  have hlink : (countUnmatched p (countReception p s)).link = s.link := rfl
  unfold unmatched
  dsimp only
  rw [hport]
  cases s.ports[p].entry.defaultAction with
  | drop =>
    obtain ⟨c, fl, a, h⟩ := offerCapture_eq p f none false (countUnmatched p (countReception p s))
    rw [h, countUnmatched_reception]
    exact ⟨rfl, rfl, fun _ => rfl, fun h => DefaultAction.noConfusion h, fun h => DefaultAction.noConfusion h⟩
  | panel =>
    obtain ⟨c, fl, a, h⟩ := offerCapture_eq p f none false (offerForward p f (countUnmatched p (countReception p s)))
    obtain ⟨l, fl', a', h'⟩ := offerForward_eq p f (countUnmatched p (countReception p s))
    have hrest := (offerCapture_rest p f none false (offerForward p f (countUnmatched p (countReception p s)))).2.2.1
    refine ⟨?_, ?_, fun h => DefaultAction.noConfusion h, fun _ hroom => ?_, fun _ hfull => ?_⟩
    · rw [h, h', countUnmatched_reception]
    · rw [h, h', countUnmatched_reception]
    · rw [hrest, offerForward_room p f (by rw [hlink]; exact hroom), hlink]
    · obtain ⟨hflag, hl⟩ := offerForward_full p f (s := countUnmatched p (countReception p s)) (by rw [hlink]; exact hfull)
      exact ⟨offerCapture_keepsFlag hflag, by rw [hrest, hl, hlink]⟩

/-- Settles O27. -/
theorem receivedFramesAreClassified : Obligations.ReceivedFramesAreClassified := by
  intro s dt p f hawake hopen
  refine ⟨fun hremote => ?_, fun hdata hm hdiverts => ⟨fun e htakes hfirst => ?_, fun hnone => ?_⟩⟩
  · rw [exec_frameReceived dt hawake hopen, hremote]
    refine congrArg _ ((if_pos rfl).trans ?_)
    simp [countRemote, countReception, putPort]
  · have htables := (takenBy_tables e p (takenFrame f) (countReception p (s.elapse dt))).trans
      ((countReception_runs (k := Scope.powering) p (s.elapse dt)).tables id)
    have hmatch := takenBy_matchTable (e := e) (p := p) (f := takenFrame f) (s := countReception p (s.elapse dt))
    have hentry : (takenBy e p (takenFrame f) (countReception p (s.elapse dt))).matchTable[e] =
        s.matchTable[e].arrival (takenFrame f).data.length (s.now + dt) :=
      (congrArg (fun m : Vector MatchUnit 128 => m[e]) hmatch).trans (vput_same _ _ _)
    obtain ⟨hnoPanel, hroom, hfull⟩ :=
      takenBy_forwardsToPanel (e := e) (p := p) (f := takenFrame f) (s := countReception p (s.elapse dt))
    refine ⟨_, exec_frameReceived_taken dt hawake hopen hdata hdiverts hm htakes hfirst, ?_, by rw [hentry]; rfl,
      by rw [hentry]; rfl, by rw [hentry]; rfl, fun j hj => ?_, htables, fun hgood k hkind hsource => ?_,
      fun k hk => ?_, fun q hq => ?_, ?_, ?_, ?_, ?_⟩
    · refine (congrArg (fun ports : Vector PortUnit 3 => ports[p]) takenBy_ports).trans ?_
      refine (forwardFrame_own.trans (arrived_port p)).trans ?_
      exact (vput_same _ _ _).trans rfl
    · exact (congrArg (fun m : Vector MatchUnit 128 => m[j]) hmatch).trans (vput_other _ _ hj)
    · obtain ⟨a, hdescs, hrecord, hdecoded⟩ := arrived_good (s := countReception p (s.elapse dt)) hgood.1 hgood.2
        (fedBy_iff.mpr ⟨hkind, hsource⟩)
      have hd : a.descs[k] = s.descs[k] := congrArg (fun ds : Vector SlotDesc 240 => ds[k]) hdescs
      have hr : a.record k = s.record k := hrecord
      rw [takenBy_record, hdecoded, ← hd, ← hr]
      exact ⟨decodeSlot_raw k _ a, decodeSlot_notAvailable, decodeSlot_senderError, decodeSlot_valid⟩
    · rw [takenBy_record]
      exact arrived_other fun ⟨hgood, hfed⟩ => hk ⟨hgood, fedBy_iff.mp hfed⟩
    · have hport : (countReception p (s.elapse dt)).ports[q] = s.ports[q] := vput_other _ _ hq
      have hforwards := takenBy_forwards (e := e) (f := takenFrame f) (s := countReception p (s.elapse dt)) hq
      rw [hport] at hforwards
      exact hforwards
    · exact hnoPanel
    · exact hroom
    · exact hfull
    · exact Received.trans (b := countReception p (s.elapse dt)) (Received.apart rfl) (takenBy_received e p _ _)
  · refine ⟨_, exec_frameReceived_unmatched dt hawake hopen hdata hdiverts hm hnone, ?_⟩
    exact unmatched_effect p (takenFrame f) (s.elapse dt)

end Sys2Proof.Machine
end

section
/-! PROOFS. The door supervisor (chapter 7): what a movement of a door makes of the doors, its slot and its flag, the
requests for a door, and the doors' deadlines and inputs. -/

namespace Sys2Proof.Machine

/-! ### The doors as they are published (R137) -/

theorem Tell.doors {s t : State} (h : Tell s t) : t.doors = s.doors := h.project (·.doors) rfl

@[simp] theorem decideBrake_doors (s : State) : (decideBrake s).doors = s.doors := (redrive_tell _).doors

@[simp] theorem publish_doors {k : Fin 256} (hk : 240 ≤ k.val) (v : Nat) (s : State) :
    (publish k v s).doors = s.doors :=
  (publish_tell hk v s).doors

@[simp] theorem decidePermit_doors (s : State) : (decidePermit s).doors = s.doors :=
  (redrive_tell _).doors.trans (publish_tell (by decide) _ _).doors

@[simp] theorem publishDoors_doors (s : State) : (publishDoors s).doors = s.doors :=
  (decidePermit_doors _).trans (publish_tell (by decide) _ _).doors

@[simp] theorem doorDeparted_doors (s : State) : (doorDeparted s).doors = s.doors := by
  unfold doorDeparted
  split
  · rfl
  · rfl

@[simp] theorem setFlag_doors (f : Attention) (s : State) : (setFlag f s).doors = s.doors := rfl

/-- A door's state is published, with what the doors derive together. -/
def doorPublished (d : Fin 4) (s : State) : State :=
  setFlag .door (publishDoors (publish (slotDoorState d) s.doors[d].state.code s))

theorem handOnDoor_eq (d : Fin 4) (old : DoorState) (s : State) : handOnDoor d old s =
    if old = .closedLocked then doorDeparted (doorPublished d s) else doorPublished d s := rfl

theorem doorPublished_doors (d : Fin 4) (s : State) : (doorPublished d s).doors = s.doors := by
  rw [doorPublished, setFlag_doors, publishDoors_doors, publish_doors (slotDoorState_ge d)]

theorem doorPublished_moved (d : Fin 4) (s : State) : Moved s (doorPublished d s) :=
  ((publish_tell (slotDoorState_ge d) _ _).moved.trans (publishDoors_moved _)).trans (setFlag_tell _ _).moved

theorem slotDoorState_apart : ∀ d : Fin 4,
    slotDoorState d ∉ [slotAnyDoorOpen, slotDrivePermit, slotActiveFaults, slotStopRequested] := by decide

theorem doorPublished_slot (d : Fin 4) (s : State) :
    (doorPublished d s).slots[slotDoorState d].value = s.doors[d].state.code := by
  have hkeeps := (publishDoors_keeps (ks := [slotAnyDoorOpen, slotDrivePermit, slotActiveFaults, slotStopRequested])
    (cs := []) (publish (slotDoorState d) s.doors[d].state.code s) (by simp) (by simp)).trans (setFlag_keeps .door _)
  rw [doorPublished, hkeeps.slots _ (slotDoorState_apart d), publish_value]

/-- A change of a door, handed on: its record, its slot and the flag. -/
structure DoorBecomes (d : Fin 4) (y : DoorUnit) (s t : State) : Prop where
  doors : t.doors = vput s.doors d y
  slot : t.slots[slotDoorState d].value = y.state.code
  flag : t.flag .door = true
  moved : Moved s t

namespace DoorBecomes

variable {d : Fin 4} {y : DoorUnit} {s t u : State}

theorem door (h : DoorBecomes d y s t) : t.doors[d] = y :=
  (congrArg (fun ds : Vector DoorUnit 4 => ds[d]) h.doors).trans (vput_same _ _ _)

theorem other (h : DoorBecomes d y s t) {j : Fin 4} (hj : j ≠ d) : t.doors[j] = s.doors[j] :=
  (congrArg (fun ds : Vector DoorUnit 4 => ds[j]) h.doors).trans (vput_other _ _ hj)

/-- What leaves the doors and the door's slot keeps the change. -/
theorem next (h : DoorBecomes d y s t) {ks : List (Fin 256)} {cs : List FaultCode} (hdoors : u.doors = t.doors)
    (hk : Keeps ks cs t u) (hks : slotDoorState d ∉ ks) (hm : Moved t u) : DoorBecomes d y s u :=
  ⟨hdoors.trans h.doors, (congrArg SlotRec.value (hk.slots _ hks)).trans h.slot, hk.flags _ h.flag, h.moved.trans hm⟩

theorem tell (h : DoorBecomes d y s t) {cs : List FaultCode} (hk : Keeps [] cs t u) (ht : Tell t u) :
    DoorBecomes d y s u :=
  h.next ht.doors hk (by simp) ht.moved

theorem told (h : DoorBecomes d y s t) {cs : List FaultCode} (hk : Keeps [slotActiveFaults] cs t u) (ht : Told t u) :
    DoorBecomes d y s u :=
  h.next (ht.project (·.doors) rfl) hk (fun hm => slotDoorState_apart d (by simp_all)) ht.moved

end DoorBecomes

theorem handOnDoor_becomes {d : Fin 4} {y : DoorUnit} {s : State} (old : DoorState) (h : y.entry = s.doors[d].entry) :
    DoorBecomes d y s (handOnDoor d old (putDoor d y s)) := by
  have hdoor : (putDoor d y s).doors[d] = y := vput_same _ _ _
  have hpublished : DoorBecomes d y s (doorPublished d (putDoor d y s)) :=
    ⟨doorPublished_doors d _, by rw [doorPublished_slot, hdoor], setFlag_flag _ _,
      (putDoor_moved d y s h).trans (doorPublished_moved d _)⟩
  rw [handOnDoor_eq]
  split
  · exact hpublished.next (doorDeparted_doors _) (doorDeparted_keeps (ks := []) (cs := []) _) (by simp)
      (doorDeparted_moved _)
  · exact hpublished

theorem clearStopLatch_doors (s : State) : (clearStopLatch s).doors = s.doors :=
  (withdrawRequest_tell _ _).doors.trans (publish_tell (by decide) _ _).doors

/-- A door's passage: its record, its slot and its flag. -/
theorem moveDoor_becomes {d : Fin 4} {y : DoorUnit} {s : State} (h : y.entry = s.doors[d].entry) :
    DoorBecomes d y s (moveDoor d y s) := by
  have hhanded := handOnDoor_becomes s.doors[d].state h
  have hchime : DoorBecomes d y s (if s.doors[d].state = .closing then
      withdrawRequest (doorRequester d) (handOnDoor d s.doors[d].state (putDoor d y s))
      else handOnDoor d s.doors[d].state (putDoor d y s)) := by
    split
    · exact hhanded.tell (withdrawRequest_keeps (cs := []) _ _) (withdrawRequest_tell _ _)
    · exact hhanded
  unfold moveDoor
  dsimp only
  split
  · exact hchime.tell (placeIf_keeps (cs := []) _ _ _) (placeIf_tell _ _ _)
  · refine hchime.next (clearStopLatch_doors _)
      (clearStopLatch_keeps (ks := [slotStopRequested]) (cs := []) _ (by simp))
      (fun hm => slotDoorState_apart d (by simp_all)) (clearStopLatch_moved _)
  · exact hchime.told (clearForced_keeps (cs := [.doorForced, .doorObstructed]) d _ (by simp) (by simp) (by simp))
      (clearForced_told d _)
  · exact hchime

theorem goDoor_becomes (d : Fin 4) (st : DoorState) (s : State) :
    DoorBecomes d (s.doors[d].enter st s) s (goDoor d st s) :=
  moveDoor_becomes (enter_entry _ _ _)

/-! ### Faults at a movement -/

theorem doorPublished_faults (d : Fin 4) (s : State) : (doorPublished d s).faults = s.faults := by
  rw [doorPublished, (setFlag_tell _ _).faults, publishDoors_faults, (publish_tell (slotDoorState_ge d) _ _).faults]

theorem handOnDoor_faults (d : Fin 4) (old : DoorState) (s : State) : (handOnDoor d old s).faults = s.faults := by
  have hdeparted : (doorDeparted (doorPublished d s)).faults = (doorPublished d s).faults := by
    unfold doorDeparted
    split
    · rfl
    · rfl
  rw [handOnDoor_eq]
  split
  · rw [hdeparted, doorPublished_faults]
  · exact doorPublished_faults d s

theorem clearStopLatch_faults (s : State) : (clearStopLatch s).faults = s.faults :=
  (withdrawRequest_tell _ _).faults.trans (publish_tell (by decide) _ _).faults

/-- A passage to another state than CLOSED_LOCKED leaves the fault monitor. -/
theorem moveDoor_faults {d : Fin 4} {y : DoorUnit} (s : State) (h : y.state ≠ .closedLocked) :
    (moveDoor d y s).faults = s.faults := by
  have hhanded : (handOnDoor d s.doors[d].state (putDoor d y s)).faults = s.faults := handOnDoor_faults d _ _
  have hchime : (if s.doors[d].state = .closing then
      withdrawRequest (doorRequester d) (handOnDoor d s.doors[d].state (putDoor d y s))
      else handOnDoor d s.doors[d].state (putDoor d y s)).faults = s.faults := by
    split
    · rw [(withdrawRequest_tell _ _).faults, hhanded]
    · exact hhanded
  unfold moveDoor
  dsimp only
  split
  · rw [(placeIf_tell _ _ _).faults, hchime]
  · rw [clearStopLatch_faults, hchime]
  · next hstate => exact absurd hstate h
  · exact hchime

theorem setFields_faults (d : Fin 4) (r o : Bool) (s : State) : (setFields d r o s).faults = s.faults := by
  unfold setFields
  dsimp only
  split
  · rfl
  · exact publishDoors_faults _

/-- A door in FAULT takes the drive permit away. -/
theorem permit_of_fault {s : State} {d : Fin 4} (h : s.doors[d].state = .fault) : s.permit = false := by
  rw [Bool.eq_false_iff]
  intro hp
  have hall := (Bool.and_eq_true_iff.mp hp).2
  have hd := List.all_eq_true.mp hall d (List.mem_finRange d)
  simp only [Bool.and_eq_true, decide_eq_true_eq] at hd
  exact hd.2 h

theorem publishDoors_permit (s : State) : (publishDoors s).drivePermit = (publishDoors s).permit :=
  (publishDoors_decides s).1.1

/-- The drive permit after a door has passed to FAULT. -/
theorem moveDoor_permit {d : Fin 4} {y : DoorUnit} (s : State) (h : y.state = .fault) :
    (moveDoor d y s).drivePermit = false := by
  have hdoor : (publishDoors (publish (slotDoorState d) (putDoor d y s).doors[d].state.code (putDoor d y s))).doors[d] = y := by
    rw [publishDoors_doors, publish_doors (slotDoorState_ge d)]
    exact vput_same _ _ _
  have hpublished : (doorPublished d (putDoor d y s)).drivePermit = false := by
    rw [doorPublished, (setFlag_tell _ _).permit.2.2.1, publishDoors_permit]
    exact permit_of_fault (d := d) (by rw [hdoor, h])
  have hhanded : (handOnDoor d s.doors[d].state (putDoor d y s)).drivePermit = false := by
    rw [handOnDoor_eq, doorDeparted]
    split
    · split
      · exact hpublished
      · exact hpublished
    · exact hpublished
  unfold moveDoor
  dsimp only
  rw [h]
  dsimp only
  split
  · exact ((withdrawRequest_tell _ _).project (·.drivePermit) rfl).trans hhanded
  · exact hhanded

/-! ### Deadlines (R134) -/

theorem markConfirmed_confirms {c : FaultCode} {src : Option Nat} {s : State} (h : s.isLive c src = true) :
    (markConfirmed c src s).isConfirmed c src = true := by
  obtain ⟨e, he, hpair⟩ := List.any_eq_true.mp h
  have hcode : e.code = c ∧ e.source = src := by simpa [LiveEntry.isPair] using hpair
  have hmark := markConfirmed_isConfirmed he
  rwa [hcode.1, hcode.2] at hmark

theorem confirmPair_confirms {c : FaultCode} {src : Option Nat} {s : State} (h : s.isLive c src = true) :
    (confirmPair c src s).isConfirmed c src = true := by
  rw [State.isConfirmed, confirmPair_live]
  exact markConfirmed_confirms h

/-- A pair whose code is confirmed at once is confirmed as it joins the live set (R154, R155). -/
theorem raiseFault_isConfirmed {c : FaultCode} {src : Option Nat} {s : State} (hact : s.isActive = true)
    (hroom : s.faults.live.length < 48) (hnew : s.isLive c src = false) (htime : s.confirmTime c = 0) :
    (raiseFault c src s).isConfirmed c src = true := by
  have hraise : ¬(!s.isActive || s.isLive c src) = true := by simp [hact, hnew]
  have hjoin : ∀ e : LiveEntry, e.code = c → e.source = src →
      (handOn { s with faults := { s.faults with live := s.faults.live ++ [e] } }).isLive c src = true := by
    rintro e rfl rfl
    rw [handOn_isLive]
    simp [State.isLive, LiveEntry.isPair]
  rw [raiseFault, if_neg hraise, if_neg (Nat.not_le.mpr hroom)]
  dsimp only
  rw [if_pos (by rw [State.confirmTime, handOn_faults]; exact htime)]
  exact confirmPair_confirms (hjoin _ rfl rfl)

/-- The timeout fault of a state. -/
def timeoutCode (st : DoorState) : FaultCode := if st = .opening then .doorOpenTimeout else .doorCloseTimeout

theorem expireDoor_due {d : Fin 4} {due : Nat} {s : State} (hdeadline : s.doors[d].deadline = some due) (hdue : due ≤ s.now)
    (h : s.doors[d].state = .opening ∨ s.doors[d].state = .closing ∨ s.doors[d].state = .unlocked) :
    expireDoor d s = raiseFault (timeoutCode s.doors[d].state) (doorSource d) (goDoor d .fault s) := by
  have hrun : s.due s.doors[d].deadline = true := by
    rw [hdeadline]
    exact decide_eq_true hdue
  rw [expireDoor, if_pos hrun]
  rcases h with h | h | h
  all_goals
    rw [h]
    rfl

/-- Settles O43. -/
theorem doorDeadlineTakesTheDoorToFault : Obligations.DoorDeadlineTakesTheDoorToFault := by
  intro s dt due d hawake hdeadline hdue hstate code
  obtain ⟨hreset, hact⟩ := s.awake_iff.mp hawake
  have hstep : expireDoor d (s.elapse dt) =
      raiseFault (timeoutCode s.doors[d].state) (doorSource d) (goDoor d .fault (s.elapse dt)) :=
    expireDoor_due (s := s.elapse dt) hdeadline hdue hstate
  have hgone := goDoor_becomes d .fault (s.elapse dt)
  have hraised := hgone.told (raiseFault_keeps_self (timeoutCode s.doors[d].state) (doorSource d) _) (raiseFault_told _ _ _)
  have hfaults : (goDoor d .fault (s.elapse dt)).faults = s.faults :=
    moveDoor_faults (s.elapse dt) (by simp [DoorUnit.enter])
  refine ⟨_, (event_of_awake hreset).trans (congrArg _ hstep), by rw [hraised.door]; rfl, by rw [hraised.door]; rfl,
    by rw [hraised.door]; rfl, by rw [hraised.door]; rfl, fun j hj => hraised.other hj, hraised.slot, hraised.flag, ?_,
    fun htime hroom hnew => ?_, hraised.moved⟩
  · rw [(raiseFault_told _ _ _).project (·.drivePermit) rfl]
    exact moveDoor_permit (s.elapse dt) rfl
  · have hactive : (goDoor d .fault (s.elapse dt)).isActive = true := (hgone.moved.project (·.isActive) rfl).trans hact
    refine raiseFault_isConfirmed hactive (by rw [hfaults]; exact hroom) ?_ ?_
    · rw [State.isLive, hfaults]
      exact hnew
    · rw [State.confirmTime, hfaults]
      exact htime

/-! ### Requests (R138 to R140) -/

/-- A change of a door's fields: the door's state, and the other doors, stay. -/
structure FieldsSet (d : Fin 4) (released openCommand : Bool) (s t : State) : Prop where
  released : t.doors[d].released = released
  openCommand : t.doors[d].openCommand = openCommand
  state : t.doors[d].state = s.doors[d].state
  other : ∀ j, j ≠ d → t.doors[j] = s.doors[j]
  moved : Moved s t

theorem setFields_fields (d : Fin 4) (r o : Bool) (s : State) : FieldsSet d r o s (setFields d r o s) := by
  have hmoved := setFields_moved d r o s
  unfold setFields at hmoved ⊢
  dsimp only at hmoved ⊢
  split
  · next h => exact ⟨h.1, h.2, rfl, fun _ _ => rfl, Moved.refl s⟩
  · next h =>
    rw [if_neg h] at hmoved
    have hdoors : ∀ u : DoorUnit, (publishDoors (putDoor d u s)).doors = vput s.doors d u := fun u => publishDoors_doors _
    have hdoor : ∀ u : DoorUnit, (publishDoors (putDoor d u s)).doors[d] = u := fun u =>
      (congrArg (fun ds : Vector DoorUnit 4 => ds[d]) (hdoors u)).trans (vput_same _ _ _)
    refine ⟨by rw [hdoor], by rw [hdoor], by rw [hdoor], fun j hj => ?_, hmoved⟩
    exact (congrArg (fun ds : Vector DoorUnit 4 => ds[j]) (hdoors _)).trans (vput_other _ _ hj)

section
variable {d : Fin 4} {s : State}

theorem requestDoor_release (h : s.grantsDoor d = true) :
    requestDoor d .release s = (true, setFields d true s.doors[d].openCommand s) := if_pos h

theorem requestDoor_open (h : s.grantsDoor d = true) :
    requestDoor d .open_ s = (true, setFields d true true s) := if_pos h

theorem requestDoor_refused {a : DoorAction} (ha : a ≠ .close) (h : s.grantsDoor d = false) :
    requestDoor d a s = (false, putDoor d { s.doors[d] with refused := bump32 s.doors[d].refused } s) := by
  cases a with
  | release => exact if_neg (by simp [h])
  | open_ => exact if_neg (by simp [h])
  | close => exact absurd rfl ha

theorem requestDoor_close (h : s.doors[d].state ≠ .disabled) :
    requestDoor d .close s = (true, setFields d false false s) := if_neg h

variable (hm : s.mode = .run) (he : s.doors[d].entry.enabled = true)
include hm he

theorem serveDoor_judged (a : DoorAction) : serveDoor d (some a) s =
    let t := requestDoor d a s
    if t.1 then accept (.door t.2.doors[d].state t.2.doors[d].released t.2.doors[d].openCommand) t.2
    else refuse .notNow t.2 := by
  have hrun : ¬ (!s.isRun) = true := not_not_isRun hm
  have henabled : ¬ (!s.doors[d].entry.enabled) = true := by rw [he]; decide
  simp only [serveDoor, unit?_val, if_neg hrun]
  exact if_neg henabled

theorem serveDoor_taken {a : DoorAction} {r o : Bool} (h : requestDoor d a s = (true, setFields d r o s)) :
    serveDoor d (some a) s = accept (.door s.doors[d].state r o) (setFields d r o s) := by
  have hset := setFields_fields d r o s
  rw [serveDoor_judged hm he, h]
  dsimp only
  rw [if_pos rfl, hset.released, hset.openCommand, hset.state]

end

/-! ### Door inputs (R115, R129 to R136, R140) -/

section
variable {l : Fin 24} {d : Fin 4} {f : DoorFunction} {start dt : Nat} {s : State}

/-- The line's pending change, accepted. -/
def State.lineAccepted (s : State) (l : Fin 24) : State :=
  putInput l { s.inputs[l] with accepted := !s.inputs[l].accepted, pending := none } s

/-- The level an accepted change gives the line, after its polarity. -/
def InputUnit.nextActive (u : InputUnit) : Bool := if u.entry.polarity = .activeHigh then !u.accepted else u.accepted

theorem lineAccepted_active (l : Fin 24) (s : State) :
    (s.lineAccepted l).inputs[l].active = s.inputs[l].nextActive := by
  rw [show (s.lineAccepted l).inputs[l] = _ from vput_same _ _ _, InputUnit.active, InputUnit.nextActive]
  cases h : s.inputs[l].entry.polarity <;> simp

theorem debounceEnd_due (hpending : s.inputs[l].pending = some start)
    (hdue : start + 1000 * s.inputs[l].entry.debounce ≤ s.now) :
    debounceEnd l s = deliverLine l (s.lineAccepted l) := by
  refine if_pos ?_
  rw [hpending]
  exact decide_eq_true hdue

theorem deliverLine_door (hf : s.inputs[l].entry.function = .door f d.val) (hact : s.isActive = true)
    (hm : s.mode = .run) : deliverLine l (s.lineAccepted l) = doorInput d f s.inputs[l].nextActive (s.lineAccepted l) := by
  have hentry : (s.lineAccepted l).inputs[l].entry.function = .door f d.val := by
    rw [show (s.lineAccepted l).inputs[l] = _ from vput_same _ _ _]
    exact hf
  have hact' : (s.lineAccepted l).isActive = true := hact
  have hrun : (s.lineAccepted l).isRun = true := decide_eq_true hm
  rw [deliverLine]
  simp only [hentry, hact', hrun, unit?_val, lineAccepted_active, Bool.not_true, Bool.false_eq_true, if_false, if_true]

variable (hawake : s.awake = true) (hpending : s.inputs[l].pending = some start)
  (hdue : start + 1000 * s.inputs[l].entry.debounce ≤ s.now + dt)
include hawake hpending hdue

theorem exec_debounceEnd : exec (.debounceEnd dt l) s = .next (deliverLine l ((s.elapse dt).lineAccepted l)) :=
  (event_of_awake (s.awake_iff.mp hawake).1).trans
    (congrArg _ (debounceEnd_due (s := s.elapse dt) hpending hdue))

theorem exec_doorInput (hf : s.inputs[l].entry.function = .door f d.val) (hm : s.mode = .run) :
    exec (.debounceEnd dt l) s = .next (doorInput d f s.inputs[l].nextActive ((s.elapse dt).lineAccepted l)) := by
  rw [exec_debounceEnd hawake hpending hdue]
  exact congrArg _ (deliverLine_door (s := s.elapse dt) hf (s.awake_iff.mp hawake).2 hm)

end

/-- The door's levels as an accepted change leaves them. -/
def State.levelNoted (s : State) (d : Fin 4) (f : DoorFunction) (active : Bool) : State :=
  putDoor d { s.doors[d] with levels := s.doors[d].levels.set f active } s

theorem levelNoted_door (d : Fin 4) (f : DoorFunction) (active : Bool) (s : State) :
    (s.levelNoted d f active).doors[d] = { s.doors[d] with levels := s.doors[d].levels.set f active } := vput_same _ _ _

theorem levelNoted_other {d j : Fin 4} (h : j ≠ d) (f : DoorFunction) (active : Bool) (s : State) :
    (s.levelNoted d f active).doors[j] = s.doors[j] := vput_other _ _ h

theorem levelNoted_moved (d : Fin 4) (f : DoorFunction) (active : Bool) (s : State) :
    Moved s (s.levelNoted d f active) := putDoor_moved d _ s rfl

theorem levelNoted_grants (d : Fin 4) (f : DoorFunction) (active : Bool) (s : State) :
    (s.levelNoted d f active).grantsDoor d = s.grantsDoor d := by
  simp only [State.grantsDoor, levelNoted_door]
  rfl

theorem levelNoted_put (d : Fin 4) (f : DoorFunction) (active : Bool) (u : DoorUnit) (s : State) :
    putDoor d u (s.levelNoted d f active) = putDoor d u s := by
  simp [State.levelNoted, putDoor]

/-- What an accepted level of a request button asks for. -/
def buttonAction (f : DoorFunction) : DoorAction :=
  match f with
  | .releaseRequest => .release
  | .openRequest => .open_
  | _ => .close

def isButton (f : DoorFunction) : Prop := f = .releaseRequest ∨ f = .openRequest ∨ f = .closeRequest

section
variable {d : Fin 4} {f : DoorFunction} {active : Bool} {s : State}

theorem switchChange_button (hf : isButton f)
    (hclash : (s.doors[d].levels.closed && s.doors[d].levels.openEnd) = false) : switchChange d f active s = s := by
  have hmove : moveBySwitch d f active s = s := by
    unfold moveBySwitch
    rcases hf with rfl | rfl | rfl
    all_goals cases s.doors[d].state <;> rfl
  have hleave : leaveFault d f s = s := by
    refine if_neg ?_
    rintro ⟨h, -⟩
    rcases hf with rfl | rfl | rfl
    all_goals simp at h
  unfold switchChange
  dsimp only
  rw [hclash, hmove, hleave]
  split
  all_goals rfl

theorem doorInput_button (hf : isButton f)
    (hclash : (s.doors[d].levels.closed && s.doors[d].levels.openEnd) = false) : doorInput d f active s =
    if active then (requestDoor d (buttonAction f) (s.levelNoted d f active)).2 else s.levelNoted d f active := by
  have hnoted : ((s.levelNoted d f active).doors[d].levels.closed && (s.levelNoted d f active).doors[d].levels.openEnd) =
      false := by
    rw [levelNoted_door]
    rcases hf with rfl | rfl | rfl
    all_goals exact hclash
  have hswitch := switchChange_button (active := active) hf hnoted
  rcases hf with rfl | rfl | rfl
  all_goals
    unfold doorInput
    dsimp only
    exact if_congr Iff.rfl (congrArg (fun s => (requestDoor d _ s).2) hswitch) hswitch

end

/-- What the setting of fields makes of a door whose levels were noted first. -/
theorem FieldsSet.ofNoted {d : Fin 4} {f : DoorFunction} {active r o : Bool} {s t : State}
    (h : FieldsSet d r o (s.levelNoted d f active) t) :
    t.doors[d].state = s.doors[d].state ∧ (∀ j, j ≠ d → t.doors[j] = s.doors[j]) ∧ Moved s t := by
  refine ⟨?_, fun j hj => (h.other j hj).trans (levelNoted_other hj f active s), (levelNoted_moved d f active s).trans h.moved⟩
  rw [h.state, levelNoted_door]

/-- A release or open button whose request is granted. -/
theorem requestDoor_button {d : Fin 4} {f : DoorFunction} {s : State} (hf : isButton f) (hclose : f ≠ .closeRequest)
    (hgrant : s.grantsDoor d = true) : (requestDoor d (buttonAction f) s).2 =
      setFields d true (if f = .openRequest then true else s.doors[d].openCommand) s := by
  rcases hf with rfl | rfl | rfl
  · exact congrArg Prod.snd (requestDoor_release hgrant)
  · exact congrArg Prod.snd (requestDoor_open hgrant)
  · exact absurd rfl hclose

/-- Settles O42. -/
theorem doorRequestsAreJudged : Obligations.DoorRequestsAreJudged := by
  refine ⟨fun s dt tag d hs hm he => ⟨fun hgrant => ⟨?_, ?_⟩, fun hgrant a ha => ?_, fun hstate => ?_⟩,
    fun s dt start l d f hawake hm hf hpending hdue hbutton hclash => ?_⟩
  · have hset := setFields_fields d true s.doors[d].openCommand (s.noted dt)
    exact ⟨_, exec_served rfl rfl hs (serveDoor_taken (s := s.noted dt) hm he (requestDoor_release (s := s.noted dt) hgrant)),
      hset.released, hset.openCommand, hset.state, hset.other, hset.moved⟩
  · have hset := setFields_fields d true true (s.noted dt)
    exact ⟨_, exec_served rfl rfl hs (serveDoor_taken (s := s.noted dt) hm he (requestDoor_open (s := s.noted dt) hgrant)),
      hset.released, hset.openCommand, hset.state, hset.other, hset.moved⟩
  · refine exec_served rfl rfl hs ((serveDoor_judged (s := s.noted dt) hm he a).trans ?_)
    rw [requestDoor_refused (s := s.noted dt) ha hgrant]
    rfl
  · have hset := setFields_fields d false false (s.noted dt)
    exact ⟨_, exec_served rfl rfl hs (serveDoor_taken (s := s.noted dt) hm he (requestDoor_close (s := s.noted dt) hstate)),
      hset.released, hset.openCommand, hset.state, hset.other, hset.moved⟩
  · have hexec := exec_doorInput hawake hpending hdue hf hm
    rw [doorInput_button (s := (s.elapse dt).lineAccepted l) hbutton hclash] at hexec
    have hnoted := levelNoted_door d f s.inputs[l].nextActive ((s.elapse dt).lineAccepted l)
    have hgrants : (((s.elapse dt).lineAccepted l).levelNoted d f s.inputs[l].nextActive).grantsDoor d = s.grantsDoor d :=
      levelNoted_grants d f _ _
    refine ⟨fun hactive => ?_, fun hactive hclose hgrant => ?_, fun hactive hclose hgrant => ?_,
      fun hactive hclose hstate => ?_⟩
    all_goals replace hactive : s.inputs[l].nextActive = _ := hactive
    all_goals rw [hactive] at hexec hgrants hnoted
    · rw [hexec, if_neg Bool.false_ne_true, State.levelNoted]
      refine congrArg _ (congrArg (fun a => putDoor d { s.doors[d] with levels := s.doors[d].levels.set f a }
        ((s.elapse dt).lineAccepted l)) hactive.symm)
    · rw [if_pos rfl, requestDoor_button hbutton hclose (hgrants.trans hgrant)] at hexec
      obtain ⟨hstate, hother, hmoved⟩ := (setFields_fields d true
        (if f = .openRequest then true else (((s.elapse dt).lineAccepted l).levelNoted d f true).doors[d].openCommand)
        (((s.elapse dt).lineAccepted l).levelNoted d f true)).ofNoted
      refine ⟨_, hexec, hstate, (setFields_fields _ _ _ _).released, ?_, hother, hmoved⟩
      rw [(setFields_fields _ _ _ _).openCommand, hnoted]
      rfl
    · have haction : buttonAction f ≠ .close := by
        rcases hbutton with rfl | rfl | rfl
        · decide
        · decide
        · exact absurd rfl hclose
      rw [if_pos rfl, requestDoor_refused haction (hgrants.trans hgrant), levelNoted_put, hnoted] at hexec
      rw [hexec]
      refine congrArg _ (congrArg (fun a => putDoor d { s.doors[d] with
        levels := s.doors[d].levels.set f a
        refused := bump32 s.doors[d].refused } ((s.elapse dt).lineAccepted l)) hactive.symm)
    · subst hclose
      have hstate' : (((s.elapse dt).lineAccepted l).levelNoted d .closeRequest true).doors[d].state ≠ .disabled := by
        rw [hnoted]
        exact hstate
      have hclosed : (requestDoor d (buttonAction .closeRequest)
          (((s.elapse dt).lineAccepted l).levelNoted d .closeRequest true)).2 = _ :=
        congrArg Prod.snd (requestDoor_close hstate')
      rw [if_pos rfl, hclosed] at hexec
      obtain ⟨hstate, hother, hmoved⟩ := (setFields_fields d false false
        (((s.elapse dt).lineAccepted l).levelNoted d .closeRequest true)).ofNoted
      exact ⟨_, hexec, hstate, (setFields_fields _ _ _ _).released, (setFields_fields _ _ _ _).openCommand, hother, hmoved⟩

end Sys2Proof.Machine
end

section
/-! PROOFS. The chime arbiter and the output lines (chapter 6), and the acknowledgement of telltales (chapter 5). -/

namespace Sys2Proof.Machine

/-! ### The best request (R109) -/

/-- The visit of a requester in the choice of the grant. -/
def bestVisit (s : State) (best : Option (Fin 70 × Nat)) (r : Fin 70) : Option (Fin 70 × Nat) :=
  match s.chime.pending[r] with
  | none => best
  | some p =>
    match best with
    | none => some (r, p)
    | some (_, q) => if (s.pattern q).priority < (s.pattern p).priority then some (r, p) else best

theorem bestRequest_eq (s : State) : s.bestRequest = (List.finRange 70).foldl (bestVisit s) none := rfl

/-- What the choice has seen: the best of the requests of `seen`, the first among equals. -/
def BestOf (s : State) (seen : List (Fin 70)) : Option (Fin 70 × Nat) → Prop
  | none => ∀ r ∈ seen, s.chime.pending[r] = none
  | some (r, p) => r ∈ seen ∧ s.chime.pending[r] = some p ∧
      ∀ j ∈ seen, ∀ q, s.chime.pending[j] = some q → j ≠ r →
        (s.pattern q).priority < (s.pattern p).priority ∨ (s.pattern q).priority = (s.pattern p).priority ∧ r < j

theorem bestVisit_of (s : State) {seen : List (Fin 70)} {best : Option (Fin 70 × Nat)} {r : Fin 70}
    (h : BestOf s seen best) (hseen : ∀ j ∈ seen, j < r) : BestOf s (seen ++ [r]) (bestVisit s best r) := by
  have hsplit : ∀ {P : Fin 70 → Prop}, (∀ j ∈ seen, P j) → P r → ∀ j ∈ seen ++ [r], P j := by
    intro P hold hnew j hj
    obtain hj | hj := List.mem_append.mp hj
    · exact hold j hj
    · rw [List.mem_singleton.mp hj]
      exact hnew
  unfold bestVisit
  split
  · next hnone =>
    cases best with
    | none => exact hsplit h hnone
    | some b =>
      obtain ⟨hmem, hpending, hbest⟩ := h
      refine ⟨List.mem_append_left _ hmem, hpending, hsplit hbest fun q hq => ?_⟩
      rw [hnone] at hq
      exact absurd hq (by simp)
  · next p hp =>
    cases best with
    | none =>
      refine ⟨List.mem_append_right _ (List.mem_singleton_self r), hp, hsplit (fun j hj q hq _ => ?_) fun q _ hne => ?_⟩
      · rw [h j hj] at hq
        exact absurd hq (by simp)
      · exact absurd rfl hne
    | some b =>
      obtain ⟨b, q⟩ := b
      obtain ⟨hmem, hpending, hbest⟩ := h
      dsimp only
      split
      · next hlt =>
        refine ⟨List.mem_append_right _ (List.mem_singleton_self r), hp, hsplit (fun j hj q' hq' _ => ?_) fun q _ hne => ?_⟩
        · by_cases hjb : j = b
          · subst hjb
            rw [hpending] at hq'
            obtain rfl := Option.some.inj hq'
            exact .inl hlt
          · obtain hlow | ⟨heq, -⟩ := hbest j hj q' hq' hjb
            · exact .inl (Nat.lt_trans hlow hlt)
            · exact .inl (heq ▸ hlt)
        · exact absurd rfl hne
      · next hle =>
        refine ⟨List.mem_append_left _ hmem, hpending, hsplit hbest fun q' hq' _ => ?_⟩
        rw [hp] at hq'
        obtain rfl := Option.some.inj hq'
        obtain hlow | heq := Nat.lt_or_eq_of_le (Nat.not_lt.mp hle)
        · exact .inl hlow
        · exact .inr ⟨heq, hseen b hmem⟩

/-- The choice over any ascending list of requesters. -/
theorem foldl_bestVisit (s : State) (rs : List (Fin 70)) {seen : List (Fin 70)} {best : Option (Fin 70 × Nat)}
    (h : BestOf s seen best) (hsorted : (seen ++ rs).Pairwise (· < ·)) :
    BestOf s (seen ++ rs) (rs.foldl (bestVisit s) best) := by
  induction rs generalizing seen best with
  | nil => simpa using h
  | cons r rs ih =>
    have hseen : ∀ j ∈ seen, j < r := fun j hj =>
      (List.pairwise_append.mp hsorted).2.2 j hj r (List.mem_cons_self ..)
    have hnext := ih (bestVisit_of s h hseen) (by simpa using hsorted)
    simpa using hnext

theorem bestRequest_best (s : State) : BestOf s (List.finRange 70) s.bestRequest := by
  have h := foldl_bestVisit s (List.finRange 70) (seen := []) (best := none) (fun r hr => by simp at hr)
    (List.pairwise_lt_finRange 70)
  exact h

theorem bestRequest_none_iff (s : State) : s.bestRequest = none ↔ ∀ r : Fin 70, s.chime.pending[r] = none := by
  have h := bestRequest_best s
  constructor
  · intro hnone r
    rw [hnone] at h
    exact h r (List.mem_finRange r)
  · intro hall
    cases hbest : s.bestRequest with
    | none => rfl
    | some b =>
      rw [hbest] at h
      have hp := h.2.1
      rw [hall] at hp
      exact absurd hp (by simp)

theorem not_isRun_of_setup {s : State} (h : s.mode = .setup) : (!s.isRun) = true := by
  rw [State.isRun, h]
  rfl

/-- Settles O37. -/
theorem chimeRequestsAreArbitrated : Obligations.ChimeRequestsAreArbitrated := by
  refine ⟨fun s dt tag hs => ⟨fun p hp hm => ?_, fun p hp hm => ?_, fun p hp => ?_, ?_, fun hnone => ?_⟩,
    bestRequest_none_iff, fun s r p h => ?_⟩
  · have hserve : serveChime p (s.noted dt) =
        accept (.granted ((placeRequest panelRequester p (s.noted dt)).chime.grant.map (·.requester)))
          (placeRequest panelRequester p (s.noted dt)) := by
      rw [serveChime, if_neg (Nat.not_lt.mpr hp), if_neg (not_not_isRun (s := s.noted dt) hm)]
    exact ⟨_, exec_served rfl rfl hs hserve, placeRequest_pending _ _ _, placeRequest_grants _ _ _,
      placeRequest_tell _ _ _⟩
  · refine exec_served rfl rfl hs ((if_neg (Nat.not_lt.mpr hp)).trans (if_pos ?_))
    exact not_isRun_of_setup (s := s.noted dt) hm
  · exact exec_served rfl rfl hs (if_pos hp)
  · refine ⟨withdrawRequest panelRequester (s.noted dt), exec_served rfl rfl hs rfl, withdrawRequest_pending _ _, fun hsome => ?_, withdrawRequest_tell _ _⟩
    have hgrant := (withdrawRequest_some (s := s.noted dt) hsome).2
    refine ⟨hgrant, fun hnone => ?_⟩
    rw [hnone, Option.map_none, Option.map_eq_none_iff] at hgrant
    rw [State.chm, hgrant, ite_self]
  · exact exec_served rfl rfl hs (congrArg (accept _) (withdrawRequest_none (s := s.noted dt) hnone))
  · have hbest := bestRequest_best s
    rw [h] at hbest
    obtain ⟨-, hpending, hall⟩ := hbest
    exact ⟨hpending, fun j q hq hj => hall j (List.mem_finRange j) q hq hj⟩

/-! ### Cycles (R110) -/

/-- Settles O38. -/
theorem chimeCyclesPlay : Obligations.ChimeCyclesPlay := by
  intro s dt p g hawake hgrant hdue hpending
  obtain ⟨hreset, -⟩ := s.awake_iff.mp hawake
  have hrun : (s.elapse dt).due (some g.deadline) = true := decide_eq_true hdue
  have hgrant' : (s.elapse dt).chime.grant = some g := hgrant
  have hpending' : (s.elapse dt).chime.pending[g.requester] = some p := hpending
  refine ⟨fun hsounding => ?_, fun hsilent hmore => ?_, fun hsilent hfinite hlast => ?_⟩
  · refine (event_of_awake hreset).trans (congrArg _ ?_)
    simp only [endOnTime, hgrant', hsounding, hrun, hpending', Bool.and_self, if_true]
    rfl
  · refine (event_of_awake hreset).trans (congrArg _ ?_)
    have hcycle : ¬ ((s.pattern p).repeats ≠ 0 ∧ g.left ≤ 1) := by omega
    simp only [endOffTime, hgrant', hsilent, hrun, hpending', Bool.not_false, Bool.and_self, if_true]
    exact if_neg hcycle
  · have hend : endOffTime (s.elapse dt) = withdrawRequest g.requester (s.elapse dt) := by
      simp only [endOffTime, hgrant', hsilent, hrun, hpending', Bool.not_false, Bool.and_self, if_true]
      exact if_pos ⟨hfinite, hlast⟩
    exact ⟨_, (event_of_awake hreset).trans (congrArg _ hend), withdrawRequest_pending _ _, withdrawRequest_tell _ _⟩

/-! ### Acknowledgement (R100, R101) -/

section
variable {s : State} {c : TelltaleClass}

theorem acknowledge_none (h : s.ackClass = none) : acknowledge s = (none, 0, s) := by
  rw [acknowledge, h]

/-- The telltales as an acknowledgement of a class leaves them. -/
def State.acknowledged (s : State) (c : TelltaleClass) : State :=
  setFlag .telltale { s with telltales := vmap (·.acknowledge c) s.telltales }

theorem acknowledge_some (h : s.ackClass = some c) : ∃ t, Sounds (s.acknowledged c) t ∧
    acknowledge s = (some c, (s.ackMembers c).length, t) := by
  rw [acknowledge, h]
  exact ⟨_, (withdrawGroup_sounds _ _).trans (redrive_sounds _), rfl⟩

variable {t : State} (h : Sounds (s.acknowledged c) t)
include h

theorem acknowledged_telltale (k : Fin 64) : t.telltales[k] =
    if s.telltales[k].entry.enabled && s.telltales[k].entry.cls = c &&
        (s.telltales[k].state = .litNew || s.telltales[k].state = .latched) then
      { s.telltales[k] with state := if s.telltales[k].state = .litNew then .litAcked else .dark }
    else s.telltales[k] := by
  have htells : t.telltales = vmap (·.acknowledge c) s.telltales := h.project (·.telltales) rfl
  refine (congrArg (fun tells : Vector TelltaleUnit 64 => tells[k]) htells).trans ((vmap_get _ _ _).trans ?_)
  rw [TelltaleUnit.acknowledge, TelltaleUnit.awaits, Bool.and_right_comm]

theorem acknowledged_flag : t.flag .telltale = true :=
  (h.project (·.flag .telltale) rfl).trans (setFlag_flag _ _)

theorem acknowledged_conds : t.conds = s.conds := h.project (·.conds) rfl

end

/-- Settles O36. -/
theorem warningAckActsOnTheHighestClass : Obligations.WarningAckActsOnTheHighestClass := by
  intro s dt tag hs
  refine ⟨fun hnone => ?_, fun c hc => ?_⟩
  · have hserve : serveAck (s.noted dt) = accept (.acknowledged none 0) (s.noted dt) := by
      rw [serveAck, acknowledge_none (s := s.noted dt) hnone]
    exact exec_served rfl rfl hs hserve
  · obtain ⟨t, hsounds, hack⟩ := acknowledge_some (s := s.noted dt) hc
    have htell : Tell (s.noted dt) t := by
      have h := acknowledge_tell (s.noted dt)
      rwa [hack] at h
    have hserve : serveAck (s.noted dt) = accept (.acknowledged (some c) (s.ackMembers c).length) t := by
      rw [serveAck, hack]
      rfl
    exact ⟨t, exec_served rfl rfl hs hserve, acknowledged_telltale (s := s.noted dt) hsounds, acknowledged_flag hsounds,
      acknowledged_conds (s := s.noted dt) hsounds, htell⟩

/-! ### The lines (R117, R119) -/

theorem driveLine_panelValue (l j : Fin 16) (s : State) :
    (driveLine l s).outputs[j].panelValue = s.outputs[j].panelValue := by
  by_cases h : j = l
  · subst h
    unfold driveLine
    split
    · exact (congrArg OutputUnit.panelValue (vput_same s.outputs j _)).trans rfl
    · exact (congrArg OutputUnit.panelValue (vput_same s.outputs j _)).trans rfl
  · rw [driveLine_other h]

/-- A line's demand rests on the entries and panel values of the lines, and not on their levels or protection. -/
theorem lineActive_congr {s : State} {o : Vector OutputUnit 16} {lamps : Vector LampUnit 8} {l : Fin 16}
    (he : o[l].entry = s.outputs[l].entry) (hp : o[l].panelValue = s.outputs[l].panelValue) :
    ({ s with outputs := o, lamps := lamps } : State).lineActive l = s.lineActive l := by
  have hsource : ∀ x : LineSource,
      ({ s with outputs := o, lamps := lamps } : State).sourceValue l x = s.sourceValue l x := by
    intro x
    cases x with
    | panel => exact hp
    | _ => rfl
  have hline : ({ s with outputs := o, lamps := lamps } : State).lineSource l = s.lineSource l := by
    rw [State.lineSource, State.lineSource, he]
  rw [State.lineActive, State.lineActive, hline, hsource, he]
  rfl

theorem driveLine_lineActive (l j : Fin 16) (s : State) : (driveLine j s).lineActive l = s.lineActive l := by
  have he := driveLine_entry j l s
  have hp := driveLine_panelValue j l s
  obtain ⟨o, lamps, h⟩ := driveLine_eq j s
  rw [h] at he hp ⊢
  exact lineActive_congr he hp

theorem driveLine_relayOn {l : Fin 16} (h : 8 ≤ l.val) (s : State) :
    (driveLine l s).outputs[l].on = s.lineActive l := by
  rw [driveLine, show lampOf l = none from unit?_ge h]
  exact congrArg OutputUnit.on (vput_same s.outputs l _)

/-- What driving one line leaves of another. -/
def LineKept (l : Fin 16) (s t : State) : Prop :=
  t.lineActive l = s.lineActive l ∧ t.outputs[l] = s.outputs[l] ∧ ∀ k : Fin 8, t.lamps[k].protection = s.lamps[k].protection

theorem LineKept.refl (l : Fin 16) (s : State) : LineKept l s s := ⟨rfl, rfl, fun _ => rfl⟩

theorem LineKept.trans {l : Fin 16} {a b c : State} (h : LineKept l a b) (h' : LineKept l b c) : LineKept l a c :=
  ⟨h'.1.trans h.1, h'.2.1.trans h.2.1, fun k => (h'.2.2 k).trans (h.2.2 k)⟩

theorem driveLine_kept {l j : Fin 16} (h : j ≠ l) (s : State) : LineKept l s (driveLine j s) :=
  ⟨driveLine_lineActive l j s, driveLine_other (Ne.symm h) s, fun k => by rw [(Held.driveLine j s).lamp k]⟩

/-- A line's level after every line has been driven is decided by its own drive. -/
theorem redrive_line (l : Fin 16) (s : State) : ∃ a, LineKept l s a ∧
    (redrive s).outputs[l] = (driveLine l a).outputs[l] := by
  obtain ⟨a, ha, hrest⟩ := each_at (LineKept l) (LineKept.refl l) LineKept.trans driveLine l
    (fun j s hj => driveLine_kept hj s) s
  exact ⟨a, ha, hrest.2.1⟩

theorem redrive_relayOn {l : Fin 16} (h : 8 ≤ l.val) (s : State) : (redrive s).outputs[l].on = s.lineActive l := by
  obtain ⟨a, ha, hline⟩ := redrive_line l s
  rw [hline, driveLine_relayOn h, ha.1]

theorem redrive_lampOn (k : Fin 8) (s : State) : (redrive s).outputs[lineOfLamp k].on =
    (s.lineActive (lineOfLamp k) && decide (s.lamps[k].protection = .normal)) := by
  obtain ⟨a, ha, hline⟩ := redrive_line (lineOfLamp k) s
  rw [hline, driveLine_lampOn, ha.1, ha.2.2]

theorem redrive_entry (l : Fin 16) (s : State) : (redrive s).outputs[l].entry = s.outputs[l].entry :=
  tables_output (redrive_tell s).tables l

theorem redrive_panelValue (l : Fin 16) (s : State) : (redrive s).outputs[l].panelValue = s.outputs[l].panelValue :=
  each_rel (fun a b : State => b.outputs[l].panelValue = a.outputs[l].panelValue) (fun _ => rfl)
    (fun h h' => h'.trans h) driveLine (fun j a => driveLine_panelValue j l a) s

theorem redrive_lineActive (l : Fin 16) (s : State) : (redrive s).lineActive l = s.lineActive l :=
  each_rel (fun a b : State => b.lineActive l = a.lineActive l) (fun _ => rfl) (fun h h' => h'.trans h) driveLine
    (fun j a => driveLine_lineActive l j a) s

theorem redrive_rest (s : State) : { redrive s with outputs := s.outputs, lamps := s.lamps } = s := by
  obtain ⟨o, l, h⟩ := redrive_eq s
  rw [h]

/-- A panel line's value, set by the host. -/
def State.panelSet (s : State) (l : Fin 16) (v : Nat) : State :=
  { s with outputs := vput s.outputs l { s.outputs[l] with panelValue := v = 1 } }

theorem serveOutput_set {l : Fin 16} {v : Nat} {s : State} (hv : v ≤ 1)
    (h : s.outputs[l].entry.source = .panel ∨ s.outputs[l].entry.direct = .panel) :
    serveOutput l v s = accept (.drive (redrive (s.panelSet l v)).outputs[l].on) (redrive (s.panelSet l v)) := by
  have hrouted : ¬ (s.outputs[l].entry.source ≠ .panel ∧ s.outputs[l].entry.direct ≠ .panel) := by
    rintro ⟨hs, hd⟩
    obtain h | h := h
    · exact hs h
    · exact hd h
  simp only [serveOutput, unit?_val, if_neg (Nat.not_lt.mpr hv)]
  exact if_neg hrouted

/-- Settles O40. -/
theorem outputSetDrivesPanelLines : Obligations.OutputSetDrivesPanelLines := by
  intro s dt tag l hs
  refine ⟨fun v hv hpanel => ?_, fun v hv hsource hdirect => ?_, fun v hv => ?_⟩
  · refine ⟨redrive ((s.noted dt).panelSet l v), exec_served rfl rfl hs (serveOutput_set (s := s.noted dt) hv hpanel),
      (redrive_panelValue _ _).trans ?_, fun j hj => (redrive_panelValue _ _).trans ?_, fun hl => ?_, ?_⟩
    · exact congrArg OutputUnit.panelValue (vput_same s.outputs l _)
    · exact congrArg OutputUnit.panelValue (vput_other s.outputs _ hj)
    · rw [redrive_relayOn hl, redrive_lineActive]
    · obtain ⟨o, lamps, h⟩ := redrive_eq ((s.noted dt).panelSet l v)
      rw [h]
      rfl
  · refine exec_served rfl rfl hs ?_
    simp only [serveRequest, serveOutput, unit?_val, if_neg (Nat.not_lt.mpr hv)]
    exact if_pos ⟨hsource, hdirect⟩
  · refine exec_served rfl rfl hs ?_
    simp only [serveRequest, serveOutput, unit?_val]
    exact if_pos hv

/-! ### What telltales and sources show (R102, R103, R117) -/

theorem presentation_eq (s : State) (k : Fin 64) :
    let u := s.telltales[k]
    s.presentation k =
      if s.service.test.map (·.unit) = some (.telltale k) then .fastFlash
      else if s.bulb ≠ none ∧ u.entry.bulbCheck = true then .steady
      else if u.state = .dark ∨ u.entry.enabled = false then .off
      else if u.state = .litAcked then .steady
      else showPresentation u.entry.show_ := by
  intro u
  have hbulb : (s.bulb.isSome && u.entry.bulbCheck) = true ↔ s.bulb ≠ none ∧ u.entry.bulbCheck = true := by
    rw [Bool.and_eq_true, Option.isSome_iff_ne_none]
  have hdark : (decide (u.state = .dark) || !u.entry.enabled) = true ↔ u.state = .dark ∨ u.entry.enabled = false := by
    simp
  exact if_congr Iff.rfl rfl (if_congr hbulb rfl (if_congr hdark rfl rfl))

theorem lit_eq (s : State) (k : Fin 64) :
    let u := s.telltales[k]
    let e := (s.now - s.flashOrigin) / 1000
    s.lit k =
      if s.service.test.map (·.unit) = some (.telltale k) then decide (e % 400 < 200)
      else if s.bulb ≠ none ∧ u.entry.bulbCheck = true then true
      else if u.state = .dark ∨ u.entry.enabled = false then false
      else if u.state = .litAcked ∨ u.entry.show_ = .steady then true
      else if u.entry.show_ = .slowFlash then decide (e % 1000 < 500) else decide (e % 400 < 200) := by
  intro u e
  rw [State.lit, presentation_eq]
  by_cases htest : s.service.test.map (·.unit) = some (.telltale k)
  · rw [if_pos htest, if_pos htest]
    rfl
  rw [if_neg htest, if_neg htest]
  by_cases hb : s.bulb ≠ none ∧ u.entry.bulbCheck = true
  · rw [if_pos hb, if_pos hb]
  rw [if_neg hb, if_neg hb]
  by_cases hd : u.state = .dark ∨ u.entry.enabled = false
  · rw [if_pos hd, if_pos hd]
  rw [if_neg hd, if_neg hd]
  by_cases hack : u.state = .litAcked
  · rw [if_pos hack, if_pos (Or.inl hack)]
  rw [if_neg hack]
  simp only [hack, false_or]
  cases u.entry.show_ with
  | steady => rfl
  | slowFlash => rfl
  | fastFlash => rfl

theorem sourceValue_anyStopLit (s : State) (l : Fin 16) :
    s.sourceValue l .anyStopLit = true ↔ ∃ k : Fin 64, s.telltales[k].entry.cls = .stop ∧ s.lit k = true := by
  simp only [State.sourceValue, anyUnit_iff, Bool.and_eq_true, decide_eq_true_eq]

theorem settled_stage {s : State} (h : s.settled = true) :
    decide (6 ≤ s.stage) = (s.isRun && s.isActive) := by
  have hstage : s.stage = if s.isRun && s.isActive then 6 else 0 := of_decide_eq_true h
  rw [hstage]
  cases s.isRun && s.isActive <;> rfl

theorem heldOn_iff (s : State) (l : Fin 16) : s.heldOn l = true ↔
    ∃ k : Fin 8, l = lineOfLamp k ∧ s.service.test.map (·.unit) = some (.line k) := by
  unfold State.heldOn
  split
  · next k hk =>
    rw [decide_eq_true_eq]
    constructor
    · exact fun h => ⟨k, lineOfLamp_of_lampOf hk, h⟩
    · rintro ⟨j, hj, h⟩
      rw [hj, lampOf_lineOfLamp] at hk
      rw [← Option.some.inj hk]
      exact h
  · next hnone =>
    refine ⟨fun h => absurd h Bool.false_ne_true, ?_⟩
    rintro ⟨j, rfl, -⟩
    rw [lampOf_lineOfLamp] at hnone
    exact absurd hnone (by simp)

/-- The demand of a line in RUN and ACTIVE. -/
theorem lineActive_iff {s : State} (hsettled : s.settled = true) (hm : s.mode = .run) (hp : s.power = .active)
    (l : Fin 16) : s.lineActive l = true ↔
      (∃ k : Fin 8, l = lineOfLamp k ∧ s.service.test.map (·.unit) = some (.line k)) ∨
      (s.outputs[l].entry.polarity = .normal ∧ s.sourceValue l (s.lineSource l) = true) ∨
      (s.outputs[l].entry.polarity = .inverted ∧ s.sourceValue l (s.lineSource l) = false) := by
  have hrun : (s.isRun && s.isActive) = true := by
    rw [State.isRun, State.isActive, hm, hp]
    rfl
  rw [State.lineActive, settled_stage hsettled, hrun, Bool.true_and, Bool.or_eq_true, heldOn_iff]
  refine or_congr Iff.rfl ?_
  cases s.outputs[l].entry.polarity with
  | normal => simp
  | inverted => simp

theorem lineActive_atRest {s : State} (hsettled : s.settled = true) (h : s.mode = .setup ∨ s.power = .parked)
    (l : Fin 16) : s.lineActive l = false := by
  have hrest : (s.isRun && s.isActive) = false := by
    rw [State.isRun, State.isActive]
    obtain h | h := h
    · rw [h]
      rfl
    · rw [h, Bool.and_comm]
      rfl
  rw [State.lineActive, settled_stage hsettled, hrest, Bool.false_and]

/-- Settles O35. -/
theorem linesFollowTheirSources : Obligations.LinesFollowTheirSources := by
  refine ⟨lit_eq, fun s l => ⟨rfl, rfl, fun k => ?_, fun c => ?_, sourceValue_anyStopLit s l, fun d => ⟨?_, ?_⟩, rfl, rfl,
    Option.isSome_iff_ne_none, rfl⟩, fun s l hsettled => ⟨fun hm hp => lineActive_iff hsettled hm hp l,
      fun h => lineActive_atRest hsettled h l⟩, fun s dt hawake => ?_, fun s dt due hawake hbulb hdue => ?_⟩
  · simp only [State.sourceValue, unit?_val]
  · simp only [State.sourceValue, unit?_val, CondUnit.isTrue, Bool.or_eq_true, decide_eq_true_eq]
  · simp only [State.sourceValue, unit?_val]
  · simp only [State.sourceValue, unit?_val]
  · exact ⟨_, event_of_awake (s.awake_iff.mp hawake).1, fun l => ⟨redrive_entry l _, redrive_panelValue l _⟩,
      fun l hl => redrive_relayOn hl _, fun k => redrive_lampOn k _, redrive_rest (s.elapse dt)⟩
  · have hexpire : expireBulb (s.elapse dt) = redrive (publish slotBulbCheck 0 { s.elapse dt with bulb := none }) := by
      have hrun : (s.elapse dt).due s.bulb = true := by
        rw [hbulb]
        exact decide_eq_true hdue
      have hsome : s.bulb.isSome = true := by rw [hbulb]; rfl
      exact (if_pos hrun).trans (if_pos hsome)
    refine ⟨_, (event_of_awake (s.awake_iff.mp hawake).1).trans (congrArg _ hexpire), ?_,
      (publish_tell (by decide) _ _).trans (redrive_tell _)⟩
    obtain ⟨o, l, h⟩ := redrive_eq (publish slotBulbCheck 0 { s.elapse dt with bulb := none })
    rw [h]
    exact publish_value _ _ _

end Sys2Proof.Machine
end

section
/-! PROOFS. Conditions (R89 to R95): what an evaluation compares, the moves of a condition, and what its readers, its
telltales and its gated conditions make of a change. -/

namespace Sys2Proof.Machine

/-! ### The comparison (R90, R91) -/

section
variable {s : State} {u : CondUnit}

theorem comparison_fault (h : u.entry.comparator = .faultActive) :
    s.comparison u = s.faultActive u.entry.code u.entry.source := by
  unfold State.comparison
  rw [h]

theorem comparison_slot (h : u.entry.comparator ≠ .faultActive) :
    s.comparison u = if (s.slot u.entry.slot).state.usable then
      compareUsable u.entry u.comparison (s.slot u.entry.slot).value else compareUnusable u.entry u.comparison := by
  unfold State.comparison
  split
  · next hf => exact absurd hf h
  · rfl

theorem comparison_usable (h : (s.slot u.entry.slot).state.usable = true) (hf : u.entry.comparator ≠ .faultActive) :
    s.comparison u = compareUsable u.entry u.comparison (s.slot u.entry.slot).value := by
  rw [comparison_slot hf, if_pos h]

theorem comparison_unusable (h : (s.slot u.entry.slot).state.usable = false) (hf : u.entry.comparator ≠ .faultActive) :
    s.comparison u = compareUnusable u.entry u.comparison := by
  rw [comparison_slot hf, if_neg (by rw [h]; decide)]

/-- The comparison of a slot rests on that slot. -/
theorem comparison_congr {t : State} (hf : u.entry.comparator ≠ .faultActive)
    (h : t.slot u.entry.slot = s.slot u.entry.slot) : t.comparison u = s.comparison u := by
  rw [comparison_slot hf, comparison_slot hf, h]

end

theorem compareUnusable_policy {e : CondEntry} {before : Bool} (h : e.comparator ≠ .notUsable) :
    (e.policy = .isFalse → compareUnusable e before = false) ∧ (e.policy = .isTrue → compareUnusable e before = true) ∧
      (e.policy = .hold → compareUnusable e before = before) := by
  unfold compareUnusable
  split
  · next hn => exact absurd hn h
  · exact ⟨fun hp => by rw [hp], fun hp => by rw [hp], fun hp => by rw [hp]⟩

theorem not_decide_le (a b : Int) : (!decide (a ≤ b)) = decide (b < a) := by
  rw [← decide_not]
  exact decide_eq_decide.mpr Int.not_le

/-- Table 5.3 for the comparators with hysteresis. -/
theorem compareUsable_above {e : CondEntry} (h : e.comparator = .above) (before : Bool) (v : Int) :
    compareUsable e before v =
      if before then decide (e.threshold - e.hysteresis < v) else decide (e.threshold < v) := by
  unfold compareUsable
  rw [h]
  dsimp only
  rw [not_decide_le]

theorem compareUsable_below {e : CondEntry} (h : e.comparator = .below) (before : Bool) (v : Int) :
    compareUsable e before v =
      if before then decide (v < e.threshold + e.hysteresis) else decide (v < e.threshold) := by
  unfold compareUsable
  rw [h]
  dsimp only
  rw [not_decide_le]

theorem anyBits_iff (v : Int) (mask : Nat) : ((BitVec.ofInt 32 v &&& BitVec.ofNat 32 mask) != 0) = true ↔
    ∃ b, b < 32 ∧ (BitVec.ofInt 32 v).getLsbD b = true ∧ mask.testBit b = true := by
  rw [bne_iff_ne]
  constructor
  · intro hne
    by_contra hnone
    refine hne (BitVec.eq_of_getLsbD_eq fun b hb => ?_)
    rw [BitVec.getLsbD_and, BitVec.getLsbD_ofNat]
    by_contra hbit
    refine hnone ⟨b, hb, ?_⟩
    simpa [hb] using hbit
  · rintro ⟨b, hb, hvalue, hmask⟩ hzero
    have hbit := congrArg (fun x : BitVec 32 => x.getLsbD b) hzero
    rw [BitVec.getLsbD_and, BitVec.getLsbD_ofNat, hvalue, hmask, decide_eq_true hb] at hbit
    exact absurd hbit (by simp)

theorem faultActive_iff (s : State) (code : FaultCode) (source : FaultSource) : s.faultActive code source = true ↔
    ∃ x ∈ s.faults.live, x.code = code ∧
      (source = .any ∨ (source = .none ∧ x.source = none) ∨ ∃ n, source = .num n ∧ x.source = some n) := by
  rw [State.faultActive, List.any_eq_true]
  refine exists_congr fun x => and_congr Iff.rfl ?_
  rw [Bool.and_eq_true, decide_eq_true_eq]
  refine and_congr Iff.rfl ?_
  cases source with
  | any => simp
  | none => simp
  | num n => simp

/-- R90, R91, for every comparator. -/
theorem comparison_rules (s : State) (u : CondUnit) :
    ((s.slot u.entry.slot).state.usable = true →
      (u.entry.comparator = .above → s.comparison u =
        if u.comparison then decide (u.entry.threshold - u.entry.hysteresis < (s.slot u.entry.slot).value)
        else decide (u.entry.threshold < (s.slot u.entry.slot).value)) ∧
      (u.entry.comparator = .below → s.comparison u =
        if u.comparison then decide ((s.slot u.entry.slot).value < u.entry.threshold + u.entry.hysteresis)
        else decide ((s.slot u.entry.slot).value < u.entry.threshold)) ∧
      (u.entry.comparator = .equal → s.comparison u = decide ((s.slot u.entry.slot).value = u.entry.threshold)) ∧
      (u.entry.comparator = .notEqual → s.comparison u = decide ((s.slot u.entry.slot).value ≠ u.entry.threshold)) ∧
      (u.entry.comparator = .notUsable → s.comparison u = false) ∧
      (u.entry.comparator = .anyBits → (s.comparison u = true ↔ ∃ b, b < 32 ∧
        (BitVec.ofInt 32 (s.slot u.entry.slot).value).getLsbD b = true ∧ u.entry.mask.testBit b = true))) := by
  intro hu
  refine ⟨fun h => ?_, fun h => ?_, fun h => ?_, fun h => ?_, fun h => ?_, fun h => ?_⟩
  · rw [comparison_usable hu (by simp [h]), compareUsable_above h]
  · rw [comparison_usable hu (by simp [h]), compareUsable_below h]
  · rw [comparison_usable hu (by simp [h]), compareUsable]
    simp only [h]
  · rw [comparison_usable hu (by simp [h]), compareUsable]
    simp only [h]
  · rw [comparison_usable hu (by simp [h]), compareUsable]
    simp only [h]
  · rw [comparison_usable hu (by simp [h]), compareUsable]
    simp only [h]
    exact anyBits_iff _ _

/-! ### Moves (R93) -/

theorem move_same (u : CondUnit) (s : State) : u.move u.raw s = u := if_pos rfl

theorem move_on {u : CondUnit} (s : State) (h : u.raw = false) :
    (u.state = .off → u.entry.onDelay = 0 → u.move true s = { u with raw := true, state := .on, deadline := none }) ∧
    (u.state = .off → u.entry.onDelay ≠ 0 → u.move true s =
      { u with raw := true, state := .arming, deadline := some (s.now + 1000 * u.entry.onDelay) }) ∧
    (u.state = .releasing → u.move true s = { u with raw := true, state := .on, deadline := none }) := by
  have hraw : ¬u.raw = true := by rw [h]; decide
  refine ⟨fun hst hd => ?_, fun hst hd => ?_, fun hst => ?_⟩
  · rw [CondUnit.move, if_neg hraw]
    simp only [hst, hd, if_true]
  · rw [CondUnit.move, if_neg hraw]
    simp only [hst, hd, if_false, State.after]
  · rw [CondUnit.move, if_neg hraw]
    simp only [hst]

theorem move_off {u : CondUnit} (s : State) (h : u.raw = true) :
    (u.state = .arming → u.move false s = { u with raw := false, state := .off, deadline := none }) ∧
    (u.state = .on → u.entry.offDelay = 0 →
      u.move false s = { u with raw := false, state := .off, deadline := none }) ∧
    (u.state = .on → u.entry.offDelay ≠ 0 → u.move false s =
      { u with raw := false, state := .releasing, deadline := some (s.now + 1000 * u.entry.offDelay) }) := by
  have hraw : ¬u.raw = false := by rw [h]; decide
  refine ⟨fun hst => ?_, fun hst hd => ?_, fun hst hd => ?_⟩
  · rw [CondUnit.move, if_neg hraw]
    simp only [hst]
  · rw [CondUnit.move, if_neg hraw]
    simp only [hst, hd, if_true]
  · rw [CondUnit.move, if_neg hraw]
    simp only [hst, hd, if_false, State.after]

/-- A move leaves the comparison, and the raw truth is the one it was told. -/
theorem move_truths (u : CondUnit) (raw : Bool) (s : State) :
    (u.move raw s).raw = raw ∧ (u.move raw s).comparison = u.comparison := by
  unfold CondUnit.move
  split
  · next h => exact ⟨h, rfl⟩
  · dsimp only
    split
    · split
      · exact ⟨rfl, rfl⟩
      · exact ⟨rfl, rfl⟩
    · exact ⟨rfl, rfl⟩
    · exact ⟨rfl, rfl⟩
    · exact ⟨rfl, rfl⟩
    · split
      · exact ⟨rfl, rfl⟩
      · exact ⟨rfl, rfl⟩
    · exact ⟨rfl, rfl⟩

/-- A move is timed by the time alone. -/
theorem move_congr (u : CondUnit) (raw : Bool) {s t : State} (h : t.now = s.now) : u.move raw t = u.move raw s := by
  have hafter : ∀ ms, t.after ms = s.after ms := fun ms => by rw [State.after, State.after, h]
  simp only [CondUnit.move, hafter]

/-! ### Evaluations (R89, R92) -/

theorem evaluates_of_stage {s : State} {c : Fin 96} (h : 3 ≤ s.stage) (he : s.conds[c].entry.enabled = true) :
    s.evaluates c = true := by
  rw [State.evaluates, he, Bool.and_true]
  exact decide_eq_true h

theorem gateTrue_none {s : State} {u : CondUnit} (h : u.entry.gate = none) : s.gateTrue u = true := by
  rw [State.gateTrue, h]

theorem gateTrue_some {s : State} {u : CondUnit} {g : Fin 96} (h : u.entry.gate = some g.val) :
    s.gateTrue u = s.conds[g].isTrue := by
  rw [State.gateTrue, h]
  dsimp only
  rw [unit?_val]

/-- A condition that reads a slot, told of its change, is evaluated on it. -/
theorem tellConditions_reader {k : Fin 256} {c : Fin 96} {s : State} (hstage : 3 ≤ s.stage)
    (he : s.conds[c].entry.enabled = true) (hslot : s.conds[c].entry.slot = k.val)
    (hf : s.conds[c].entry.comparator ≠ .faultActive) (hgate : s.conds[c].entry.gate = none) :
    (tellConditions k s).conds[c] =
      { s.conds[c] with comparison := s.comparison s.conds[c] }.move (s.comparison s.conds[c]) s := by
  obtain ⟨a, ha, hrest⟩ := each_at
    (fun a b : State => Quiet True a b ∧ (a.conds[c].entry.gate = none → b.conds[c] = a.conds[c]))
    (fun a => ⟨Quiet.refl a, fun _ => rfl⟩)
    (fun {a b d} ⟨hq, hc⟩ ⟨hq', hc'⟩ => ⟨hq.trans hq', fun h => (hc' (hc h ▸ h)).trans (hc h)⟩)
    (fun c s => if s.conds[c].entry.slot = k.val && s.conds[c].entry.comparator ≠ .faultActive then evaluate c s else s)
    c (fun i a hi => ⟨Quiet.ite (fun _ => evaluate_quiet i a) fun _ => Quiet.refl a, fun h => by
      split
      · exact evaluate_other (Ne.symm hi) h
      · rfl⟩) s
  obtain ⟨hquiet, hsame⟩ := ha
  have hc := hsame hgate
  have hreads : (a.conds[c].entry.slot = k.val && a.conds[c].entry.comparator ≠ .faultActive) = true := by
    rw [hc]
    simp only [hslot, hf, ne_eq, not_false_eq_true, decide_true, Bool.and_self]
  rw [if_pos hreads] at hrest
  have hgate' : a.conds[c].entry.gate ≠ some c.val := by rw [hc, hgate]; exact nofun
  have hself := evaluate_self hgate'
  have hafter : (tellConditions k s).conds[c] = (evaluate c a).conds[c] :=
    hrest.2 (by rw [hself, State.reached, if_pos (evaluates_of_stage (hquiet.stage ▸ hstage) (hc ▸ he)), evaluated_entry, hc, hgate])
  have hcmp : a.comparison s.conds[c] = s.comparison s.conds[c] :=
    comparison_congr hf (by rw [State.slot, State.slot, hquiet.slots])
  rw [hafter, hself, State.reached, if_pos (evaluates_of_stage (hquiet.stage ▸ hstage) (hc ▸ he)), State.evaluated,
    hc, gateTrue_none hgate, Bool.and_true, hcmp]
  exact move_congr _ _ (hquiet.tell.project (·.now) rfl)

/-! ### A host write, and its readers -/

theorem selectSlots_ge : ∀ j ∈ selectSlots, 240 ≤ j.val := by
  intro j hj
  simp only [selectSlots, List.mem_cons, List.not_mem_nil, or_false] at hj
  rcases hj with rfl | rfl | rfl | rfl | rfl | rfl
  all_goals decide

theorem activeFaults_ge : ∀ j ∈ [slotActiveFaults], 240 ≤ j.val := by
  intro j hj
  rw [List.mem_singleton.mp hj]
  decide

theorem configSlot_notSelect (k : Fin 240) : configSlot k ∉ selectSlots := fun h =>
  absurd (selectSlots_ge _ h) (Nat.not_le.mpr k.isLt)

theorem unread_of_configSlot {u : CondUnit} {k : Fin 240} {ks : List (Fin 256)} (hgate : u.entry.gate = none)
    (hf : u.entry.comparator ≠ .faultActive) (hslot : u.entry.slot = k.val) (hks : ∀ j ∈ ks, 240 ≤ j.val) :
    Unread ks u :=
  ⟨hgate, hf, fun j hj he => absurd (hks j hj) (by omega)⟩

theorem slot_configSlot (s : State) (k : Fin 240) : s.slot k.val = s.record k := by
  have hk : k.val < 256 := Nat.lt_trans k.isLt (by decide)
  rw [State.slot, vget?, dif_pos hk]
  rfl

theorem startPanelDeadline_conds (k : Fin 240) (s : State) : (startPanelDeadline k s).conds = s.conds := by
  simp only [startPanelDeadline]
  split
  · rfl
  · rfl

section
variable {k : Fin 240} {c : Fin 96} {s : State} (hgate : s.conds[c].entry.gate = none)
  (hf : s.conds[c].entry.comparator ≠ .faultActive) (hslot : s.conds[c].entry.slot = k.val)
include hgate hf hslot

/-- What R33 records on a slot is not told, but for the fault. -/
theorem recordLimited_conds (raw v : Int) : (recordLimited k raw v s).conds[c] = s.conds[c] := by
  have hunread : Unread [slotActiveFaults] s.conds[c] := unread_of_configSlot hgate hf hslot activeFaults_ge
  simp only [recordLimited]
  split
  · split
    · exact (raiseFault_keeps_self _ _ _).conds c hunread
    · rfl
  · exact (clearFault_keeps_self _ _ _).conds c hunread

/-- A condition that reads a configurable slot is evaluated once when its consumers are told. -/
theorem tellConsumers_cond (hstage : 3 ≤ s.stage) (he : s.conds[c].entry.enabled = true) :
    (tellConsumers (configSlot k) s).conds[c] =
      { s.conds[c] with comparison := s.comparison s.conds[c] }.move (s.comparison s.conds[c]) s := by
  have hgauges : (tellGauges (configSlot k) s).conds = s.conds := by
    unfold tellGauges
    split
    · rfl
    · rfl
  have hcond : (tellGauges (configSlot k) s).conds[c] = s.conds[c] := by rw [hgauges]
  have htold := tellConditions_reader (k := configSlot k) (c := c) (s := tellGauges (configSlot k) s)
    (by rw [(tellGauges_tell _ s).stage]; exact hstage) (by rw [hcond]; exact he) (by rw [hcond]; exact hslot)
    (by rw [hcond]; exact hf) (by rw [hcond]; exact hgate)
  have hcmp : (tellGauges (configSlot k) s).comparison s.conds[c] = s.comparison s.conds[c] :=
    comparison_congr hf (by rw [State.slot, State.slot, (tellGauges_quiet (free := True) _ s).slots])
  have hmove := fun u raw => move_congr u raw ((tellGauges_tell (configSlot k) s).project (·.now) rfl)
  rw [hcond, hcmp, hmove] at htold
  have hentry : (tellConditions (configSlot k) (tellGauges (configSlot k) s)).conds[c].entry = s.conds[c].entry :=
    ((tellGauges_tell _ s).trans (tellConditions_tell _ _)).condEntry c
  exact ((tellConsumers_after _ s).conds c (unread_of_configSlot (by rw [hentry]; exact hgate) (by rw [hentry]; exact hf)
    (by rw [hentry]; exact hslot) selectSlots_ge)).trans htold

/-- A host write that changes a slot has the conditions that read it evaluated. -/
theorem signalWritten_cond {v : Int} (hstage : 3 ≤ s.stage) (he : s.conds[c].entry.enabled = true)
    (hchange : ¬((s.record k).value = limited s.descs[k] v ∧ (s.record k).state = .valid)) :
    (signalWritten k v s).conds[c] =
      { s.conds[c] with comparison := (signalWritten k v s).comparison s.conds[c] }.move
        ((signalWritten k v s).comparison s.conds[c]) s := by
  have hcond := recordLimited_conds hgate hf hslot v v
  have hstored := recordLimited_stored k v v s
  have hrecord : (recordLimited k v v s).record k = (s.record k).noting s.descs[k] v v := recordLimited_same s v v
  obtain ⟨b, hb, hbc, hbn, hbs⟩ : ∃ b : State, storeValue k v v s = tellConsumers (configSlot k) b ∧
      b.conds[c] = s.conds[c] ∧ b.now = s.now ∧ b.stage = s.stage :=
    ⟨_, if_neg (by rw [hrecord]; exact hchange), hcond, hstored.project (·.now) rfl, hstored.project (·.stage) rfl⟩
  have hunread : Unread [slotActiveFaults] s.conds[c] := unread_of_configSlot hgate hf hslot activeFaults_ge
  have htold := tellConsumers_cond (k := k) (c := c) (s := b) (by rw [hbc]; exact hgate) (by rw [hbc]; exact hf)
    (by rw [hbc]; exact hslot) (by rw [hbs]; exact hstage) (by rw [hbc]; exact he)
  rw [hbc, ← hb] at htold
  have hcmp : (signalWritten k v s).comparison s.conds[c] = b.comparison s.conds[c] := by
    refine comparison_congr hf ?_
    rw [hslot, slot_configSlot, slot_configSlot, signalWritten_record, hb, (tellConsumers_moved _ _).record]
  have hlast : (signalWritten k v s).conds[c] = (storeValue k v v s).conds[c] := by
    rw [signalWritten, startPanelDeadline_conds]
    refine (clearFault_keeps_self _ _ _).conds c ?_
    rw [htold]
    exact unread_of_configSlot (by rw [move_entry]; exact hgate) (by rw [move_entry]; exact hf)
      (by rw [move_entry]; exact hslot) activeFaults_ge
  rw [hlast, htold, hcmp]
  exact move_congr _ _ hbn

end

/-! ### Delays (R92, R93, R95, R99) -/

theorem onCondition_true (u : TelltaleUnit) :
    u.onCondition true = if u.state = .dark ∨ u.state = .latched then .litNew else u.state := by
  cases h : u.state with
  | dark => simp [TelltaleUnit.onCondition, h]
  | litNew => simp [TelltaleUnit.onCondition, h]
  | litAcked => simp [TelltaleUnit.onCondition, h]
  | latched => simp [TelltaleUnit.onCondition, h]

theorem onCondition_false (u : TelltaleUnit) :
    u.onCondition false = if u.state = .litNew then (if u.entry.latch then .latched else .dark)
      else if u.state = .litAcked then .dark else u.state := by
  cases h : u.state with
  | dark => simp [TelltaleUnit.onCondition, h]
  | litNew => simp [TelltaleUnit.onCondition, h]
  | litAcked => simp [TelltaleUnit.onCondition, h]
  | latched => simp [TelltaleUnit.onCondition, h]

theorem heard_state (u : TelltaleUnit) {c : Fin 96} (truth : Bool) (he : u.entry.enabled = true)
    (hc : u.entry.condition = c.val) : (u.heard c truth).state = u.onCondition truth := by
  rw [TelltaleUnit.heard, if_pos (by simp only [he, hc, decide_true, Bool.and_self])]

theorem redrive_telltales (s : State) : (redrive s).telltales = s.telltales :=
  (redrive_sounds s).project (·.telltales) rfl

theorem redrive_conds (s : State) : (redrive s).conds = s.conds := (redrive_sounds s).project (·.conds) rfl

/-- A change of a condition's truth, in RUN and ACTIVE: its telltales hear of it once, and each condition it gates has
the raw truth of its comparison under it. -/
theorem putCond_changed {c : Fin 96} {u : CondUnit} {s : State} (hstage : 6 ≤ s.stage)
    (hchange : u.isTrue ≠ s.conds[c].isTrue) (hentry : u.entry = s.conds[c].entry)
    (hgate : s.conds[c].entry.gate ≠ some c.val) :
    (putCond c u s).conds[c] = u ∧
    (∀ k : Fin 64, s.telltales[k].entry.condition = c.val →
      (putCond c u s).telltales[k] = s.telltales[k].heard c u.isTrue) ∧
    ∀ g : Fin 96, s.conds[g].entry.enabled = true → s.conds[g].entry.gate = some c.val →
      (putCond c u s).conds[g].raw = ((putCond c u s).conds[g].comparison && u.isTrue) := by
  have hself : (putCond c u s).conds[c] = u := putCond_self (by rw [hentry]; exact hgate)
  obtain ⟨b, hbdef⟩ : ∃ b, b = tellTelltales c u.isTrue { s with conds := vput s.conds c u } := ⟨_, rfl⟩
  have hput : putCond c u s = redrive (gateRound c b) := by rw [putCond_eq, if_neg hchange, hbdef]
  have hshows : Shows { s with conds := vput s.conds c u } b := hbdef ▸ tellTelltales_shows _ _ _
  have hbc : b.conds = vput s.conds c u := hshows.project (·.conds) rfl
  have hbself : b.conds[c] = u := by rw [hbc]; exact vput_same _ _ _
  have hbgate : b.conds[c].entry.gate ≠ some c.val := by rw [hbself, hentry]; exact hgate
  have htells := redrive_telltales (gateRound c b)
  have hconds := redrive_conds (gateRound c b)
  refine ⟨hself, fun k hk => ?_, fun g he hg => ?_⟩
  · have hheard : b.telltales[k] = s.telltales[k].heard c u.isTrue := by
      rw [hbdef]
      exact tellTelltales_telltale c u.isTrue k (s := { s with conds := vput s.conds c u }) (Nat.le_of_succ_le hstage)
    have hbk : b.telltales[k].entry.condition = c.val := by
      rw [hheard, TelltaleUnit.heard]
      split
      · exact hk
      · exact hk
    rw [hput, htells, (gateRound_keeps hbgate).2 k hbk, hheard]
  · have hgc : g ≠ c := fun h => hgate (h ▸ hg)
    have hbg : b.conds[g] = s.conds[g] := by rw [hbc]; exact vput_other _ _ hgc
    obtain ⟨a, ha, hac, hag⟩ := gateRound_gated (j := c) (g := g) (s := b) (by rw [hbg]; exact hg) hbgate
    have hentry' : a.conds[g].entry = s.conds[g].entry := (ha.tell.condEntry g).trans (congrArg (·.entry) hbg)
    have hastage : 3 ≤ a.stage := by
      rw [ha.stage, hshows.project (·.stage) rfl]
      exact Nat.le_trans (by decide) hstage
    have hfinal : (putCond c u s).conds[g] = a.evaluated g := by
      rw [hput, hconds, hag, State.reached,
        if_pos (evaluates_of_stage hastage (hentry' ▸ he))]
    obtain ⟨hraw, hcmp⟩ := move_truths { a.conds[g] with comparison := a.comparison a.conds[g] }
      (a.comparison a.conds[g] && a.gateTrue a.conds[g]) a
    have hgtrue : a.gateTrue a.conds[g] = u.isTrue := by
      rw [gateTrue_some (g := c) (by rw [hentry']; exact hg), hac, hbself]
    rw [hfinal]
    exact hraw.trans (by rw [hgtrue]; exact congrArg (· && u.isTrue) hcmp.symm)

theorem expireDelay_none {c : Fin 96} {s : State} (h : s.conds[c].deadline = none) : expireDelay c s = s := by
  have hdue : ¬ s.due s.conds[c].deadline = true := by rw [h]; exact Bool.false_ne_true
  exact if_neg hdue

theorem expireDelay_arming {c : Fin 96} {s : State} (hdue : s.due s.conds[c].deadline = true)
    (h : s.conds[c].state = .arming) :
    expireDelay c s = putCond c { s.conds[c] with state := .on, deadline := none } s := by
  rw [expireDelay]
  dsimp only
  rw [if_pos hdue, h]

theorem expireDelay_releasing {c : Fin 96} {s : State} (hdue : s.due s.conds[c].deadline = true)
    (h : s.conds[c].state = .releasing) :
    expireDelay c s = putCond c { s.conds[c] with state := .off, deadline := none } s := by
  rw [expireDelay]
  dsimp only
  rw [if_pos hdue, h]

theorem isTrue_of_state {s : State} {c : Fin 96} {st : CondState} (h : s.conds[c].state = st) :
    s.conds[c].isTrue = (decide (st = .on) || decide (st = .releasing)) := by
  rw [CondUnit.isTrue, h]

theorem stage_of_settled {s : State} (h : s.settled = true) (hm : s.mode = .run) (hact : s.isActive = true) :
    s.stage = 6 := by
  have hstage : s.stage = if s.isRun && s.isActive then 6 else 0 := of_decide_eq_true h
  rw [hstage, hact, State.isRun, hm]
  rfl

/-- Settles O34. -/
theorem conditionsAreEvaluatedAndDelayed : Obligations.ConditionsAreEvaluatedAndDelayed := by
  refine ⟨fun s u => ⟨comparison_rules s u, fun hu => ⟨fun hn => ?_, fun hn hf => ?_⟩, fun hf => ?_⟩,
    fun s u => ⟨move_same u s, move_on s, move_off s⟩, ?_, ?_, ?_⟩
  · rw [comparison_unusable hu (by simp [hn]), compareUnusable, hn]
  · rw [comparison_unusable hu hf]
    exact compareUnusable_policy hn
  · rw [comparison_fault hf]
    exact faultActive_iff s _ _
  · intro s dt tag k v c hs hm hsettled hkind he hslot hf hgate w hchange
    have hact : s.isActive = true := (s.serving_iff.mp hs).2.1
    have hstage : 3 ≤ (s.noted dt).stage := by
      rw [State.noted_stage, stage_of_settled hsettled hm hact]
      decide
    obtain ⟨n, hsame⟩ := storeValue_same (k := k) (s.noted dt) v v
    refine ⟨_, exec_served rfl rfl hs (serveSignalWrite_panel (s := s.noted dt) v hm k hkind), ?_, ?_, ?_,
      signalWritten_stored k v _⟩
    · exact (signalWritten_cond (s := s.noted dt) hgate hf hslot hstage he hchange).trans (move_congr _ _ rfl)
    · rw [signalWritten_record k k v, hsame]
      rfl
    · rw [signalWritten_record k k v, hsame]
  · intro s dt c hawake hnone
    exact (event_of_awake (s.awake_iff.mp hawake).1).trans (congrArg _ (expireDelay_none hnone))
  · intro s dt due c hawake hm hsettled hgate hdead hdue
    obtain ⟨hreset, hact⟩ := s.awake_iff.mp hawake
    have hdue' : (s.elapse dt).due (s.elapse dt).conds[c].deadline = true := by
      rw [State.elapse_conds, hdead]
      exact decide_eq_true hdue
    have hstage : 6 ≤ (s.elapse dt).stage := le_of_eq (stage_of_settled hsettled hm hact).symm
    refine ⟨fun hst => ?_, fun hst => ?_⟩
    · obtain ⟨hself, htell, hgated⟩ := putCond_changed (c := c)
        (u := { s.conds[c] with state := .on, deadline := none }) (s := s.elapse dt) hstage
        (by rw [isTrue_of_state (s := s.elapse dt) hst]; exact (by decide : true ≠ false)) rfl hgate
      refine ⟨_, (event_of_awake hreset).trans (congrArg _ (expireDelay_arming hdue' hst)), hself,
        fun k he hk => ?_, fun g he hg => ?_, putCond_tell c _ _ rfl⟩
      · exact (congrArg (·.state) (htell k hk)).trans ((heard_state _ _ he hk).trans (onCondition_true _))
      · exact (hgated g he hg).trans (Bool.and_true _)
    · obtain ⟨hself, htell, hgated⟩ := putCond_changed (c := c)
        (u := { s.conds[c] with state := .off, deadline := none }) (s := s.elapse dt) hstage
        (by rw [isTrue_of_state (s := s.elapse dt) hst]; exact (by decide : false ≠ true)) rfl hgate
      refine ⟨_, (event_of_awake hreset).trans (congrArg _ (expireDelay_releasing hdue' hst)), hself,
        fun k he hk => ?_, fun g he hg => ?_, putCond_tell c _ _ rfl⟩
      · exact (congrArg (·.state) (htell k hk)).trans ((heard_state _ _ he hk).trans (onCondition_false _))
      · exact (hgated g he hg).trans (Bool.and_false _)

end Sys2Proof.Machine
end

section
/-! PROOFS. The tables that may be written in RUN: gauges, conditions, telltales and chime patterns (R68, R96, R105,
R107). -/

namespace Sys2Proof.Machine

/-! ### Gauges (R68) -/

/-- Homing begins at attempt 1, at position 0, with the travel time of the entry. -/
theorem homed_eq (s : State) (u : GaugeUnit) : ∃ x, s.homed u = { u with
    state := .homing, target := x, position := 0, sweep := none, motion := none, attempt := 1,
    travel := some (s.after (u.entry.fullScale + 200)) } := by
  unfold State.homed State.retargeted
  split
  · exact ⟨_, rfl⟩
  · split
    · exact ⟨_, rfl⟩
    · exact ⟨_, rfl⟩

theorem gaugeWritten_entry (s : State) (u : GaugeUnit) (e : GaugeEntry) : (s.gaugeWritten u e).entry = e := by
  unfold State.gaugeWritten
  dsimp only
  split
  · rfl
  · rw [homed_entry]
  · split
    · rfl
    · rw [asOff_entry]
  · split
    · rw [homed_entry]
    · rw [retargeted_entry]

/-- A gauge enabled by the write is homed under its new entry. -/
theorem gaugeWritten_enabled {u : GaugeUnit} {e : GaugeEntry} (s : State) (hu : u.entry.enabled = false)
    (he : e.enabled = true) :
    s.gaugeWritten u e = s.homed { u with entry := e, target := Nat.min u.target e.fullScale } := by
  rw [State.gaugeWritten, hu, he]

theorem gaugeWritten_disabled {u : GaugeUnit} {e : GaugeEntry} (s : State) (hu : u.entry.enabled = true)
    (he : e.enabled = false) (hst : u.state ≠ .fault) : (s.gaugeWritten u e).state = .off := by
  rw [State.gaugeWritten, hu, he]
  dsimp only
  rw [if_neg hst]
  rfl

theorem GaugeUnit.sameCourse.kept {u v : GaugeUnit} (h : u.sameCourse v) :
    v.entry = u.entry ∧ v.state = u.state ∧ v.attempt = u.attempt ∧ v.position = u.position ∧ v.travel = u.travel := by
  rw [h]
  exact ⟨rfl, rfl, rfl, rfl, rfl⟩

theorem endTest_held (s : State) : Held s (endTest s) := (endTest_busy (place := True) s).held

/-- The acts after the entry is written leave the gauge on its course. -/
theorem writeGaugeEntry_held (g : Fin 6) (e : GaugeEntry) (s : State) :
    Held { s with gauges := vput s.gauges g (s.gaugeWritten s.gauges[g] e) } (writeGaugeEntry g e s) ∧
    Moved { s with gauges := vput s.gauges g (s.gaugeWritten s.gauges[g] e) } (writeGaugeEntry g e s) := by
  have hclear (a : State) (p : Prop) [Decidable p] : Held a (if p then clearFault .gaugeHome (some g.val) a else a) ∧
      Moved a (if p then clearFault .gaugeHome (some g.val) a else a) := by
    split
    · exact ⟨clearFault_held _ _ a, (clearFault_told _ _ a).moved⟩
    · exact ⟨Held.refl a, Moved.refl a⟩
  have htest (a : State) (p : Prop) [Decidable p] : Held a (if p then endTest a else a) ∧
      Moved a (if p then endTest a else a) := by
    split
    · exact ⟨endTest_held a, endTest_moved a⟩
    · exact ⟨Held.refl a, Moved.refl a⟩
  exact ⟨(hclear _ _).1.trans (htest _ _).1, (hclear _ _).2.trans (htest _ _).2⟩

theorem tables_withGauges (s : State) (v : Vector GaugeUnit 6) :
    ({ s with gauges := v } : State).tables = { s.tables with gauge := v.toArray.toList.map (·.entry) } := rfl

/-- The gauges may be counted with the base of what moved. -/
theorem Moved.withGauges {a t : State} (h : Moved a t) : Moved { a with gauges := t.gauges } t := by
  have hbase : t.tables = ({ a with gauges := t.gauges } : State).tables := by
    rw [tables_withGauges a t.gauges, ← h.tables]
    rfl
  obtain ⟨_, _, _, _, _, _, _, _, _, _, _, _, _, _, _, _, _, _, rfl, -, hrecord⟩ := h
  exact ⟨_, _, _, _, _, _, _, _, _, _, _, _, _, _, _, _, _, _, rfl, hbase, hrecord⟩

/-! ### Conditions (R96) -/

theorem condReferences_gate {s : State} {c : Fin 96} {e : CondEntry} (h : s.condReferences c e = true) :
    e.gate ≠ some c.val := by
  intro hself
  simp [State.condReferences, hself] at h

theorem writeCondEntry_tells (c : Fin 96) (e : CondEntry) (s : State) :
    Tell { s with conds := vput s.conds c { s.conds[c] with entry := e } } (writeCondEntry c e s) := by
  have hclear : Tell { s with conds := vput s.conds c { s.conds[c] with entry := e } }
      { s with conds := vput s.conds c (CondUnit.clear { s.conds[c] with entry := e }) } :=
    tell_conds (s := { s with conds := vput s.conds c { s.conds[c] with entry := e } }) (by
      rw [← vput_vput s.conds c { s.conds[c] with entry := e } (CondUnit.clear { s.conds[c] with entry := e })]
      exact vput_map _ _ _ _ (by rw [vput_same]; rfl))
  exact (hclear.trans (putCond_tells (free := True) c _ s).tell).trans (evaluate_tell c _)

/-- At stage 0 no condition is evaluated. -/
theorem evaluate_atRest {c : Fin 96} {s : State} (h : s.stage = 0) : evaluate c s = s := by
  have hno : ¬ s.evaluates c = true := by
    rw [State.evaluates, h]
    exact Bool.false_ne_true
  exact if_neg hno

theorem stage_atRest {s : State} (h : s.settled = true) (hm : s.mode = .setup) : s.stage = 0 := by
  have hstage : s.stage = if s.isRun && s.isActive then 6 else 0 := of_decide_eq_true h
  rw [hstage, State.isRun, hm]
  rfl

theorem writeCondEntry_atRest {c : Fin 96} {e : CondEntry} {s : State} (h : s.stage = 0) (hgate : e.gate ≠ some c.val) :
    (writeCondEntry c e s).conds[c] = CondUnit.clear { s.conds[c] with entry := e } := by
  have hstage : (putCond c (CondUnit.clear { s.conds[c] with entry := e }) s).stage = 0 :=
    (putCond_tells (free := True) c _ s).stage.trans h
  rw [writeCondEntry, evaluate_atRest hstage]
  exact putCond_self hgate

/-! ### Telltales (R105) -/

theorem tables_withTelltales (s : State) (v : Vector TelltaleUnit 64) :
    ({ s with telltales := v } : State).tables = { s.tables with telltale := v.toArray.toList.map (·.entry) } := rfl

/-- Telltales told before their table is written are told of the table written. -/
theorem Tell.withTelltales {s a : State} (h : Tell s a) {tt tt' : Vector TelltaleUnit 64}
    (he : tt'.toArray.toList.map TelltaleUnit.entry = tt.toArray.toList.map TelltaleUnit.entry) :
    Tell { s with telltales := tt } { a with telltales := tt' } := by
  have hbase : ({ a with telltales := tt' } : State).tables = ({ s with telltales := tt } : State).tables := by
    rw [tables_withTelltales a tt', tables_withTelltales s tt, h.tables, he]
  obtain ⟨_, _, _, _, _, _, _, _, _, rfl, -, hrecord⟩ := h
  exact ⟨_, _, _, _, _, _, _, _, _, rfl, hbase, hrecord⟩

/-- The state in which a telltale's new entry stands, DARK. -/
def entered (k : Fin 64) (e : TelltaleEntry) (s : State) : State :=
  let a := setTelltale k .dark (withdrawRequest (telltaleRequester k) s)
  redrive { a with telltales := vput a.telltales k { a.telltales[k] with entry := e } }

theorem entered_telltales (k : Fin 64) (e : TelltaleEntry) (s : State) :
    (entered k e s).telltales = vput s.telltales k { entry := e, state := .dark } := by
  rw [entered, redrive_telltales]
  dsimp only
  rw [setTelltale_telltales, show (withdrawRequest (telltaleRequester k) s).telltales = s.telltales from
    (withdrawRequest_sounds _ s).project (·.telltales) rfl, vput_vput]
  exact congrArg (vput _ _) (by rw [vput_same])

theorem entered_conds (k : Fin 64) (e : TelltaleEntry) (s : State) : (entered k e s).conds = s.conds := by
  rw [entered, redrive_conds]
  exact ((withdrawRequest_sounds _ s).shows.trans (setTelltale_shows k .dark _)).project (·.conds) rfl

/-- An entry written at a unit is that unit's whole entry in the table. -/
theorem map_vput_entry {n : Nat} {α β : Type} (f : α → β) (v : Vector α n) (k : Fin n) {a b : α} (h : f a = f b) :
    (vput v k a).toArray.toList.map f = (vput v k b).toArray.toList.map f := by
  rw [← vput_vput v k b a]
  exact vput_map _ _ _ _ (by rw [vput_same, h])

theorem entered_tell (k : Fin 64) (e : TelltaleEntry) (s : State) :
    Tell { s with telltales := vput s.telltales k { s.telltales[k] with entry := e } } (entered k e s) := by
  have hbefore : Tell s (setTelltale k .dark (withdrawRequest (telltaleRequester k) s)) :=
    (withdrawRequest_tell _ s).trans (setTelltale_tell k .dark _)
  refine (hbefore.withTelltales ?_).trans (redrive_tell _)
  rw [setTelltale_telltales, show (withdrawRequest (telltaleRequester k) s).telltales = s.telltales from
    (withdrawRequest_sounds _ s).project (·.telltales) rfl, vput_vput]
  exact map_vput_entry _ _ _ rfl

theorem writeTelltaleEntry_eq {k : Fin 64} {c : Fin 96} {e : TelltaleEntry} (s : State) (h : e.condition = c.val) :
    writeTelltaleEntry k e s = if e.enabled && (entered k e s).running && (entered k e s).conds[c].isTrue then
      setTelltale k .litNew (entered k e s) else entered k e s := by
  rw [writeTelltaleEntry, h]
  dsimp only
  rw [unit?_val]
  rfl

/-- A telltale written is DARK, or LIT_NEW where its condition is true in RUN and ACTIVE. -/
theorem writeTelltaleEntry_telltales {k : Fin 64} {c : Fin 96} {e : TelltaleEntry} (s : State)
    (h : e.condition = c.val) : (writeTelltaleEntry k e s).telltales = vput s.telltales k { entry := e, state :=
      if e.enabled && s.isRun && s.isActive && s.conds[c].isTrue then .litNew else .dark } := by
  have hrun : (entered k e s).running = s.running := (entered_tell k e s).project (·.running) rfl
  have hlit : (e.enabled && (entered k e s).running && (entered k e s).conds[c].isTrue) =
      (e.enabled && s.isRun && s.isActive && s.conds[c].isTrue) := by
    rw [hrun, entered_conds, State.running, ← Bool.and_assoc]
  rw [writeTelltaleEntry_eq s h, hlit]
  split
  · rw [setTelltale_telltales, entered_telltales, vput_vput, vput_same]
  · exact entered_telltales k e s

theorem writeTelltaleEntry_tell {k : Fin 64} {c : Fin 96} {e : TelltaleEntry} (s : State) (h : e.condition = c.val) :
    Tell { s with telltales := vput s.telltales k { s.telltales[k] with entry := e } } (writeTelltaleEntry k e s) := by
  rw [writeTelltaleEntry_eq s h]
  exact (entered_tell k e s).trans (Tell.ite (setTelltale_tell k .litNew _) (Tell.refl _))

theorem telltaleFields_condition {e : TelltaleEntry} (h : telltaleFields e = true) :
    ∃ c : Fin 96, e.condition = c.val := by
  simp only [telltaleFields, Bool.and_eq_true, decide_eq_true_eq] at h
  exact ⟨⟨e.condition, by omega⟩, rfl⟩

/-! ### Chime patterns (R107) -/

/-- A pattern's write has the arbiter decide afresh, and the grant that names it restart. -/
theorem writeChimeEntry_cases (p : Fin 8) (e : ChimePattern) (s : State) :
    let a : State := { s with chime := { s.chime with patterns := vput s.chime.patterns p e } }
    writeChimeEntry p e s = a ∨ writeChimeEntry p e s = arbitrate a ∨
      ∃ r, writeChimeEntry p e s = startGrant r p.val (arbitrate a) := by
  simp only [writeChimeEntry]
  split
  · split
    · split
      · exact .inr (.inr ⟨_, rfl⟩)
      · exact .inr (.inl rfl)
    · exact .inr (.inl rfl)
  · exact .inl rfl

theorem writeChimeEntry_effect (p : Fin 8) (e : ChimePattern) (s : State) :
    (writeChimeEntry p e s).chime.patterns = vput s.chime.patterns p e ∧
    (writeChimeEntry p e s).chime.pending = s.chime.pending ∧
    Tell { s with chime := { s.chime with patterns := vput s.chime.patterns p e } } (writeChimeEntry p e s) := by
  obtain ⟨a, ha⟩ : ∃ a : State, a = { s with chime := { s.chime with patterns := vput s.chime.patterns p e } } := ⟨_, rfl⟩
  have hpatterns : a.chime.patterns = vput s.chime.patterns p e := by rw [ha]
  have hpending : a.chime.pending = s.chime.pending := by rw [ha]
  obtain ⟨hpend, hpat, -⟩ := arbitrated_grants a
  rw [← arbitrate_chime] at hpend hpat
  have hcases := writeChimeEntry_cases p e s
  rw [← ha] at hcases ⊢
  obtain h | h | ⟨r, h⟩ := hcases
  · rw [h]
    exact ⟨hpatterns, hpending, Tell.refl a⟩
  · rw [h]
    exact ⟨hpat.trans hpatterns, hpend.trans hpending, arbitrate_tell a⟩
  · rw [h]
    exact ⟨hpat.trans hpatterns, hpend.trans hpending, (arbitrate_tell a).trans (startGrant_tell r p.val _)⟩

/-- Settles O9. -/
theorem warningTableWritesTakeEffect : Obligations.WarningTableWritesTakeEffect := by
  intro s dt tag hs
  refine ⟨fun g e he href => ?_, fun c e he href => ?_, fun k e he => ?_, fun p e he => ?_⟩
  · obtain ⟨hheld, hmoved⟩ := writeGaugeEntry_held g e (s.noted dt)
    have hwritten : (vput s.gauges g ((s.noted dt).gaugeWritten s.gauges[g] e))[g] =
      (s.noted dt).gaugeWritten s.gauges[g] e := vput_same _ _ _
    obtain ⟨hentry, hstate, hattempt, hposition, htravel⟩ := (hwritten ▸ hheld.gauge g :
      ((s.noted dt).gaugeWritten s.gauges[g] e).sameCourse (writeGaugeEntry g e (s.noted dt)).gauges[g]).kept
    refine ⟨_, exec_written rfl rfl hs (congrArg tableWritten (writeGauge_taken (s := s.noted dt) g he href)),
      hentry.trans (gaugeWritten_entry _ _ _), fun hoff hon => ?_,
      fun hon hoff hfault => hstate.trans (gaugeWritten_disabled _ hon hoff hfault), ?_, hmoved.withGauges⟩
    · obtain ⟨x, hhomed⟩ := homed_eq (s.noted dt) { s.gauges[g] with
        entry := e
        target := Nat.min s.gauges[g].target e.fullScale }
      rw [hstate, hattempt, hposition, htravel, gaugeWritten_enabled _ hoff hon, hhomed]
      exact ⟨rfl, rfl, rfl, rfl⟩
    · rw [hmoved.tables]
      rfl
  · have htell := (writeCondEntry_tells c e (s.noted dt))
    refine ⟨_, exec_written rfl rfl hs (congrArg tableWritten (writeCondition_taken (s := s.noted dt) c he href)),
      (htell.condEntry c).trans (congrArg CondUnit.entry (vput_same s.conds c { s.conds[c] with entry := e })),
      fun hm hsettled => writeCondEntry_atRest ?_ (condReferences_gate href), ?_, htell⟩
    · exact stage_atRest (s := s.noted dt) hsettled hm
    · rw [htell.tables]
      rfl
  · obtain ⟨c, hc⟩ := telltaleFields_condition he
    have htells := writeTelltaleEntry_telltales (k := k) (s.noted dt) hc
    refine ⟨_, exec_written rfl rfl hs (congrArg tableWritten (writeTelltale_taken (s := s.noted dt) k he)), ?_,
      fun c' hc' => ?_, fun j hj => ?_, writeTelltaleEntry_tell (s.noted dt) hc⟩
    · rw [htells, vput_same]
    · rw [Fin.ext (hc'.trans hc), htells, vput_same]
      rfl
    · rw [htells]
      exact vput_other _ _ hj
  · exact ⟨_, exec_written rfl rfl hs (congrArg tableWritten (writeChime_taken (s := s.noted dt) p he)),
      writeChimeEntry_effect p e (s.noted dt)⟩

end Sys2Proof.Machine
end

section
/-! PROOFS. What START, STOP, park, wake and the ignition leave (chapters 10 and 11). Their operations on the blocks are
`Taken`: they keep everything but what the blocks hold, and the distance with it; `Aside` says besides that no
configurable slot was written. -/

namespace Sys2Proof.Machine

/-! ### What the transitions leave -/

/-- A state without what the blocks hold: the slots, the gauges, the conditions, the telltales, the chimes, the lines, the
flags, the faults, the doors, the speed but for the distance, the service channel, the bulb check and the stage. -/
def State.core (s : State) : State :=
  { s with
    slots := State.reset.slots
    panelDeadlines := State.reset.panelDeadlines
    gauges := State.reset.gauges
    conds := State.reset.conds
    telltales := State.reset.telltales
    chime := State.reset.chime
    outputs := State.reset.outputs
    lamps := State.reset.lamps
    flags := State.reset.flags
    attn := State.reset.attn
    faults := State.reset.faults
    capture := State.reset.capture
    doors := State.reset.doors
    runOn := State.reset.runOn
    stopLatch := State.reset.stopLatch
    drivePermit := State.reset.drivePermit
    stopBrake := State.reset.stopBrake
    speed := { State.reset.speed with total := s.speed.total, delta := s.speed.delta }
    service := { State.reset.service with served := s.service.served }
    bulb := State.reset.bulb
    stage := State.reset.stage
    flashOrigin := State.reset.flashOrigin }

/-- Between `s` and `t` only what the blocks hold was changed. -/
def Taken (s t : State) : Prop := t.core = s.core

namespace Taken

theorem refl (s : State) : Taken s s := rfl

theorem trans {a b c : State} (h : Taken a b) (h' : Taken b c) : Taken a c := Eq.trans h' h

theorem project {α : Type} {s t : State} (h : Taken s t) (f : State → α) (hf : ∀ a : State, f a.core = f a) :
    f t = f s :=
  (hf t).symm.trans ((congrArg f h).trans (hf s))

theorem ite {p : Prop} [Decidable p] {s a b : State} (ha : Taken s a) (hb : Taken s b) :
    Taken s (if p then a else b) := by
  split
  · exact ha
  · exact hb

theorem each {n : Nat} {f : Fin n → State → State} (h : ∀ i s, Taken s (f i s)) (s : State) :
    Taken s (Sys2Proof.each n f s) :=
  each_rel Taken refl trans f h s

end Taken

theorem Stored.taken {s t : State} (h : Stored s t) (ho : Tallied s t) :
    Taken s t := by
  obtain ⟨htotal, hdelta, hserved⟩ := ho
  obtain ⟨_, _, _, _, _, _, _, _, _, _, _, _, _, _, _, _, _, _, _, rfl, -⟩ := h
  simp only [Taken, State.core] at htotal hdelta hserved ⊢
  rw [htotal, hdelta, hserved]

theorem Derived.tallies {s t : State} (h : Derived s t) : Tallied s t :=
  ⟨h.project (·.speed.total) rfl, h.project (·.speed.delta) rfl, h.project (·.service.served) rfl⟩

/-- As `Taken`, and the configurable slots. -/
structure Aside (s t : State) : Prop where
  taken : Taken s t
  record : ∀ k : Fin 240, t.record k = s.record k

namespace Aside

theorem refl (s : State) : Aside s s := ⟨rfl, fun _ => rfl⟩

theorem trans {a b c : State} (h : Aside a b) (h' : Aside b c) : Aside a c :=
  ⟨h.taken.trans h'.taken, fun k => (h'.record k).trans (h.record k)⟩

theorem ite {p : Prop} [Decidable p] {s a b : State} (ha : Aside s a) (hb : Aside s b) :
    Aside s (if p then a else b) := by
  split
  · exact ha
  · exact hb

theorem each {n : Nat} {f : Fin n → State → State} (h : ∀ i s, Aside s (f i s)) (s : State) :
    Aside s (Sys2Proof.each n f s) :=
  each_rel Aside refl trans f h s

end Aside

theorem Moved.aside {s t : State} (h : Moved s t) (ho : Tallied s t) :
    Aside s t := ⟨h.stored.taken ho, h.record⟩

theorem Told.aside {s t : State} (h : Told s t) : Aside s t := by
  refine h.moved.aside ?_
  obtain ⟨_, _, _, _, _, _, _, _, _, _, _, rfl, -, -⟩ := h
  exact ⟨rfl, rfl, rfl⟩

theorem Tell.aside {s t : State} (h : Tell s t) : Aside s t := h.told.aside

/-! ### The operations of the transitions -/

theorem changeSlot_taken (k : Fin 240) (v : Int) (st : SlotState) (s : State) : Taken s (changeSlot k v st s) :=
  (changeSlot_stored k v st s).taken (changeSlot_keeps k v st s).tallies

theorem emptySlot_taken (k : Fin 240) (zero : Bool) (s : State) : Taken s (emptySlot k zero s) :=
  changeSlot_taken k 0 .empty _

theorem stampedEmpty_taken (k : Fin 240) (zero : Bool) (s : State) : Taken s (stampSlot k (emptySlot k zero s)) :=
  emptySlot_taken k zero s

theorem writeInputSlot_taken (k : Fin 240) (s : State) : Taken s (writeInputSlot k s) := by
  refine (writeInputSlot_stored k s).taken ?_
  simp only [writeInputSlot]
  split
  · exact (storeValue_keeps k _ _ s).tallies
  · exact ⟨rfl, rfl, rfl⟩

theorem startPanelDeadline_taken (k : Fin 240) (s : State) : Taken s (startPanelDeadline k s) := by
  unfold startPanelDeadline
  exact Taken.ite rfl rfl

theorem fillSlots_taken (s : State) : Taken s (fillSlots s) :=
  (Taken.each writeInputSlot_taken s).trans (Taken.each startPanelDeadline_taken _)

theorem clearCodes_aside (p : FaultCode → Bool) (s : State) : Aside s (clearCodes p s) := (clearCodes_told p s).aside

theorem startSlots_taken (s : State) : Taken s (startSlots s) := by
  have hempty : Taken s (each 240 (fun k s => stampSlot k (emptySlot k true s)) (noPanelDeadlines s)) :=
    Taken.each (fun k a => stampedEmpty_taken k true a) (noPanelDeadlines s)
  have hrest (a : State) : Taken a (fillSlots (clearCodes isSlotFault a)) :=
    (clearCodes_aside isSlotFault a).taken.trans (fillSlots_taken _)
  exact hempty.trans (hrest _)

theorem stopSlots_taken (s : State) : Taken s (stopSlots s) :=
  Taken.trans (b := clearCodes isSlotFault (noPanelDeadlines s)) (clearCodes_aside isSlotFault (noPanelDeadlines s)).taken
    (Taken.each (fun k a => stampedEmpty_taken k false a) _)

theorem wakeSlots_taken (s : State) : Taken s (wakeSlots s) := by
  have hempty : Taken s (each 240 (fun k s =>
      if s.descs[k].kind = .frame ∨ s.descs[k].kind = .panel then emptySlot k false s else s) s) :=
    Taken.each (fun k a => Taken.ite (emptySlot_taken k false a) (Taken.refl a)) s
  have hfill (a : State) : Taken a (if a.isRun then fillSlots a else a) := Taken.ite (fillSlots_taken a) (Taken.refl a)
  have hstamp (a : State) : Taken a { a with slots := vmap (fun r => { r with lastChange := 0 }) a.slots } := rfl
  exact (hempty.trans (hfill _)).trans (hstamp _)

theorem publish_aside {k : Fin 256} (h : 240 ≤ k.val) (v : Nat) (s : State) : Aside s (publish k v s) :=
  (publish_tell h v s).aside

theorem endTest_aside (s : State) : Aside s (endTest s) :=
  (endTest_moved s).aside (endTest_keeps (ks := []) (cs := []) s |>.tallies)

theorem tellTest_aside (s : State) : Aside s (tellTest s) := Aside.ite (Aside.refl s) (endTest_aside s)

theorem select_aside (s : State) : Aside s (select s) := (select_moved s).aside (select_keeps s).tallies

theorem takeUpSpeed_aside (s : State) : Aside s (takeUpSpeed s) := by
  have hselect : Aside s (select (putMismatch none (setStage 2 s))) :=
    Aside.trans (b := putMismatch none (setStage 2 s)) ⟨rfl, fun _ => rfl⟩ (select_aside _)
  unfold takeUpSpeed
  refine hselect.trans ?_
  unfold startTick
  split
  · exact ⟨rfl, fun _ => rfl⟩
  · exact Aside.refl _

theorem takeUpConditions_aside (s : State) : Aside s (takeUpConditions s) :=
  Aside.trans (b := clearConditions (setStage 3 s)) ⟨rfl, fun _ => rfl⟩ (evaluateAll_tell _).aside

theorem publishDoors_aside (s : State) : Aside s (publishDoors s) :=
  (publishDoors_moved s).aside (publishDoors_derived s).tallies

theorem doorDeparted_aside (s : State) : Aside s (doorDeparted s) := Aside.ite ⟨rfl, fun _ => rfl⟩ (Aside.refl s)

theorem publishAllDoors_aside (old : Vector DoorUnit 4) (s : State) : Aside s (publishAllDoors old s) := by
  have h : Aside s (setFlagIf (anyUnit 4 fun d => (publishDoors (each 4
      (fun d s => publish (slotDoorState d) s.doors[d].state.code s) s)).doors[d].state ≠ old[d].state) .door
      (publishDoors (each 4 (fun d s => publish (slotDoorState d) s.doors[d].state.code s) s))) :=
    ((Aside.each (fun d a => publish_aside (slotDoorState_ge d) _ a) s).trans (publishDoors_aside _)).trans
      (setFlagIf_tell _ _ _).aside
  exact Aside.ite (h.trans (doorDeparted_aside _)) h

theorem setUpEffects_aside (d : Fin 4) (s : State) : Aside s (setUpEffects d s) := by
  unfold setUpEffects
  split
  · exact (raiseFault_told _ _ s).aside.trans (placeIf_tell _ _ _).aside
  · exact (raiseFault_told _ _ s).aside
  · exact (clearForced_told d s).aside
  · exact Aside.refl s

theorem setUpDoors_aside (s : State) : Aside s (setUpDoors s) := by
  have hput : Aside s (each 4 (fun d s => putDoor d (s.setUpDoor d) s) s) :=
    Aside.each (f := fun d s => putDoor d (s.setUpDoor d) s) (fun _ _ => ⟨rfl, fun _ => rfl⟩) s
  exact (hput.trans (Aside.each setUpEffects_aside _)).trans (publishAllDoors_aside _ _)

theorem setStage_aside (n : Nat) (s : State) : Aside s (setStage n s) := ⟨rfl, fun _ => rfl⟩

theorem takeUpDoors_aside (s : State) : Aside s (takeUpDoors s) := (setStage_aside 4 s).trans (setUpDoors_aside _)

theorem takeUpTelltales_aside (s : State) : Aside s (takeUpTelltales s) :=
  (setStage_aside 5 s).trans (lightTelltales_tell _).aside

theorem takeUpLines_aside (s : State) : Aside s (takeUpLines s) := (setStage_aside 6 s).trans (redrive_tell _).aside

theorem takeUpRest_aside (s : State) : Aside s (takeUpRest s) :=
  ((takeUpDoors_aside s).trans (takeUpTelltales_aside _)).trans (takeUpLines_aside _)

theorem redrive_aside (s : State) : Aside s (redrive s) := (redrive_tell s).aside

theorem beginBulb_aside (s : State) : Aside s (beginBulb s) :=
  Aside.trans (b := { s with bulb := some (s.after s.system.bulbTime) }) ⟨rfl, fun _ => rfl⟩
    ((publish_aside (by decide) 1 _).trans (redrive_aside _))

theorem endBulb_aside (s : State) : Aside s (endBulb s) :=
  Aside.ite (Aside.trans (b := { s with bulb := none }) ⟨rfl, fun _ => rfl⟩
    ((publish_aside (by decide) 0 _).trans (redrive_aside _))) (Aside.refl s)

theorem darkenTelltales_aside (s : State) : Aside s (darkenTelltales s) :=
  Aside.trans (b := { s with telltales := vmap (fun u => { u with state := .dark }) s.telltales }) ⟨rfl, fun _ => rfl⟩
    (setFlagIf_tell _ _ _).aside

theorem emptyChimes_aside (s : State) : Aside s (emptyChimes s) :=
  Aside.trans (b := { s with chime := { s.chime with pending := Vector.replicate 70 none, grant := none } })
    ⟨rfl, fun _ => rfl⟩ (redrive_aside _)

theorem quietLines_aside (s : State) : Aside s (quietLines s) := by
  refine Aside.trans ?_ (redrive_aside _)
  exact ⟨rfl, fun _ => rfl⟩

theorem clearStopLatch_aside (s : State) : Aside s (clearStopLatch s) := by
  refine Aside.trans (Aside.trans ?_ (publish_aside (by decide) _ _)) (withdrawRequest_tell _ _).aside
  exact ⟨rfl, fun _ => rfl⟩

theorem stopDoors_aside (s : State) : Aside s (stopDoors s) :=
  Aside.trans (b := { s with doors := vmap DoorUnit.disable s.doors }) ⟨rfl, fun _ => rfl⟩
    (((clearCodes_aside _ _).trans (clearStopLatch_aside _)).trans (publishAllDoors_aside _ _))

theorem raiseOpenLoads_aside (s : State) : Aside s (raiseOpenLoads s) :=
  Aside.each (fun _ a => Aside.ite (raiseFault_told _ _ a).aside (Aside.refl a)) s

theorem wakeGauges_aside (s : State) : Aside s (wakeGauges s) := by
  unfold wakeGauges
  refine Aside.trans ?_ (clearCodes_aside _ _)
  exact ⟨rfl, fun _ => rfl⟩

theorem startRunOn_aside (s : State) : Aside s (startRunOn s) := ⟨rfl, fun _ => rfl⟩

end Sys2Proof.Machine
end

section
/-! PROOFS. STOP (R194): what each block holds once it has left RUN, and that nothing at rest moves it again. -/

namespace Sys2Proof.Machine

/-! ### What a transition keeps outside the blocks -/

/-- As `core`, without the supervision of the entries and the measurements of the pulse inputs. -/
def State.outer (s : State) : State :=
  { s.core with
    matchTable := State.reset.matchTable
    pulses := State.reset.pulses }

/-- Between `s` and `t` only what the blocks, the classifier and the pulse inputs hold was changed. -/
def Outer (s t : State) : Prop := t.outer = s.outer

namespace Outer

theorem trans {a b c : State} (h : Outer a b) (h' : Outer b c) : Outer a c := Eq.trans h' h

theorem project {α : Type} {s t : State} (h : Outer s t) (f : State → α) (hf : ∀ a : State, f a.outer = f a) :
    f t = f s :=
  (hf t).symm.trans ((congrArg f h).trans (hf s))

end Outer

theorem Taken.outer {s t : State} (h : Taken s t) : Outer s t := by
  rw [Outer, State.outer, State.outer, show t.core = s.core from h]

theorem Aside.outer {s t : State} (h : Aside s t) : Outer s t := h.taken.outer

theorem startSupervision_outer (s : State) : Outer s (startSupervision s) := rfl

theorem discardPulses_outer (s : State) : Outer s (discardPulses s) := rfl

theorem startPulses_outer (s : State) : Outer s (startPulses s) := rfl

/-! ### At rest nothing moves the conditions, the telltales and the chimes -/

structure Rests (s t : State) : Prop where
  conds : t.conds = s.conds
  telltales : t.telltales = s.telltales
  idle : s.chime.idle → t.chime.idle

namespace Rests

theorem refl (s : State) : Rests s s := ⟨rfl, rfl, id⟩

theorem trans {a b c : State} (h : Rests a b) (h' : Rests b c) : Rests a c :=
  ⟨h'.conds.trans h.conds, h'.telltales.trans h.telltales, h'.idle ∘ h.idle⟩

end Rests

theorem Quiet.rests {s t : State} (h : Quiet False s t) (hst : s.stage = 0) : Rests s t := by
  induction h with
  | refl s => exact Rests.refl s
  | trans h1 _ ih1 ih2 => exact (ih1 hst).trans (ih2 (h1.stage.trans hst))
  | line l s =>
    obtain ⟨o, lamps, h⟩ := driveLine_eq l s
    rw [h]
    exact ⟨rfl, rfl, id⟩
  | flags _ => exact ⟨rfl, rfl, id⟩
  | chime _ h => exact ⟨rfl, rfl, (h.resolve_left id).resolve_left (by omega)⟩
  | telltales h _ => exact absurd (h.resolve_left id) (by omega)
  | conds h _ => exact absurd (h.resolve_left id) (by omega)
  | gauges _ _ => exact ⟨rfl, rfl, id⟩

theorem redrive_rests (s : State) : Rests s (redrive s) :=
  ⟨redrive_conds s, redrive_telltales s, fun h => by rwa [redrive_chime]⟩

theorem publish_rests (k : Fin 256) (v : Nat) {s : State} (h : s.stage = 0) : Rests s (publish k v s) := by
  unfold publish writeInternal
  dsimp only
  split
  · exact Rests.refl s
  · refine Rests.trans ?_ (Quiet.rests ((tellGauges_quiet _ _).trans (tellConditions_quiet _ _)) h)
    exact ⟨rfl, rfl, id⟩

theorem decideBrake_rests (s : State) : Rests s (decideBrake s) := by
  refine Rests.trans ?_ (redrive_rests _)
  exact ⟨rfl, rfl, id⟩

theorem publishDoors_rests {s : State} (h : s.stage = 0) : Rests s (publishDoors s) := by
  have hstage : (publish slotAnyDoorOpen (bit s.anyDoorOpen) s).stage = 0 :=
    (publish_tell (by decide) _ s).stage.trans h
  have hdecide (a : State) (ha : a.stage = 0) : Rests a (decidePermit a) := by
    unfold decidePermit
    refine Rests.trans (Rests.trans ?_ (publish_rests _ _ ?_)) (redrive_rests _)
    · exact ⟨rfl, rfl, id⟩
    · exact ha
  exact (publish_rests slotAnyDoorOpen (bit s.anyDoorOpen) h).trans (hdecide _ hstage)

theorem Busy.rests {s t : State} (h : Busy False False s t) (hst : s.stage = 0) : Rests s t := by
  induction h with
  | refl s => exact Rests.refl s
  | trans h1 _ ih1 ih2 => exact (ih1 hst).trans (ih2 (h1.stage.trans hst))
  | quiet h => exact h.rests hst
  | chime h _ => exact absurd h id
  | doors _ h ih =>
    refine Rests.trans (Rests.trans ?_ (ih hst)) (publishDoors_rests (h.stage.trans hst))
    exact ⟨rfl, rfl, id⟩
  | speed _ ih =>
    refine Rests.trans (Rests.trans ?_ (ih hst)) (decideBrake_rests _)
    exact ⟨rfl, rfl, id⟩
  | _ => exact ⟨rfl, rfl, id⟩

/-! ### The acts of STOP -/

/-- The end of a test reaches the service channel alone beside what is told. -/
theorem endTest_tell (s : State) : ∃ se, Tell { s with service := se } (endTest s) := by
  unfold endTest
  split
  · exact ⟨s.service, Tell.refl s⟩
  · exact ⟨_, ((setSweep_tell _ _ _).trans (setFlag_tell _ _)).trans (redrive_tell _)⟩

theorem tellTest_tell (s : State) : ∃ se, Tell { s with service := se } (tellTest s) := by
  unfold tellTest
  split
  · exact ⟨s.service, Tell.refl s⟩
  · exact endTest_tell s

theorem tellTest_doors (s : State) : (tellTest s).doors = s.doors := by
  obtain ⟨_, h⟩ := tellTest_tell s
  exact h.project (·.doors) rfl

theorem tellTest_bulb (s : State) : (tellTest s).bulb = s.bulb := by
  obtain ⟨_, h⟩ := tellTest_tell s
  exact h.project (·.bulb) rfl

theorem tellTest_stopLatch (s : State) : (tellTest s).stopLatch = s.stopLatch := by
  obtain ⟨_, h⟩ := tellTest_tell s
  exact h.project (·.stopLatch) rfl

theorem endBulb_tell (s : State) : Tell { s with bulb := none } (endBulb s) := by
  unfold endBulb
  split
  · exact (publish_tell (by decide) 0 _).trans (redrive_tell _)
  · next h =>
    have hnone : s.bulb = none := by simpa using h
    have hsame : { s with bulb := none } = s := by rw [← hnone]
    rw [hsame]
    exact Tell.refl s

theorem endBulb_stage (s : State) : (endBulb s).stage = s.stage := (endBulb_tell s).project (·.stage) rfl

theorem endBulb_rests {s : State} (h : s.stage = 0) : Rests s (endBulb s) := by
  unfold endBulb
  split
  · refine Rests.trans ?_ (redrive_rests _)
    refine Rests.trans ?_ (publish_rests _ _ ?_)
    · exact ⟨rfl, rfl, id⟩
    · exact h
  · exact Rests.refl s

theorem emptyChimes_idle (s : State) : (emptyChimes s).chime.idle := by
  rw [emptyChimes, redrive_chime]
  exact ⟨rfl, fun r => by simp [Fin.getElem_fin]⟩

theorem emptyChimes_rests (s : State) : (emptyChimes s).conds = s.conds ∧ (emptyChimes s).telltales = s.telltales := by
  rw [emptyChimes, redrive_conds, redrive_telltales]
  exact ⟨rfl, rfl⟩

theorem quietLines_rests (s : State) : Rests s (quietLines s) := by
  refine Rests.trans ?_ (redrive_rests _)
  exact ⟨rfl, rfl, id⟩

/-- What quiet lines reach beside lines and lamps. -/
theorem quietLines_eq (s : State) : ∃ o l, quietLines s = { s with outputs := o, lamps := l } := by
  obtain ⟨o, l, h⟩ := redrive_eq { s with
    lamps := vmap LampUnit.settle s.lamps
    outputs := vmap (fun u => { u with panelValue := false }) s.outputs }
  exact ⟨o, l, h⟩

/-- Darkening, before the flag. -/
theorem darkenTelltales_telltales (s : State) :
    (darkenTelltales s).telltales = vmap (fun u => { u with state := .dark }) s.telltales := by
  unfold darkenTelltales setFlagIf
  split
  · rfl
  · rfl

theorem darkenTelltales_conds (s : State) : (darkenTelltales s).conds = s.conds := by
  unfold darkenTelltales setFlagIf
  split
  · rfl
  · rfl

/-! ### The doors -/

theorem publishAllDoors_derived (old : Vector DoorUnit 4) (s : State) :
    ∃ ro, Derived { s with runOn := ro } (publishAllDoors old s) := by
  have hpub : Derived s (publishDoors (each 4 (fun d s => publish (slotDoorState d) s.doors[d].state.code s) s)) :=
    (Derived.each (fun d a => (publish_tell (slotDoorState_ge d) _ a).derived) s).trans (publishDoors_derived _)
  unfold publishAllDoors
  dsimp only
  generalize publishDoors (each 4 (fun d s => publish (slotDoorState d) s.doors[d].state.code s) s) = a at hpub
  have hflag (b : Bool) : Derived s (setFlagIf b .door a) := hpub.trans (setFlagIf_tell _ _ _).derived
  split
  · unfold doorDeparted
    split
    · obtain ⟨_, _, _, _, _, _, _, _, _, _, _, _, h⟩ := hflag (anyUnit 4 fun d => a.doors[d].state ≠ old[d].state)
      rw [h]
      exact ⟨_, _, _, _, _, _, _, _, _, _, _, _, _, rfl⟩
    · exact ⟨s.runOn, hflag _⟩
  · exact ⟨s.runOn, hflag _⟩

theorem publishAllDoors_doors (old : Vector DoorUnit 4) (s : State) : (publishAllDoors old s).doors = s.doors := by
  have hpub : (publishDoors (each 4 (fun d s => publish (slotDoorState d) s.doors[d].state.code s) s)).doors = s.doors := by
    rw [publishDoors_doors]
    exact each_rel (fun a b : State => b.doors = a.doors) (fun _ => rfl) (fun h h' => h'.trans h) _
      (fun d a => publish_doors (slotDoorState_ge d) _ a) s
  unfold publishAllDoors
  dsimp only
  generalize publishDoors (each 4 (fun d s => publish (slotDoorState d) s.doors[d].state.code s) s) = a at hpub
  have hflag (b : Bool) : (setFlagIf b .door a).doors = s.doors := by
    rw [(setFlagIf_tell b .door a).project (·.doors) rfl, hpub]
  split
  · rw [doorDeparted_doors, hflag]
  · rw [hflag]

theorem stopDoors_doors (s : State) : (stopDoors s).doors = vmap DoorUnit.disable s.doors := by
  unfold stopDoors
  dsimp only
  rw [publishAllDoors_doors, clearStopLatch_doors]
  exact (clearCodes_told _ _).project (·.doors) rfl

theorem clearStopLatch_stopLatch (s : State) : (clearStopLatch s).stopLatch = false := by
  unfold clearStopLatch
  exact ((publish_tell (by decide) 0 _).trans (withdrawRequest_tell _ _)).project (·.stopLatch) rfl

theorem stopDoors_stopLatch (s : State) : (stopDoors s).stopLatch = false := by
  unfold stopDoors
  dsimp only
  obtain ⟨ro, h⟩ := publishAllDoors_derived s.doors
    (clearStopLatch (clearCodes isDoorFault { s with doors := vmap DoorUnit.disable s.doors }))
  exact (h.project (·.stopLatch) rfl).trans (clearStopLatch_stopLatch _)

theorem stopDoors_bulb (s : State) : (stopDoors s).bulb = s.bulb :=
  (stopDoors_busy (free := True) (place := True) s).stored.project (·.bulb) rfl

/-- While the doors have not taken up RUN, they do not hear of the speed. -/
theorem writeSpeed_doors (v : Int) (st : SlotState) {s : State} (h : s.stage = 0) :
    (writeSpeed v st s).doors = s.doors := by
  have htell := writeInternal_tell (k := slotVehicleSpeed) (by decide) v st s
  have hdeaf : tellDoorsSpeed (writeInternal slotVehicleSpeed v st s) = writeInternal slotVehicleSpeed v st s := by
    refine if_neg ?_
    rw [State.doorsRun, htell.stage, h]
    decide
  unfold writeSpeed
  dsimp only
  split
  · rfl
  · rw [hdeaf]
    exact htell.project (·.doors) rfl

theorem writeStandstill_doors (b : Bool) (s : State) : (writeStandstill b s).doors = s.doors := by
  unfold writeStandstill
  split
  · rfl
  · obtain ⟨_, h⟩ := tellTest_tell (publish slotStandstill (bit b) s)
    exact (h.project (·.doors) rfl).trans ((publish_tell (by decide) _ s).project (·.doors) rfl)

theorem speedAway_doors {s : State} (h : s.stage = 0) : (speedAway s).doors = s.doors := by
  unfold speedAway
  dsimp only
  rw [writeStandstill_doors, (writeSource_tell _ _).project (·.doors) rfl, writeSpeed_doors _ _ h]

theorem speedAway_aside (s : State) : Aside s (speedAway s) := by
  have hspeed : Aside s (writeSpeed s.slots[slotVehicleSpeed].value .stale s) :=
    (writeSpeed_moved _ _ s).aside (writeSpeed_keeps (cs := []) _ _ s).tallies
  have hstand (a : State) : Aside a (writeStandstill false a) :=
    Aside.ite (Aside.refl a) ((publish_aside (by decide) _ a).trans (tellTest_aside _))
  have hrest (a : State) : Aside a { a with speed := { a.speed with mismatch := none, tick := none } } :=
    ⟨rfl, fun _ => rfl⟩
  exact ((hspeed.trans (writeSource_tell 2 _).aside).trans (hstand _)).trans (hrest _)

/-! ### The warnings fall silent, at STOP and at park -/

/-- The conditions, the telltales, the bulb check, the chimes and the lines as STOP and park leave them. -/
def quieted (s : State) : State := quietLines (emptyChimes (endBulb (darkenTelltales (clearConditions s))))

theorem clearConditions_aside (s : State) : Aside s (clearConditions s) := ⟨rfl, fun _ => rfl⟩

theorem quieted_aside (s : State) : Aside s (quieted s) :=
  ((((clearConditions_aside s).trans (darkenTelltales_aside _)).trans (endBulb_aside _)).trans (emptyChimes_aside _)).trans
    (quietLines_aside _)

/-- Darkened, before the bulb check ends. -/
def darkened (s : State) : State := darkenTelltales (clearConditions s)

theorem quieted_eq (s : State) : quieted s = quietLines (emptyChimes (endBulb (darkened s))) := rfl

theorem darkened_tell (s : State) : Tell (clearConditions s) (darkened s) := darkenTelltales_tell _

theorem darkened_stage (s : State) : (darkened s).stage = s.stage := (darkened_tell s).stage

/-- The bulb check ended. -/
def bulbless (s : State) : State := { s with bulb := none }

theorem Derived.bulbless {s a : State} (h : Derived s a) : Derived (bulbless s) (bulbless a) := by
  obtain ⟨_, _, _, _, _, _, _, _, _, _, _, _, rfl⟩ := h
  exact ⟨_, _, _, _, _, _, _, _, _, _, _, _, rfl⟩

theorem quietLines_derived (s : State) : Derived s (quietLines s) := by
  obtain ⟨o, l, h⟩ := quietLines_eq s
  rw [h]
  exact ⟨_, _, _, _, _, _, _, _, _, _, _, _, rfl⟩

theorem endBulb_derived (s : State) : Derived (bulbless s) (endBulb s) := (endBulb_tell s).derived

theorem darkened_derived (s : State) : Derived s (darkened s) := by
  refine Derived.trans ?_ (darkened_tell s).derived
  exact ⟨_, _, _, _, _, _, _, _, _, _, _, _, rfl⟩

theorem quieted_derived (s : State) : Derived (bulbless s) (quieted s) := by
  rw [quieted_eq]
  exact (((darkened_derived s).bulbless.trans (endBulb_derived _)).trans (emptyChimes_tell _).derived).trans
    (quietLines_derived _)

theorem quieted_bulb (s : State) : (quieted s).bulb = none := (quieted_derived s).project (·.bulb) rfl

theorem quieted_stage (s : State) : (quieted s).stage = s.stage := (quieted_derived s).project (·.stage) rfl

theorem quietLines_doors (s : State) : (quietLines s).doors = s.doors := by
  obtain ⟨o, l, h⟩ := quietLines_eq s
  rw [h]

theorem emptyChimes_doors (s : State) : (emptyChimes s).doors = s.doors := (emptyChimes_tell s).doors

theorem endBulb_doors (s : State) : (endBulb s).doors = s.doors := (endBulb_tell s).doors

theorem quieted_doors (s : State) : (quieted s).doors = s.doors := by
  rw [quieted_eq, quietLines_doors, emptyChimes_doors, endBulb_doors]
  exact (darkened_tell s).doors

section
variable {s : State} (h : s.stage = 0)
include h

theorem endBulb_darkened_rests : Rests (darkened s) (endBulb (darkened s)) :=
  endBulb_rests ((darkened_stage s).trans h)

theorem quieted_conds : (quieted s).conds = vmap CondUnit.clear s.conds := by
  rw [quieted_eq, (quietLines_rests _).conds, (emptyChimes_rests _).1, (endBulb_darkened_rests h).conds]
  exact darkenTelltales_conds _

theorem quieted_telltales : (quieted s).telltales = vmap (fun u => { u with state := .dark }) s.telltales := by
  rw [quieted_eq, (quietLines_rests _).telltales, (emptyChimes_rests _).2, (endBulb_darkened_rests h).telltales]
  exact darkenTelltales_telltales _

theorem quieted_off : (quieted s).linesOff := by
  have hstage : (emptyChimes (endBulb (darkened s))).stage = 0 := by
    rw [(emptyChimes_tell _).stage, endBulb_stage, darkened_stage, h]
  rw [quieted_eq]
  exact quietLines_off (by rw [hstage]; decide)

end

theorem quieted_idle (s : State) : (quieted s).chime.idle := (quietLines_rests _).idle (emptyChimes_idle _)

/-! ### STOP in two halves -/

/-- STOP from the speed on. -/
def stopEnd (s : State) : State := tellTest (stopDoors (quieted (stopSpeed s)))

/-- The part in SETUP, with the supervision of the entries ended. -/
def stopped (s : State) : State := noSupervision (setStage 0 { s with mode := .setup })

/-- STOP up to the slots. -/
def stopStores (s : State) : State := stopSlots (clearCodes isFrameFault (stopped s))

theorem stopStores_taken (s : State) : Taken (stopped s) (stopStores s) :=
  (clearCodes_aside isFrameFault (stopped s)).taken.trans (stopSlots_taken _)

theorem stopSpeed_aside (s : State) : Aside s (stopSpeed s) := (speedAway_aside s).trans (clearCodes_aside _ _)

theorem stopEnd_aside (s : State) : Aside s (stopEnd s) :=
  ((stopSpeed_aside s).trans (quieted_aside _)).trans ((stopDoors_aside _).trans (tellTest_aside _))

theorem stopSpeed_doors {s : State} (h : s.stage = 0) : (stopSpeed s).doors = s.doors := by
  rw [stopSpeed, (clearCodes_told _ _).project (·.doors) rfl, speedAway_doors h]

section
variable {s : State} (h : s.stage = 0)
include h

theorem stopSpeed_stage : (stopSpeed s).stage = 0 := (stopSpeed_busy (free := True) (place := True) s).stage.trans h

theorem quietSpeed_stage : (quieted (stopSpeed s)).stage = 0 :=
  (quieted_stage _).trans (stopSpeed_stage h)

theorem stopEnd_rests : Rests (quieted (stopSpeed s)) (stopEnd s) :=
  Busy.rests ((stopDoors_busy _).trans (tellTest_busy _)) (quietSpeed_stage h)

theorem stopEnd_conds (c : Fin 96) : (stopEnd s).conds[c].state = .off ∧ (stopEnd s).conds[c].deadline = none := by
  rw [(stopEnd_rests h).conds, quieted_conds (stopSpeed_stage h), vmap_get]
  exact ⟨rfl, rfl⟩

theorem stopEnd_telltales (k : Fin 64) : (stopEnd s).telltales[k].state = .dark := by
  rw [(stopEnd_rests h).telltales, quieted_telltales (stopSpeed_stage h), vmap_get]

theorem stopEnd_idle : (stopEnd s).chime.idle := (stopEnd_rests h).idle (quieted_idle _)

theorem stopEnd_off : (stopEnd s).linesOff :=
  ((stopDoors_busy (free := True) (place := True) _).trans (tellTest_busy _)).linesOff
    (by rw [quietSpeed_stage h]; decide) (quieted_off (stopSpeed_stage h))

theorem stopEnd_doors : (stopEnd s).doors = vmap DoorUnit.disable s.doors := by
  rw [stopEnd, tellTest_doors, stopDoors_doors, quieted_doors, stopSpeed_doors h]

end

theorem stopEnd_bulb (s : State) : (stopEnd s).bulb = none := by
  rw [stopEnd, tellTest_bulb, stopDoors_bulb, quieted_bulb]

theorem stopEnd_stopLatch (s : State) : (stopEnd s).stopLatch = false := by
  rw [stopEnd, tellTest_stopLatch, stopDoors_stopLatch]

/-! ### The slots at STOP and START -/

/-- Every slot is emptied and stamped. -/
theorem stampedEmpty_round (zero : Bool) (k : Fin 240) (s : State) :
    ∃ n, (each 240 (fun k s => stampSlot k (emptySlot k zero s)) s).record k =
      { value := 0, state := .empty, raw := 0, clamped := false, clampCount := if zero then 0 else n,
        lastChange := s.msNow } := by
  obtain ⟨a, ⟨htaken, -⟩, hrest⟩ := each_at
    (fun a b : State => Taken a b ∧ b.record k = a.record k) (fun a => ⟨Taken.refl a, rfl⟩)
    (fun h h' => ⟨h.1.trans h'.1, h'.2.trans h.2⟩) (fun k s => stampSlot k (emptySlot k zero s)) k
    (fun i a hi => ⟨stampedEmpty_taken i zero a, stampedEmpty_other a (Ne.symm hi) zero⟩) s
  refine ⟨(a.record k).clampCount, ?_⟩
  rw [hrest.2, stampedEmpty_same, htaken.project (·.msNow) fun _ => rfl]

theorem stopStores_record (k : Fin 240) (s : State) :
    ((stopStores s).record k).state = .empty ∧ ((stopStores s).record k).value = 0 := by
  obtain ⟨n, h⟩ := stampedEmpty_round false k (clearCodes isSlotFault (noPanelDeadlines (clearCodes isFrameFault (stopped s))))
  rw [stopStores, stopSlots, h]
  exact ⟨rfl, rfl⟩

/-! ### What STOP leaves -/

/-- STOP from the pulse inputs on. -/
def stopRest (s : State) : State := stopEnd (clearCodes isPulseFault s)

theorem takeStop_rest (s : State) : takeStop s = stopRest (discardPulses (stopStores s)) := rfl

theorem stopRest_aside (s : State) : Aside s (stopRest s) := (clearCodes_aside _ s).trans (stopEnd_aside _)

theorem discardPulses_matchTable (s : State) : (discardPulses s).matchTable = s.matchTable := rfl

theorem discardPulses_record (s : State) (k : Fin 240) : (discardPulses s).record k = s.record k := rfl

theorem takeStop_outer (s : State) : Outer { s with mode := .setup } (takeStop s) := by
  rw [takeStop_rest]
  have hstores : Outer { s with mode := .setup } (stopStores s) :=
    Outer.trans (b := stopped s) rfl (stopStores_taken s).outer
  exact (hstores.trans (discardPulses_outer _)).trans (stopRest_aside _).outer

theorem takeStop_matchTable (s : State) (e : Fin 128) : (takeStop s).matchTable[e].supervision = .none := by
  have h : (takeStop s).matchTable = (stopped s).matchTable := by
    rw [takeStop_rest, (stopRest_aside _).taken.project (·.matchTable) fun _ => rfl, discardPulses_matchTable]
    exact (stopStores_taken s).project (·.matchTable) fun _ => rfl
  rw [h, stopped, noSupervision, vmap_get]

theorem takeStop_record (s : State) (k : Fin 240) :
    ((takeStop s).record k).state = .empty ∧ ((takeStop s).record k).value = 0 := by
  rw [takeStop_rest, (stopRest_aside _).record, discardPulses_record]
  exact stopStores_record k s

theorem takeStop_pulses (s : State) (i : Fin 4) : (takeStop s).pulses[i].meas = none := by
  have h : (takeStop s).pulses = (discardPulses (stopStores s)).pulses := by
    rw [takeStop_rest, (stopRest_aside _).taken.project (·.pulses) fun _ => rfl]
  rw [h, discardPulses, vmap_get]

theorem stopStores_stage (s : State) : (stopStores s).stage = 0 :=
  (stopSlots_busy (free := True) (place := True) _).stage.trans
    ((clearCodes_busy (free := True) (place := True) _ (stopped s)).stage)

theorem discardPulses_stage (s : State) : (discardPulses s).stage = s.stage := rfl

/-- The state in which STOP's last half begins. -/
def stopMiddle (s : State) : State := clearCodes isPulseFault (discardPulses (stopStores s))

theorem takeStop_middle (s : State) : takeStop s = stopEnd (stopMiddle s) := rfl

theorem stopMiddle_stage (s : State) : (stopMiddle s).stage = 0 := by
  rw [stopMiddle, (clearCodes_told _ _).project (·.stage) rfl, discardPulses_stage, stopStores_stage]

theorem tellSpeed_atRest (k : Fin 256) {s : State} (h : s.stage = 0) : tellSpeed k s = s := by
  unfold tellSpeed select
  rw [h]
  exact ite_self s

theorem tellDoorsBrake_atRest (k : Fin 256) {s : State} (h : s.stage = 0) : tellDoorsBrake k s = s := by
  refine if_neg ?_
  rw [State.doorsRun, h]
  decide

/-- While the doors have not taken up RUN, no slot moves them. -/
theorem tellConsumers_doors (k : Fin 256) {s : State} (h : s.stage = 0) : (tellConsumers k s).doors = s.doors := by
  have htell := (tellGauges_tell k s).trans (tellConditions_tell k _)
  have hstage := htell.stage.trans h
  unfold tellConsumers
  dsimp only
  rw [tellSpeed_atRest k hstage, tellDoorsBrake_atRest k hstage]
  split
  · rw [tellTest_doors, htell.doors]
  · exact htell.doors

theorem changeSlot_doors (k : Fin 240) (v : Int) (st : SlotState) {s : State} (h : s.stage = 0) :
    (changeSlot k v st s).doors = s.doors := by
  simp only [changeSlot]
  split
  · rfl
  · exact tellConsumers_doors (s := putRec k _ s) _ h

theorem stampedEmpty_doors (k : Fin 240) (zero : Bool) {s : State} (h : s.stage = 0) :
    (stampSlot k (emptySlot k zero s)).doors = s.doors := by
  rw [stampSlot, putRec_doors, emptySlot, changeSlot_doors (s := putRec k _ s) _ _ _ h, putRec_doors]

theorem stampedEmpty_stage (k : Fin 240) (zero : Bool) (s : State) :
    (stampSlot k (emptySlot k zero s)).stage = s.stage :=
  ((emptySlot_busy (free := True) (place := True) k zero s).trans (stampSlot_busy k _)).stage

/-- The slots at STOP do not move the doors. -/
theorem stopSlots_doors {s : State} (h : s.stage = 0) : (stopSlots s).doors = s.doors := by
  have hround (a : State) (ha : a.stage = 0) :
      (each 240 (fun k s => stampSlot k (emptySlot k false s)) a).doors = a.doors := by
    refine (each_rel (fun a b : State => a.stage = 0 → b.doors = a.doors ∧ b.stage = 0) (fun _ ha => ⟨rfl, ha⟩)
      (fun hab hbc ha => ?_) _ (fun k a ha => ?_) a ha).1
    · obtain ⟨hd, hb⟩ := hab ha
      obtain ⟨hd', hc⟩ := hbc hb
      exact ⟨hd'.trans hd, hc⟩
    · exact ⟨stampedEmpty_doors k false ha, (stampedEmpty_stage k false a).trans ha⟩
  have hclear := clearCodes_told isSlotFault (noPanelDeadlines s)
  rw [stopSlots, hround _ ((hclear.project (·.stage) rfl).trans h)]
  exact hclear.project (·.doors) rfl

theorem stopStores_doors (s : State) : (stopStores s).doors = s.doors := by
  have hclear := clearCodes_told isFrameFault (stopped s)
  rw [stopStores, stopSlots_doors (hclear.project (·.stage) rfl)]
  exact hclear.project (·.doors) rfl

theorem discardPulses_doors (s : State) : (discardPulses s).doors = s.doors := rfl

theorem stopMiddle_doors (s : State) : (stopMiddle s).doors = s.doors := by
  rw [stopMiddle, (clearCodes_told _ _).project (·.doors) rfl, discardPulses_doors, stopStores_doors]

/-- A door after STOP. -/
theorem takeStop_door (s : State) (d : Fin 4) : (takeStop s).doors[d].state = .disabled ∧
    (takeStop s).doors[d].released = false ∧ (takeStop s).doors[d].openCommand = false ∧
    (takeStop s).doors[d].cycles = s.doors[d].cycles := by
  have h : (takeStop s).doors[d] = s.doors[d].disable := by
    rw [takeStop_middle, stopEnd_doors (stopMiddle_stage s), stopMiddle_doors, vmap_get]
  rw [h]
  exact ⟨rfl, rfl, rfl, rfl⟩

theorem takeStop_tables (s : State) : (takeStop s).tables = s.tables :=
  (takeStop_runs (k := Scope.turning) trivial trivial s).tables id

/-- Settles O13. -/
theorem stopLeavesRun : Obligations.StopLeavesRun := by
  intro s dt tag hs
  have hact : s.power = .active := by simpa [State.isActive] using (s.serving_iff.mp hs).2.1
  refine ⟨fun hm => ?_, fun hm => exec_served rfl rfl hs ?_⟩
  · have houter := takeStop_outer (s.noted dt)
    obtain ⟨hsettled, ⟨hpermit, -, -⟩, hbrake⟩ := takeStop_keeps_interlocks (s.noted dt)
    have hmode : (takeStop (s.noted dt)).mode = .setup := houter.project (·.mode) fun _ => rfl
    obtain ⟨hno, hwant⟩ := permit_of_setup hmode
    have hstage := stopMiddle_stage (s.noted dt)
    have hend := (takeStop_middle (s.noted dt)).symm
    have hidle : (takeStop (s.noted dt)).chime.idle := hend ▸ stopEnd_idle hstage
    have hstops : serveStop (s.noted dt) = accept .none (takeStop (s.noted dt)) := if_pos (decide_eq_true hm)
    refine ⟨takeStop (s.noted dt), exec_served rfl rfl hs hstops, hmode, (houter.project (·.power) fun _ => rfl).trans hact,
      takeStop_tables _, houter.project (·.link) fun _ => rfl,
      takeStop_matchTable _, takeStop_record _, takeStop_pulses _, hend ▸ stopEnd_conds hstage,
      hend ▸ stopEnd_telltales hstage,
      takeStop_door (s.noted dt), hidle.1, hidle.2, hend ▸ stopEnd_off hstage,
      hend ▸ stopEnd_bulb _, hend ▸ stopEnd_stopLatch _, hpermit.trans hno, hbrake.trans hwant,
      houter.project (·.label) fun _ => rfl, houter.project (·.ports) fun _ => rfl,
      houter.project (·.inputs) fun _ => rfl, houter.project (·.ignition) fun _ => rfl,
      houter.project (·.cycles) fun _ => rfl, houter.project (·.speed.total) fun _ => rfl,
      houter.project (·.speed.delta) fun _ => rfl, houter.project (·.base) fun _ => rfl,
      houter.project (·.direct) fun _ => rfl⟩
  · have hrun : ¬ (s.noted dt).isRun = true := by
      rw [State.isRun, show (s.noted dt).mode = .setup from hm]
      decide
    exact if_neg hrun

end Sys2Proof.Machine
end

section
/-! PROOFS. START (R193): the slots it empties, and the telltales that light by their conditions. -/

namespace Sys2Proof.Machine

/-! ### The slots -/

theorem writeInputSlot_other {j k : Fin 240} (h : j ≠ k) (s : State) : (writeInputSlot k s).record j = s.record j := by
  simp only [writeInputSlot]
  split
  · exact storeValue_other s h _ _
  · rfl

theorem writeInputSlot_plain {k : Fin 240} {s : State} (h : s.descs[k].kind ≠ .input) : writeInputSlot k s = s := by
  unfold writeInputSlot
  dsimp only
  split
  · next hkind _ => exact absurd hkind h
  · rfl

theorem startPanelDeadline_record (j k : Fin 240) (s : State) : (startPanelDeadline k s).record j = s.record j := by
  rw [State.record, startPanelDeadline_slots]
  rfl

/-- Filling leaves a slot that is no input's. -/
theorem fillSlots_plain {k : Fin 240} {s : State} (h : s.descs[k].kind ≠ .input) :
    (fillSlots s).record k = s.record k := by
  have hinput : (each 240 writeInputSlot s).record k = s.record k := by
    refine each_rel (fun a b : State => a.descs[k].kind ≠ .input → b.record k = a.record k ∧ b.descs = a.descs)
      (fun _ _ => ⟨rfl, rfl⟩) (fun hab hbc ha => ?_) writeInputSlot (fun j a ha => ?_) s h |>.1
    · obtain ⟨hr, hd⟩ := hab ha
      obtain ⟨hr', hd'⟩ := hbc (hd ▸ ha)
      exact ⟨hr'.trans hr, hd'.trans hd⟩
    · refine ⟨?_, (writeInputSlot_taken j a).project (·.descs) fun _ => rfl⟩
      by_cases hj : k = j
      · subst hj
        rw [writeInputSlot_plain ha]
      · exact writeInputSlot_other hj a
  have hdeadline (a : State) : (each 240 startPanelDeadline a).record k = a.record k :=
    each_rel (fun a b : State => b.record k = a.record k) (fun _ => rfl) (fun h h' => h'.trans h) _
      (fun j a => startPanelDeadline_record k j a) a
  exact (hdeadline _).trans hinput

/-- A slot at START that is no input's. -/
theorem startSlots_record {k : Fin 240} {s : State} (h : s.descs[k].kind ≠ .input) : (startSlots s).record k =
    { value := 0, state := .empty, raw := 0, clamped := false, clampCount := 0, lastChange := s.msNow } := by
  obtain ⟨n, hempty⟩ := stampedEmpty_round true k (noPanelDeadlines s)
  have htaken : Taken s (each 240 (fun k s => stampSlot k (emptySlot k true s)) (noPanelDeadlines s)) :=
    Taken.each (fun k a => stampedEmpty_taken k true a) (noPanelDeadlines s)
  have hclear (a : State) := clearCodes_aside isSlotFault a
  have hrest (a : State) (ha : a.descs[k].kind ≠ .input) : (fillSlots (clearCodes isSlotFault a)).record k = a.record k :=
    (fillSlots_plain (by rw [(hclear a).taken.project (·.descs) fun _ => rfl]; exact ha)).trans ((hclear a).record k)
  exact (hrest _ (by rw [htaken.project (·.descs) fun _ => rfl]; exact h)).trans hempty

/-! ### The telltales do not hear before stage 5 -/

theorem Quiet.unheard {s t : State} (h : Quiet False s t) (hst : s.stage < 5) : t.telltales = s.telltales := by
  induction h with
  | refl s => rfl
  | trans h1 _ ih1 ih2 => exact (ih2 (h1.stage.trans_lt hst)).trans (ih1 hst)
  | line l s =>
    obtain ⟨o, lamps, h⟩ := driveLine_eq l s
    rw [h]
  | telltales h _ => exact absurd (h.resolve_left id) (by omega)
  | _ => rfl

theorem publish_unheard (k : Fin 256) (v : Nat) {s : State} (h : s.stage < 5) :
    (publish k v s).telltales = s.telltales := by
  unfold publish writeInternal
  dsimp only
  split
  · rfl
  · exact Eq.trans (Quiet.unheard ((tellGauges_quiet _ _).trans (tellConditions_quiet _ _)) h) rfl

theorem publishDoors_unheard {s : State} (h : s.stage < 5) : (publishDoors s).telltales = s.telltales := by
  have hdecide (a : State) (ha : a.stage < 5) : (decidePermit a).telltales = a.telltales := by
    rw [decidePermit, redrive_telltales]
    exact Eq.trans (publish_unheard _ _ ha) rfl
  rw [publishDoors, hdecide _ ((publish_tell (by decide) _ s).stage.trans_lt h), publish_unheard _ _ h]

theorem Busy.unheard {place : Prop} {s t : State} (h : Busy False place s t) (hst : s.stage < 5) :
    t.telltales = s.telltales := by
  induction h with
  | trans h1 _ ih1 ih2 => exact (ih2 (h1.stage.trans_lt hst)).trans (ih1 hst)
  | quiet h => exact h.unheard hst
  | doors _ h ih => exact (publishDoors_unheard (h.stage.trans_lt hst)).trans (ih hst)
  | speed _ ih =>
    rw [decideBrake, redrive_telltales]
    exact ih hst
  | _ => rfl

theorem takeUpSpeed_unheard (s : State) : (takeUpSpeed s).telltales = s.telltales :=
  Busy.unheard (place := True) (s := setStage 2 s) ((putMismatch_busy _ _).trans ((select_busy _).trans (startTick_busy _)))
    (show 2 < 5 by decide)

theorem takeUpConditions_unheard (s : State) : (takeUpConditions s).telltales = s.telltales :=
  Quiet.unheard (s := clearConditions (setStage 3 s)) (evaluateAll_quiet _) (show 3 < 5 by decide)

theorem takeUpDoors_unheard (s : State) : (takeUpDoors s).telltales = s.telltales :=
  (setUpDoors_busy (setStage 4 s)).unheard (show 4 < 5 by decide)

theorem startSlots_unheard {s : State} (h : s.stage < 5) : (startSlots s).telltales = s.telltales :=
  (startSlots_busy (place := True) s).unheard h

/-! ### The telltales light (R105) -/

/-- The condition that a telltale names is true. -/
def State.conditionHolds (s : State) (k : Fin 64) : Bool :=
  (unit? 96 s.telltales[k].entry.condition).any fun c => s.conds[c].isTrue

theorem conditionHolds_of {s : State} {k : Fin 64} {c : Fin 96} (h : s.telltales[k].entry.condition = c.val) :
    s.conditionHolds k = s.conds[c].isTrue := by
  rw [State.conditionHolds, h, unit?_val]
  rfl

/-- The visit of a telltale in the round in which they light. -/
def lightVisit (k : Fin 64) (s : State) : State :=
  if s.telltales[k].entry.enabled && s.conditionHolds k then setTelltale k (s.telltales[k].onCondition true) s else s

theorem lightTelltales_eq (s : State) : lightTelltales s = each 64 lightVisit s := by
  unfold lightTelltales
  refine congrArg (fun f => each 64 f s) (funext fun k => funext fun a => ?_)
  unfold lightVisit State.conditionHolds
  cases h : unit? 96 a.telltales[k].entry.condition with
  | none => simp only [h, Option.any_none]
  | some c => simp only [h, Option.any_some]

theorem lightVisit_shows (k : Fin 64) (s : State) : Shows s (lightVisit k s) := by
  unfold lightVisit
  split
  · exact setTelltale_shows _ _ s
  · exact Shows.refl s

theorem lightVisit_other {j k : Fin 64} (h : k ≠ j) (s : State) : (lightVisit j s).telltales[k] = s.telltales[k] := by
  unfold lightVisit
  split
  · exact (congrArg (fun v : Vector TelltaleUnit 64 => v[k]) (setTelltale_telltales j _ s)).trans (vput_other _ _ h)
  · rfl

theorem lightVisit_dark {k : Fin 64} {s : State} (h : s.telltales[k].state = .dark) : (lightVisit k s).telltales[k].state =
    if s.telltales[k].entry.enabled && s.conditionHolds k then .litNew else .dark := by
  unfold lightVisit
  split
  · refine (congrArg (fun v : Vector TelltaleUnit 64 => v[k].state) (setTelltale_telltales k _ s)).trans ?_
    dsimp only
    rw [vput_same, onCondition_true, h]
    rfl
  · exact h

/-- A DARK telltale lights where its condition is true. -/
theorem lightTelltales_dark {k : Fin 64} {c : Fin 96} {s : State} (hc : s.telltales[k].entry.condition = c.val)
    (h : s.telltales[k].state = .dark) : (lightTelltales s).telltales[k].state =
      if s.telltales[k].entry.enabled && (lightTelltales s).conds[c].isTrue then .litNew else .dark := by
  have hshows : Shows s (lightTelltales s) := by
    rw [lightTelltales_eq]
    exact each_rel Shows Shows.refl Shows.trans lightVisit lightVisit_shows s
  obtain ⟨a, ⟨hcond, hsame⟩, -, hrest⟩ := each_at
    (fun a b : State => b.conds = a.conds ∧ b.telltales[k] = a.telltales[k]) (fun _ => ⟨rfl, rfl⟩)
    (fun hab hbd => ⟨hbd.1.trans hab.1, hbd.2.trans hab.2⟩) lightVisit k
    (fun i a hi => ⟨(lightVisit_shows i a).project (·.conds) rfl, lightVisit_other (Ne.symm hi) a⟩) s
  have hvisit := lightVisit_dark (k := k) (s := a) (by rw [hsame]; exact h)
  have hholds : a.conditionHolds k = s.conds[c].isTrue := by
    rw [conditionHolds_of (c := c) (by rw [hsame]; exact hc), hcond]
  rw [hholds, hsame] at hvisit
  rw [hshows.project (fun t => t.conds[c]) rfl, lightTelltales_eq, hrest]
  exact hvisit

/-! ### START in parts -/

/-- The part in RUN, with the entries supervised. -/
def begun (label : BitVec 32) (s : State) : State := startSupervision (setStage 1 { s with mode := .run, label := label })

/-- START from the speed to the doors. -/
def startFront (s : State) : State := takeUpDoors (startConds (takeUpSpeed s))

/-- The telltales and the lines take up RUN. -/
def takeUpWarnings (s : State) : State := takeUpLines (takeUpTelltales s)

theorem takeStart_parts (label : BitVec 32) (s : State) :
    takeStart label s = startBulb (takeUpWarnings (startFront (startPulses (startSlots (begun label s))))) :=
  takeStart_eq label s

theorem startConds_aside (s : State) : Aside s (startConds s) :=
  Aside.trans (b := { s with gauges := vmap s.startGauge s.gauges }) ⟨rfl, fun _ => rfl⟩ (takeUpConditions_aside _)

theorem startFront_aside (s : State) : Aside s (startFront s) :=
  ((takeUpSpeed_aside s).trans (startConds_aside _)).trans (takeUpDoors_aside _)

theorem takeUpWarnings_aside (s : State) : Aside s (takeUpWarnings s) :=
  (takeUpTelltales_aside s).trans (takeUpLines_aside _)

theorem startBulb_aside (s : State) : Aside s (startBulb s) := Aside.ite (beginBulb_aside s) (Aside.refl s)

theorem startConds_unheard (s : State) : (startConds s).telltales = s.telltales := takeUpConditions_unheard _

theorem startFront_unheard (s : State) : (startFront s).telltales = s.telltales := by
  rw [startFront, takeUpDoors_unheard, startConds_unheard, takeUpSpeed_unheard]

/-- START from the pulse inputs on. -/
def startRest (s : State) : State := startBulb (takeUpWarnings (startFront s))

theorem takeStart_rest (label : BitVec 32) (s : State) :
    takeStart label s = startRest (startPulses (startSlots (begun label s))) := takeStart_parts label s

theorem startRest_aside (s : State) : Aside s (startRest s) :=
  ((startFront_aside s).trans (takeUpWarnings_aside _)).trans (startBulb_aside _)

theorem takeStart_outer (label : BitVec 32) (s : State) :
    Outer { s with mode := .run, label := label } (takeStart label s) := by
  have hstores : Outer { s with mode := .run, label := label } (startSlots (begun label s)) :=
    Outer.trans (b := begun label s) rfl (startSlots_taken _).outer
  rw [takeStart_rest]
  exact (hstores.trans (startPulses_outer _)).trans (startRest_aside _).outer

theorem startPulses_matchTable (s : State) : (startPulses s).matchTable = s.matchTable := rfl

theorem startPulses_record (s : State) (k : Fin 240) : (startPulses s).record k = s.record k := rfl

theorem startPulses_telltales (s : State) : (startPulses s).telltales = s.telltales := rfl

theorem takeStart_matchTable (label : BitVec 32) (s : State) :
    (takeStart label s).matchTable = (begun label s).matchTable := by
  rw [takeStart_rest, (startRest_aside _).taken.project (·.matchTable) fun _ => rfl, startPulses_matchTable]
  exact (startSlots_taken _).project (·.matchTable) fun _ => rfl

theorem takeStart_record (label : BitVec 32) {k : Fin 240} {s : State} (h : s.descs[k].kind ≠ .input) :
    (takeStart label s).record k =
      { value := 0, state := .empty, raw := 0, clamped := false, clampCount := 0, lastChange := s.msNow } := by
  rw [takeStart_rest, (startRest_aside _).record, startPulses_record]
  exact startSlots_record (s := begun label s) h

/-- With the ignition off, a DARK telltale lights by its condition as the doors have left it. -/
theorem takeStart_telltale (label : BitVec 32) {k : Fin 64} {c : Fin 96} {s : State}
    (hc : s.telltales[k].entry.condition = c.val) (h : s.telltales[k].state = .dark)
    (hign : s.ignition.accepted = false) : (takeStart label s).telltales[k].state =
      if s.telltales[k].entry.enabled && (takeStart label s).conds[c].isTrue then .litNew else .dark := by
  obtain ⟨a, ha⟩ : ∃ a, a = startFront (startPulses (startSlots (begun label s))) := ⟨_, rfl⟩
  have htelltales : a.telltales = s.telltales := by
    rw [ha, startFront_unheard, startPulses_telltales, startSlots_unheard (s := begun label s) (show 1 < 5 by decide)]
    rfl
  have houter : Outer { s with mode := .run, label := label } (takeUpWarnings a) := by
    rw [ha]
    have hstores : Outer { s with mode := .run, label := label } (startSlots (begun label s)) :=
      Outer.trans (b := begun label s) rfl (startSlots_taken _).outer
    exact ((hstores.trans (startPulses_outer _)).trans (startFront_aside _).outer).trans (takeUpWarnings_aside _).outer
  have hoff : (takeUpWarnings a).ignition.accepted = false := (houter.project (·.ignition.accepted) fun _ => rfl).trans hign
  have hstart : takeStart label s = redrive (setStage 6 (lightTelltales (setStage 5 a))) := by
    rw [takeStart_parts, ← ha]
    exact if_neg (by rw [hoff]; decide)
  have hlit := lightTelltales_dark (k := k) (c := c) (s := setStage 5 a)
    (show a.telltales[k].entry.condition = c.val by rw [htelltales]; exact hc)
    (show a.telltales[k].state = .dark by rw [htelltales]; exact h)
  simp only [setStage_telltales, htelltales] at hlit
  simp only [hstart, redrive_telltales, redrive_conds, setStage_telltales, setStage_conds]
  exact hlit

theorem beginBulb_bulb (s : State) : (beginBulb s).bulb = some (s.after s.system.bulbTime) :=
  ((publish_tell (by decide) 1 _).trans (redrive_tell _)).project (·.bulb) rfl

theorem takeStart_bulb (label : BitVec 32) {s : State} (hign : s.ignition.accepted = true) :
    (takeStart label s).bulb = some (s.after s.system.bulbTime) := by
  obtain ⟨a, ha⟩ : ∃ a, a = takeUpWarnings (startFront (startPulses (startSlots (begun label s)))) := ⟨_, rfl⟩
  have houter : Outer { s with mode := .run, label := label } a := by
    rw [ha]
    have hstores : Outer { s with mode := .run, label := label } (startSlots (begun label s)) :=
      Outer.trans (b := begun label s) rfl (startSlots_taken _).outer
    exact ((hstores.trans (startPulses_outer _)).trans (startFront_aside _).outer).trans (takeUpWarnings_aside _).outer
  have hon : a.ignition.accepted = true := (houter.project (·.ignition.accepted) fun _ => rfl).trans hign
  have hstart : takeStart label s = beginBulb a := by
    rw [takeStart_parts, ← ha]
    exact if_pos hon
  rw [hstart, beginBulb_bulb]
  exact congrArg some (houter.project (fun t => t.after t.system.bulbTime) fun _ => rfl)

theorem takeStart_supervision (label : BitVec 32) (s : State) (e : Fin 128) :
    (takeStart label s).matchTable[e].supervision =
      if s.matchTable[e].entry.enabled && s.matchTable[e].entry.timeout != 0 then
        .awaiting (s.after s.matchTable[e].entry.timeout)
      else .none := by
  rw [takeStart_matchTable, begun, startSupervision, vmap_get]
  simp only [setStage_matchTable, ne_eq, Bool.and_eq_true, bne_iff_ne]
  rfl

theorem takeStart_tables (label : BitVec 32) (s : State) : (takeStart label s).tables = s.tables :=
  (takeStart_runs (k := Scope.turning) trivial trivial label s).tables id

/-- Settles O12. -/
theorem startTakesUpRun : Obligations.StartTakesUpRun := by
  intro s dt tag label hs
  have hact : s.power = .active := by simpa [State.isActive] using (s.serving_iff.mp hs).2.1
  have hsetup (hm : s.mode = .setup) : ¬ (s.noted dt).isRun = true := by
    rw [State.isRun, show (s.noted dt).mode = .setup from hm]
    decide
  refine ⟨fun hm hcheck => ?_, fun table index hm hcheck => exec_served rfl rfl hs ?_,
    fun hm => exec_served rfl rfl hs (if_pos (decide_eq_true hm))⟩
  · have hstarts : serveStart label (s.noted dt) = accept .none (takeStart label (s.noted dt)) := by
      rw [serveStart, if_neg (hsetup hm), show (s.noted dt).startCheck = none from hcheck]
    have houter := takeStart_outer label (s.noted dt)
    obtain ⟨hsettled, ⟨hpermit, -, -⟩, -⟩ :=
      takeStart_keeps_interlocks label (s := s.noted dt) (decide_eq_true hact)
    exact ⟨takeStart label (s.noted dt), exec_served rfl rfl hs hstarts, houter.project (·.mode) fun _ => rfl,
      (houter.project (·.power) fun _ => rfl).trans hact, houter.project (·.label) fun _ => rfl,
      takeStart_tables label _, hsettled, hpermit, houter.project (·.link) fun _ => rfl,
      houter.project (·.ports) fun _ => rfl, houter.project (·.inputs) fun _ => rfl,
      houter.project (·.ignition) fun _ => rfl, houter.project (·.cycles) fun _ => rfl,
      houter.project (·.speed.total) fun _ => rfl, houter.project (·.speed.delta) fun _ => rfl,
      houter.project (·.base) fun _ => rfl, houter.project (·.direct) fun _ => rfl,
      takeStart_supervision label (s.noted dt), fun k hk => takeStart_record label (s := s.noted dt) hk,
      takeStart_bulb label (s := s.noted dt),
      fun hoff k c hc hdark => takeStart_telltale label (s := s.noted dt) hc hdark hoff⟩
  · show serveStart label (s.noted dt) = _
    rw [serveStart, if_neg (hsetup hm), show (s.noted dt).startCheck = some (table, index) from hcheck]

end Sys2Proof.Machine
end

section
/-! PROOFS. Park (R203, Table 11.1): what each block holds in PARKED. -/

namespace Sys2Proof.Machine

/-! ### The ports at park -/

/-- Ports, flags and the attention line alone were changed. -/
def PortsOnly (s t : State) : Prop := ∃ v f a, t = { s with ports := v, flags := f, attn := a }

namespace PortsOnly

theorem refl (s : State) : PortsOnly s s := ⟨_, _, _, rfl⟩

theorem trans {a b c : State} (h : PortsOnly a b) (h' : PortsOnly b c) : PortsOnly a c := by
  obtain ⟨_, _, _, rfl⟩ := h
  obtain ⟨_, _, _, rfl⟩ := h'
  exact ⟨_, _, _, rfl⟩

theorem project {α : Type} {s t : State} (h : PortsOnly s t) (f : State → α)
    (hf : (fun v fl a => f { s with ports := v, flags := fl, attn := a }) = fun _ _ _ => f s) : f t = f s := by
  obtain ⟨v, fl, a, rfl⟩ := h
  exact congrFun (congrFun (congrFun hf v) fl) a

end PortsOnly

theorem tellLost_idle {s : State} (h : s.service.response = none) (o : Origin) : tellLost o s = s := by
  cases o with
  | service n =>
    refine if_neg ?_
    rw [State.awaits, h]
    exact Bool.false_ne_true
  | forward => rfl
  | panel => rfl

/-- With no response in flight a flush tells nobody. -/
theorem flush_idle {s : State} (h : s.service.response = none) (p : Fin 3) :
    flush p s = { s with ports := vput s.ports p s.ports[p].flushed } := by
  have hfold (os : List Origin) (a : State) (ha : a.service.response = none) :
      os.foldl (fun s o => tellLost o s) a = a := by
    induction os with
    | nil => rfl
    | cons o os ih => rw [List.foldl_cons, tellLost_idle ha, ih]
  exact hfold _ (putPort p s.ports[p].flushed s) h

/-- A port at park: its queue is empty, and no other port is touched. -/
theorem parkPort_effect {s : State} (h : s.service.response = none) (p : Fin 3) :
    PortsOnly s (parkPort p s) ∧ (parkPort p s).ports[p].queue = [] ∧
      ∀ j : Fin 3, j ≠ p → (parkPort p s).ports[j] = s.ports[j] := by
  obtain ⟨a, ha⟩ : ∃ a, a = clearRecovery p (flush p s) := ⟨_, rfl⟩
  have hports : a.ports = vput s.ports p { s.ports[p].flushed with recovering := false, quiet := none } := by
    rw [ha, flush_idle h]
    simp only [clearRecovery, putPort, vput_same, vput_vput]
  have hbase : PortsOnly s a := by
    rw [ha, flush_idle h]
    exact ⟨_, s.flags, s.attn, rfl⟩
  have hqueue : a.ports[p].queue = [] := by
    rw [hports, vput_same]
    rfl
  have hother (j : Fin 3) (hj : j ≠ p) : a.ports[j] = s.ports[j] := by
    rw [hports]
    exact vput_other _ _ hj
  have hstate : PortsOnly a (setPortState p .online a) ∧
      (setPortState p .online a).ports = vput a.ports p { a.ports[p] with state := .online } := by
    unfold setPortState setFlagIf
    dsimp only
    split
    · exact ⟨⟨_, _, _, rfl⟩, rfl⟩
    · exact ⟨⟨_, _, _, rfl⟩, rfl⟩
  have hpark : parkPort p s = if a.ports[p].entry.enabled then setPortState p .online a else a := by rw [ha]; rfl
  rw [hpark]
  by_cases hen : a.ports[p].entry.enabled = true
  · rw [if_pos hen]
    refine ⟨hbase.trans hstate.1, ?_, fun j hj => ?_⟩
    · rw [hstate.2, vput_same]
      exact hqueue
    · rw [hstate.2, vput_other _ _ hj]
      exact hother j hj
  · rw [if_neg hen]
    exact ⟨hbase, hqueue, hother⟩

/-- The ports at park. -/
def parkPorts (s : State) : State := each 3 parkPort s

theorem parkPorts_effect {s : State} (h : s.service.response = none) : PortsOnly s (parkPorts s) ∧
    ∀ p : Fin 3, (parkPorts s).ports[p].queue = [] := by
  have hbase : PortsOnly s (parkPorts s) :=
    each_rel (fun a b : State => a.service.response = none → PortsOnly a b) (fun a _ => PortsOnly.refl a)
      (fun hab hbc ha => (hab ha).trans (hbc (((hab ha).project (·.service.response) rfl).trans ha))) parkPort
      (fun p a ha => (parkPort_effect ha p).1) s h
  refine ⟨hbase, fun p => ?_⟩
  obtain ⟨a, ha, hrest⟩ := each_at
    (fun a b : State => a.service.response = none → PortsOnly a b ∧ b.ports[p] = a.ports[p])
    (fun a _ => ⟨PortsOnly.refl a, rfl⟩)
    (fun hab hbc ha => by
      obtain ⟨hp, hq⟩ := hab ha
      obtain ⟨hp', hq'⟩ := hbc ((hp.project (·.service.response) rfl).trans ha)
      exact ⟨hp.trans hp', hq'.trans hq⟩) parkPort p
    (fun i a hi ha => ⟨(parkPort_effect ha i).1, (parkPort_effect ha i).2.2 p (Ne.symm hi)⟩) s
  have hidle : a.service.response = none := ((ha h).1.project (·.service.response) rfl).trans h
  obtain ⟨honly, hqueue, -⟩ := parkPort_effect hidle p
  rw [parkPorts, (hrest ((honly.project (·.service.response) rfl).trans hidle)).2, hqueue]

/-! ### The speed at park (R60) -/

/-- With no test running a test is told nothing. -/
theorem writeStandstill_tell {s : State} (h : s.service.test = none) (b : Bool) : Tell s (writeStandstill b s) := by
  unfold writeStandstill
  split
  · exact Tell.refl s
  · have htell := publish_tell (k := slotStandstill) (by decide) (bit b) s
    rw [tellTest_idle ((htell.project (·.service.test) rfl).trans h)]
    exact htell

theorem writeStandstill_other {k : Fin 256} (hk : k ≠ slotStandstill) (b : Bool) {s : State} (h : s.service.test = none) :
    (writeStandstill b s).slots[k] = s.slots[k] := by
  unfold writeStandstill
  split
  · rfl
  · have htell := publish_tell (k := slotStandstill) (by decide) (bit b) s
    rw [tellTest_idle ((htell.project (·.service.test) rfl).trans h), publish_other hk]

theorem writeSpeed_state (v : Int) (st : SlotState) {s : State} (h : s.stage = 0) :
    (writeSpeed v st s).slots[slotVehicleSpeed].state = st := by
  have hdeaf : tellDoorsSpeed (writeInternal slotVehicleSpeed v st s) = writeInternal slotVehicleSpeed v st s := by
    refine if_neg ?_
    rw [State.doorsRun, (writeInternal_tell (by decide) v st s).stage, h]
    decide
  unfold writeSpeed
  dsimp only
  split
  · next hsame => exact hsame.2
  · rw [hdeaf, writeInternal_state]

/-- What the speed unit leaves as the part leaves RUN or ACTIVE. -/
theorem speedAway_effect {s : State} (h : s.stage = 0) (htest : s.service.test = none) :
    (speedAway s).slots[slotVehicleSpeed].state = .stale ∧ (speedAway s).slots[slotStandstill].value = 0 ∧
      ∃ sp, Derived { s with speed := sp } (speedAway s) := by
  obtain ⟨a, ha⟩ : ∃ a, a = writeSource 2 (writeSpeed s.slots[slotVehicleSpeed].value .stale s) := ⟨_, rfl⟩
  have hderived : Derived s a := ha ▸ (writeSpeed_derived _ _ s).trans (writeSource_tell 2 _).derived
  have htest' : a.service.test = none := (hderived.project (·.service.test) rfl).trans htest
  have hspeed : a.slots[slotVehicleSpeed].state = .stale := by
    have hsource := (writeSource_keeps (cs := []) 2 (writeSpeed s.slots[slotVehicleSpeed].value .stale s)).slots
      slotVehicleSpeed (by decide)
    rw [ha, hsource, writeSpeed_state _ _ h]
  have haway : speedAway s = { writeStandstill false a with
      speed := { (writeStandstill false a).speed with mismatch := none, tick := none } } := by rw [ha]; rfl
  have hstand := hderived.trans (writeStandstill_tell htest' false).derived
  rw [haway]
  refine ⟨?_, writeStandstill_value false a, ?_⟩
  · show (writeStandstill false a).slots[slotVehicleSpeed].state = .stale
    rw [writeStandstill_other (by decide) false htest', hspeed]
  · obtain ⟨_, _, _, _, _, _, _, _, _, _, _, _, heq⟩ := hstand
    rw [heq]
    exact ⟨_, _, _, _, _, _, _, _, _, _, _, _, _, rfl⟩

/-! ### The blocks at park, one after the other -/

/-- The part is PARKED, and nothing else has happened. -/
def parkBegun (s : State) : State :=
  setStage 0 { s with
    power := .parked
    runOn := none }

/-- What the receivers measure and await ends. -/
def parkReceivers (s : State) : State := discardPulses (noPanelDeadlines (noSupervision s))

/-- The gauges in PARKED. -/
def parkGauges (s : State) : State := { s with gauges := vmap GaugeUnit.parked s.gauges }

/-- Park from the doors on. -/
def parkEnd (s : State) : State := decideAttn (parkLink (abandon (emptyLive (parkDoors s))))

/-- The doors let go of. -/
def letGo (s : State) : State :=
  { s with
    doors := vmap (fun u => { u with released := false, openCommand := false, reversals := 0, deadline := none }) s.doors
    drivePermit := false
    stopBrake := false }

theorem parkDoors_eq (s : State) : parkDoors s =
    clearStopLatch (publish slotDrivePermit 0 (publish slotAnyDoorOpen (bit (letGo s).anyDoorOpen) (letGo s))) := rfl

theorem clearStopLatch_tell (s : State) : Tell { s with stopLatch := false } (clearStopLatch s) :=
  (publish_tell (by decide) 0 _).trans (withdrawRequest_tell _ _)

/-- What the publications of the doors at park reach, whatever they publish. -/
theorem publishedTwice_tell (v w : Nat) (s : State) :
    Tell s (publish slotDrivePermit v (publish slotAnyDoorOpen w s)) :=
  (publish_tell (by decide) w s).trans (publish_tell (by decide) v _)

theorem letGo_derived (s : State) : Derived s (letGo s) := ⟨_, _, _, _, _, _, _, _, _, _, _, _, rfl⟩

theorem letGo_aside (s : State) : Aside s (letGo s) := ⟨rfl, fun _ => rfl⟩

/-- The stop latch cleared. -/
def unlatched (s : State) : State := { s with stopLatch := false }

theorem Derived.unlatched {s a : State} (h : Derived s a) : Derived (unlatched s) (unlatched a) := by
  obtain ⟨_, _, _, _, _, _, _, _, _, _, _, _, rfl⟩ := h
  exact ⟨_, _, _, _, _, _, _, _, _, _, _, _, rfl⟩

theorem parkDoors_derived (s : State) : Derived (unlatched s) (parkDoors s) := by
  rw [parkDoors_eq]
  exact ((letGo_derived s).trans (publishedTwice_tell _ _ _).derived).unlatched.trans (clearStopLatch_tell _).derived

theorem parkDoors_aside (s : State) : Aside s (parkDoors s) := by
  rw [parkDoors_eq]
  exact ((letGo_aside s).trans (publishedTwice_tell _ _ _).aside).trans (clearStopLatch_aside _)

theorem parkDoors_doors (s : State) : (parkDoors s).doors = (letGo s).doors := by
  rw [parkDoors_eq, clearStopLatch_doors, (publishedTwice_tell _ _ _).doors]

theorem parkDoors_rests {s : State} (h : s.stage = 0) : Rests s (parkDoors s) := by
  have hgo : Rests s (letGo s) := ⟨rfl, rfl, id⟩
  have hstage : (letGo s).stage = 0 := h
  rw [parkDoors_eq]
  have hopen := publish_rests slotAnyDoorOpen (bit (letGo s).anyDoorOpen) hstage
  have hfirst := (publish_tell (k := slotAnyDoorOpen) (by decide) (bit (letGo s).anyDoorOpen) (letGo s)).stage.trans hstage
  refine ((hgo.trans hopen).trans (publish_rests slotDrivePermit 0 hfirst)).trans
    ((clearStopLatch_busy _).rests ?_)
  exact (publish_tell (by decide) _ _).stage.trans hfirst

theorem emptyLive_tell (s : State) : Tell
    { s with faults := { s.faults with live := [], memory := inactiveMemory s.faults.memory } } (emptyLive s) :=
  publish_tell (by decide) 0 _

theorem emptyLive_rests {s : State} (h : s.stage = 0) : Rests s (emptyLive s) := by
  refine Rests.trans ?_ (publish_rests _ _ ?_)
  · exact ⟨rfl, rfl, id⟩
  · exact h

/-- The loss of the link is over. -/
def found (s : State) : State :=
  { s with
    link := { s.link with lost := false }
    direct := false }

theorem clearLost_tell (s : State) : Tell (found s) (clearLost s) :=
  (publish_tell (by decide) 0 _).trans (redrive_tell _)

theorem clearLost_rests {s : State} (h : s.stage = 0) : Rests s (clearLost s) := by
  refine Rests.trans (Rests.trans ?_ (publish_rests _ _ ?_)) (redrive_rests _)
  · exact ⟨rfl, rfl, id⟩
  · exact h

/-- The link at park: nothing queued, no timer. -/
def PanelLink.parked (l : PanelLink) : PanelLink :=
  { l with
    ingress := []
    egress := []
    timer := none
    reportTimer := none }

theorem parkLink_eq (s : State) : parkLink s =
    { (if s.link.lost then clearLost s else s) with
      link := (if s.link.lost then clearLost s else s).link.parked } := rfl

theorem parkLink_rests {s : State} (h : s.stage = 0) : Rests s (parkLink s) := by
  have hlost : Rests s (if s.link.lost then clearLost s else s) := by
    split
    · exact clearLost_rests h
    · exact Rests.refl s
  exact ⟨hlost.conds, hlost.telltales, hlost.idle⟩

/-- What the link at park reaches beside what is told. -/
theorem parkLink_tell (s : State) : ∃ link direct, Tell
    { s with
      link := link
      direct := direct } (parkLink s) ∧ link.egress = [] ∧ link.ingress = [] ∧ link.timer = none ∧
      link.reportTimer = none ∧ (s.direct = true → s.link.lost = true → direct = false) := by
  have hparked (a b : State) (h : Tell a b) : Tell { a with link := a.link.parked } { b with link := b.link.parked } := by
    obtain ⟨_, _, _, _, _, _, _, _, _, rfl, htables, hrecord⟩ := h
    exact ⟨_, _, _, _, _, _, _, _, _, rfl, htables, hrecord⟩
  rw [parkLink_eq]
  by_cases hlost : s.link.lost = true
  · rw [if_pos hlost]
    exact ⟨(found s).link.parked, (found s).direct, hparked (found s) _ (clearLost_tell s), rfl, rfl, rfl, rfl,
      fun _ _ => rfl⟩
  · rw [if_neg hlost]
    exact ⟨_, _, hparked _ _ (Tell.refl s), rfl, rfl, rfl, rfl, fun _ h => absurd h hlost⟩

/-- Park keeps what the blocks, the ports, the classifier, the pulse inputs and the link do not hold. -/
def State.beyond (s : State) : State :=
  { s.outer with
    ports := State.reset.ports
    link := State.reset.link
    direct := State.reset.direct }

theorem Outer.beyond {s t : State} (h : Outer s t) : t.beyond = s.beyond := by
  rw [State.beyond, State.beyond, show t.outer = s.outer from h]

theorem PortsOnly.beyond {s t : State} (h : PortsOnly s t) : t.beyond = s.beyond := h.project State.beyond rfl

theorem emptyLive_aside (s : State) : Aside s (emptyLive s) :=
  Aside.trans (b := { s with faults := { s.faults with live := [], memory := inactiveMemory s.faults.memory } })
    ⟨rfl, fun _ => rfl⟩ (emptyLive_tell s).aside

theorem parkReceivers_beyond (s : State) : (parkReceivers s).beyond = s.beyond := rfl

theorem parkLink_beyond (s : State) : (decideAttn (parkLink s)).beyond = s.beyond := by
  obtain ⟨link, direct, htell, -⟩ := parkLink_tell s
  exact ((decideAttn_tell _).aside.outer.beyond.trans htell.aside.outer.beyond).trans rfl

/-! ### What park leaves -/

/-- The state that parks: no response is in flight and no test runs. -/
structure State.idleService (s : State) : Prop where
  response : s.service.response = none
  test : s.service.test = none

theorem parkGauges_aside (s : State) : Aside s (parkGauges s) := ⟨rfl, fun _ => rfl⟩

/-- The speed, the gauges and the warnings at park. -/
def parkQuiet (s : State) : State := quieted (parkGauges (speedAway s))

theorem parkQuiet_aside (s : State) : Aside s (parkQuiet s) :=
  ((speedAway_aside s).trans (parkGauges_aside _)).trans (quieted_aside _)

theorem Derived.parkGauges {s a : State} (h : Derived s a) : Derived s (parkGauges a) := by
  obtain ⟨_, _, _, _, _, _, _, _, _, _, _, _, rfl⟩ := h
  exact ⟨_, _, _, _, _, _, _, _, _, _, _, _, rfl⟩

/-- What the speed, the gauges and the warnings at park reach. -/
theorem parkQuiet_derived {s : State} (h : s.stage = 0) (htest : s.service.test = none) : ∃ sp, Derived
    (bulbless { s with speed := sp }) (parkQuiet s) := by
  obtain ⟨-, -, sp, hderived⟩ := speedAway_effect h htest
  exact ⟨sp, hderived.parkGauges.bulbless.trans (quieted_derived _)⟩

theorem endBulb_slot {k : Fin 256} (hk : k ≠ slotBulbCheck) (s : State) : (endBulb s).slots[k] = s.slots[k] := by
  by_cases hb : s.bulb.isSome = true
  · rw [endBulb, if_pos hb, redrive_slots, publish_other hk]
  · rw [endBulb, if_neg hb]

theorem quieted_slot {k : Fin 256} (hk : k ≠ slotBulbCheck) (s : State) : (quieted s).slots[k] = s.slots[k] := by
  have hdark : (darkened s).slots = s.slots := by
    unfold darkened darkenTelltales
    rw [setFlagIf_slots]
    rfl
  rw [quieted_eq, quietLines, redrive_slots]
  show (emptyChimes (endBulb (darkened s))).slots[k] = _
  rw [emptyChimes, redrive_slots]
  exact (endBulb_slot hk _).trans (congrArg (fun v : Vector SlotRec 256 => v[k]) hdark)

theorem parkQuiet_slots {s : State} (h : s.stage = 0) (htest : s.service.test = none) :
    (parkQuiet s).slots[slotVehicleSpeed].state = .stale ∧ (parkQuiet s).slots[slotStandstill].value = 0 := by
  obtain ⟨hspeed, hstand, -⟩ := speedAway_effect h htest
  rw [parkQuiet, quieted_slot (by decide), quieted_slot (by decide)]
  exact ⟨hspeed, hstand⟩

theorem parkGauges_stage (s : State) : (parkGauges s).stage = s.stage := rfl

theorem parkGauges_speed_stage {s : State} (h : s.stage = 0) : (parkGauges (speedAway s)).stage = 0 :=
  (parkGauges_stage _).trans ((speedAway_busy (free := True) (place := True) s).stage.trans h)

theorem parkQuiet_stage {s : State} (h : s.stage = 0) : (parkQuiet s).stage = 0 :=
  (quieted_stage _).trans (parkGauges_speed_stage h)

/-- From the doors on nothing moves the warnings and the slots of the speed, and no line comes on. -/
structure Dormant (s t : State) : Prop where
  rests : Rests s t
  speed : t.slots[slotVehicleSpeed] = s.slots[slotVehicleSpeed]
  standstill : t.slots[slotStandstill] = s.slots[slotStandstill]

namespace Dormant

theorem trans {a b c : State} (h : Dormant a b) (h' : Dormant b c) : Dormant a c :=
  ⟨h.rests.trans h'.rests, h'.speed.trans h.speed, h'.standstill.trans h.standstill⟩

theorem of_keeps {a b : State} {ks : List (Fin 256)} (h : Rests a b) (hk : Keeps ks [] a b)
    (hspeed : slotVehicleSpeed ∉ ks) (hstand : slotStandstill ∉ ks) : Dormant a b :=
  ⟨h, hk.slots _ hspeed, hk.slots _ hstand⟩

end Dormant

theorem parkDoors_dormant {s : State} (h : s.stage = 0) : Dormant s (parkDoors s) := by
  refine .of_keeps (ks := [slotAnyDoorOpen, slotDrivePermit, slotStopRequested]) (parkDoors_rests h) ?_ (by decide) (by decide)
  rw [parkDoors_eq]
  have hgo : Keeps [slotAnyDoorOpen, slotDrivePermit, slotStopRequested] [] s (letGo s) :=
    Keeps.apart rfl rfl rfl rfl rfl rfl rfl rfl
  exact ((hgo.trans (publish_keeps _ _ (by decide))).trans (publish_keeps _ _ (by decide))).trans
    (clearStopLatch_keeps _ (by decide))

theorem emptyLive_dormant {s : State} (h : s.stage = 0) : Dormant s (emptyLive s) :=
  ⟨emptyLive_rests h, publish_other (k := slotActiveFaults) (by decide) 0 _,
    publish_other (k := slotActiveFaults) (by decide) 0 _⟩

theorem clearLost_slot {k : Fin 256} (hk : k ≠ slotPanelLinkLost) (s : State) :
    (clearLost s).slots[k] = s.slots[k] := by
  rw [clearLost, redrive_slots, publish_other hk]

theorem parkLink_slot {k : Fin 256} (hk : k ≠ slotPanelLinkLost) (s : State) : (parkLink s).slots[k] = s.slots[k] := by
  rw [parkLink_eq]
  by_cases hlost : s.link.lost = true
  · rw [if_pos hlost]
    exact clearLost_slot hk s
  · rw [if_neg hlost]

theorem parkLink_dormant {s : State} (h : s.stage = 0) : Dormant s (parkLink s) :=
  ⟨parkLink_rests h, parkLink_slot (by decide) s, parkLink_slot (by decide) s⟩

theorem decideAttn_dormant (s : State) : Dormant s (decideAttn s) := ⟨⟨rfl, rfl, id⟩, rfl, rfl⟩

/-- Park from the doors on, with no response in flight. -/
theorem parkEnd_idle {s : State} (h : s.service.response = none) :
    parkEnd s = decideAttn (parkLink (emptyLive (parkDoors s))) := by
  have hidle : (emptyLive (parkDoors s)).service.response = none :=
    ((emptyLive_tell _).project (·.service.response) rfl).trans
      (((parkDoors_derived s).project (·.service.response) rfl).trans h)
  rw [parkEnd, abandon_idle hidle]

theorem parkDoors_stage {s : State} (h : s.stage = 0) : (parkDoors s).stage = 0 :=
  ((parkDoors_derived s).project (·.stage) rfl).trans h

theorem emptyLive_stage {s : State} (h : s.stage = 0) : (emptyLive s).stage = 0 :=
  ((emptyLive_tell s).project (·.stage) rfl).trans h

theorem parkEnd_dormant {s : State} (h : s.stage = 0) (hidle : s.service.response = none) : Dormant s (parkEnd s) := by
  rw [parkEnd_idle hidle]
  have hdoors := parkDoors_stage h
  exact (((parkDoors_dormant h).trans (emptyLive_dormant hdoors)).trans
    (parkLink_dormant (emptyLive_stage hdoors))).trans (decideAttn_dormant _)

/-- The part parked but for its link. -/
def parkStores (s : State) : State := emptyLive (parkDoors s)

theorem parkStores_aside (s : State) : Aside s (parkStores s) := (parkDoors_aside s).trans (emptyLive_aside _)

/-- The part as the speed finds it at park. -/
def parkReady (s : State) : State := parkReceivers (parkPorts (parkBegun s))

/-- The part at park but for its link. -/
def parkSettled (s : State) : State := parkStores (parkQuiet (parkReady s))

theorem parkQuiet_doors {s : State} (h : s.stage = 0) : (parkQuiet s).doors = s.doors := by
  rw [parkQuiet, quieted_doors]
  exact speedAway_doors h

/-- Every line is off once the part has parked. -/
theorem parkBlocks_off (s : State) : (parkBlocks s).linesOff := by
  have hfront := parkFront_runs (k := Scope.closed) s
  have hdoors : Runs { Scope.closed with permit := True } (parkFront s) (parkDoors (parkFront s)) :=
    parkDoors_runs trivial _
  have hback : Runs { Scope.closed with link := True } (parkDoors (parkFront s)) (parkBlocks s) :=
    parkBack_runs trivial _
  have hstage : (parkFront s).stage = 0 := hfront.stage_eq id
  have hoff := hdoors.linesOff id (by omega) (parkFront_off s)
  exact hback.linesOff id (by rw [hdoors.stage_eq id]; omega) hoff

theorem parkReceivers_ports (s : State) : (parkReceivers s).ports = s.ports := rfl

theorem parkReceivers_pulses (s : State) (i : Fin 4) : (parkReceivers s).pulses[i].meas = none := by
  have h : (parkReceivers s).pulses = vmap (fun u => { u with meas := none }) s.pulses := rfl
  rw [h, vmap_get]

section
variable {s : State} (h : s.stage = 0) (htest : s.service.test = none)
include h htest

theorem parkQuiet_service : (parkQuiet s).service = s.service := by
  obtain ⟨sp, hderived⟩ := parkQuiet_derived h htest
  exact hderived.project (·.service) rfl

theorem parkQuiet_faults : (parkQuiet s).faults = s.faults := by
  obtain ⟨sp, hderived⟩ := parkQuiet_derived h htest
  exact hderived.project (·.faults) rfl

theorem parkQuiet_runOn : (parkQuiet s).runOn = s.runOn := by
  obtain ⟨sp, hderived⟩ := parkQuiet_derived h htest
  exact hderived.project (·.runOn) rfl

theorem parkQuiet_capture : (parkQuiet s).capture = s.capture := by
  obtain ⟨sp, hderived⟩ := parkQuiet_derived h htest
  exact hderived.project (·.capture) rfl

end

theorem parkStores_service (s : State) : (parkStores s).service = s.service :=
  ((emptyLive_tell _).project (·.service) rfl).trans ((parkDoors_derived s).project (·.service) rfl)

theorem parkStores_capture (s : State) : (parkStores s).capture = s.capture :=
  ((emptyLive_tell _).project (·.capture) rfl).trans ((parkDoors_derived s).project (·.capture) rfl)

theorem parkStores_runOn (s : State) : (parkStores s).runOn = s.runOn :=
  ((emptyLive_tell _).project (·.runOn) rfl).trans ((parkDoors_derived s).project (·.runOn) rfl)

theorem parkStores_faults (s : State) :
    (parkStores s).faults = { s.faults with live := [], memory := inactiveMemory s.faults.memory } := by
  rw [parkStores, (emptyLive_tell _).project (·.faults) rfl, (parkDoors_derived s).project (·.faults) rfl]
  rfl

theorem parkStores_doors (s : State) : (parkStores s).doors = (letGo s).doors :=
  (emptyLive_tell _).doors.trans (parkDoors_doors s)

theorem parkSettled_aside (s : State) : Aside (parkReady s) (parkSettled s) :=
  (parkQuiet_aside _).trans (parkStores_aside _)

theorem parkSettled_link (s : State) : (parkSettled s).link = (parkReady s).link :=
  (parkSettled_aside s).taken.project (·.link) fun _ => rfl

theorem parkSettled_direct (s : State) : (parkSettled s).direct = (parkReady s).direct :=
  (parkSettled_aside s).taken.project (·.direct) fun _ => rfl

section
variable {s : State} (h : s.idleService)
include h

theorem parkPorts_begun : PortsOnly (parkBegun s) (parkPorts (parkBegun s)) :=
  (parkPorts_effect (s := parkBegun s) h.response).1

theorem parkReady_project {α : Type} (f : State → α) (hb : ∀ a, f (parkReceivers a) = f a)
    (hf : (fun v fl a => f { parkBegun s with ports := v, flags := fl, attn := a }) = fun _ _ _ => f (parkBegun s)) :
    f (parkReady s) = f (parkBegun s) :=
  (hb _).trans ((parkPorts_begun h).project f hf)

theorem parkReady_stage : (parkReady s).stage = 0 := parkReady_project h (·.stage) (fun _ => rfl) rfl

theorem parkReady_service : (parkReady s).service = s.service := parkReady_project h (·.service) (fun _ => rfl) rfl

theorem parkReady_idle : (parkReady s).idleService := by
  obtain ⟨hresponse, htest⟩ := h
  constructor
  · rw [parkReady_service ⟨hresponse, htest⟩, hresponse]
  · rw [parkReady_service ⟨hresponse, htest⟩, htest]

theorem parkReady_queue (p : Fin 3) : (parkReady s).ports[p].queue = [] := by
  rw [parkReady, parkReceivers_ports]
  exact (parkPorts_effect (s := parkBegun s) h.response).2 p

theorem parkQuiet_ready_service : (parkQuiet (parkReady s)).service = s.service := by
  rw [parkQuiet_service (parkReady_stage h) (parkReady_idle h).test, parkReady_service h]

theorem parkBlocks_settled : parkBlocks s = decideAttn (parkLink (parkSettled s)) := by
  have hidle : (parkQuiet (parkReady s)).service.response = none := by rw [parkQuiet_ready_service h, h.response]
  rw [parkSettled, parkStores, ← parkEnd_idle hidle]
  rfl

theorem parkSettled_service : (parkSettled s).service = s.service := by
  rw [parkSettled, parkStores_service, parkQuiet_ready_service h]

theorem parkReady_faults : (parkReady s).faults = s.faults := parkReady_project h (·.faults) (fun _ => rfl) rfl

theorem parkReady_capture : (parkReady s).capture = s.capture := parkReady_project h (·.capture) (fun _ => rfl) rfl

theorem parkReady_doors : (parkReady s).doors = s.doors := parkReady_project h (·.doors) (fun _ => rfl) rfl

theorem parkReady_link : (parkReady s).link = s.link := parkReady_project h (·.link) (fun _ => rfl) rfl

theorem parkReady_direct : (parkReady s).direct = s.direct := parkReady_project h (·.direct) (fun _ => rfl) rfl

theorem parkReady_slots : (parkReady s).slots = s.slots := parkReady_project h (·.slots) (fun _ => rfl) rfl

theorem parkSettled_faults : (parkSettled s).faults.live = [] ∧
    (parkSettled s).faults.memory = inactiveMemory s.faults.memory := by
  rw [parkSettled, parkStores_faults, parkQuiet_faults (parkReady_stage h) (parkReady_idle h).test, parkReady_faults h]
  exact ⟨rfl, rfl⟩

theorem parkReady_runOn : (parkReady s).runOn = none := parkReady_project h (·.runOn) (fun _ => rfl) rfl

theorem parkSettled_runOn : (parkSettled s).runOn = none := by
  rw [parkSettled, parkStores_runOn, parkQuiet_runOn (parkReady_stage h) (parkReady_idle h).test, parkReady_runOn h]

theorem parkSettled_capture : (parkSettled s).capture = s.capture := by
  rw [parkSettled, parkStores_capture, parkQuiet_capture (parkReady_stage h) (parkReady_idle h).test, parkReady_capture h]

theorem parkSettled_doors (d : Fin 4) : (parkSettled s).doors[d].state = s.doors[d].state ∧
    (parkSettled s).doors[d].released = false := by
  have hdoors : (parkQuiet (parkReady s)).doors = s.doors := by
    rw [parkQuiet_doors (parkReady_stage h), parkReady_doors h]
  rw [parkSettled, parkStores_doors, letGo, vmap_get, hdoors]
  exact ⟨rfl, rfl⟩

theorem parkBlocks_dormant : Dormant (parkQuiet (parkReady s)) (parkBlocks s) := by
  have hend : parkBlocks s = parkEnd (parkQuiet (parkReady s)) := rfl
  rw [hend]
  refine parkEnd_dormant (parkQuiet_stage (parkReady_stage h)) ?_
  rw [parkQuiet_ready_service h, h.response]

/-- What park reaches from the settled part on: the link and what is told. -/
theorem parkBlocks_tell : ∃ link direct, Tell
    { parkSettled s with
      link := link
      direct := direct } (parkBlocks s) ∧ link.egress = [] ∧ link.ingress = [] ∧ link.timer = none ∧
      link.reportTimer = none ∧ (s.direct = true → s.link.lost = true → direct = false) := by
  obtain ⟨link, direct, htell, hegress, hingress, htimer, hreport, hdirect⟩ := parkLink_tell (parkSettled s)
  refine ⟨link, direct, ?_, hegress, hingress, htimer, hreport, ?_⟩
  · rw [parkBlocks_settled h]
    exact htell.trans (decideAttn_tell _)
  · rwa [parkSettled_direct, parkReady_direct h, parkSettled_link, parkReady_link h] at hdirect

theorem parkBlocks_beyond : (parkBlocks s).beyond = (parkBegun s).beyond := by
  rw [parkBlocks_settled h, parkLink_beyond, (parkSettled_aside s).outer.beyond]
  exact (parkReceivers_beyond _).trans (parkPorts_begun h).beyond

end

/-- What park keeps outside the blocks, the ports, the receivers and the link. -/
theorem parkBlocks_project {α : Type} {s : State} (h : s.idleService) (f : State → α) (hf : ∀ a : State, f a.beyond = f a) :
    f (parkBlocks s) = f (parkBegun s) :=
  (hf _).symm.trans ((congrArg f (parkBlocks_beyond h)).trans (hf _))

/-- What is told at the link's park reaches none of these. -/
theorem Tell.unlinked {a t : State} {link : PanelLink} {direct : Bool}
    (h : Tell { a with link := link, direct := direct } t) :
    t.link = link ∧ t.direct = direct ∧ t.runOn = a.runOn ∧ t.ports = a.ports ∧ t.pulses = a.pulses ∧ t.service = a.service ∧
      t.capture = a.capture ∧ t.faults = a.faults ∧ t.doors = a.doors ∧ ∀ k : Fin 240, t.record k = a.record k :=
  ⟨h.project (·.link) rfl, h.project (·.direct) rfl, h.project (·.runOn) rfl, h.project (·.ports) rfl, h.project (·.pulses) rfl,
    h.project (·.service) rfl, h.project (·.capture) rfl, h.project (·.faults) rfl, h.project (·.doors) rfl,
    h.aside.record⟩

theorem parkSettled_ports (s : State) : (parkSettled s).ports = (parkReady s).ports :=
  (parkSettled_aside s).taken.project (·.ports) fun _ => rfl

theorem parkSettled_pulses (s : State) : (parkSettled s).pulses = (parkReady s).pulses :=
  (parkSettled_aside s).taken.project (·.pulses) fun _ => rfl

theorem record_of_slots {s t : State} (h : t.slots = s.slots) (k : Fin 240) : t.record k = s.record k :=
  congrArg (fun v : Vector SlotRec 256 => v[configSlot k]) h

theorem parkBegun_idle {s : State} (dt : Nat) (h : s.mayPark = true) : (s.elapse dt).idleService := by
  simp only [State.mayPark, Bool.and_eq_true, Option.isNone_iff_eq_none] at h
  obtain ⟨⟨-, hresponse⟩, htest⟩ := h
  exact ⟨hresponse, htest⟩

theorem parkBlocks_tables (s : State) : (parkBlocks s).tables = s.tables :=
  (parkBlocks_runs (k := Scope.powering) trivial trivial trivial trivial s).tables id

section
variable {s : State} (h : s.idleService)
include h

theorem parkBlocks_conds (c : Fin 96) : (parkBlocks s).conds[c].state = .off := by
  rw [(parkBlocks_dormant h).rests.conds, parkQuiet, quieted_conds (parkGauges_speed_stage (parkReady_stage h)), vmap_get]
  rfl

theorem parkBlocks_telltales (k : Fin 64) : (parkBlocks s).telltales[k].state = .dark := by
  rw [(parkBlocks_dormant h).rests.telltales, parkQuiet, quieted_telltales (parkGauges_speed_stage (parkReady_stage h)),
    vmap_get]

theorem parkBlocks_chimes (r : Fin 70) : (parkBlocks s).chime.pending[r] = none :=
  ((parkBlocks_dormant h).rests.idle (quieted_idle _)).2 r

theorem parkBlocks_speed : (parkBlocks s).slots[slotVehicleSpeed].state = .stale ∧
    (parkBlocks s).slots[slotStandstill].value = 0 := by
  rw [(parkBlocks_dormant h).speed, (parkBlocks_dormant h).standstill]
  exact parkQuiet_slots (parkReady_stage h) (parkReady_idle h).test

end

theorem decideAttn_parked {s : State} (h : (decideAttn s).power = .parked) : (decideAttn s).attn = false := by
  have hact : s.isActive = false := by
    rw [State.isActive, show s.power = .parked from h]
    decide
  show s.attnDemand = false
  rw [State.attnDemand, hact]
  rfl

theorem State.elapse_mayPark (dt : Nat) (s : State) : (s.elapse dt).mayPark = s.mayPark := rfl

/-- Settles O52. -/
theorem runOnExpiryParksOrRestarts : Obligations.RunOnExpiryParksOrRestarts := by
  intro s dt due hawake hrun hdue
  obtain ⟨hreset, hact⟩ := s.awake_iff.mp hawake
  have hexec : exec (.runOnTimerExpiry dt) s = .next (expireRunOn (s.elapse dt)) := event_of_awake hreset
  have hexpired : ((s.elapse dt).isActive && (s.elapse dt).due (s.elapse dt).runOn) = true := by
    rw [Bool.and_eq_true]
    refine ⟨hact, ?_⟩
    rw [State.elapse_runOn, hrun]
    exact decide_eq_true hdue
  refine ⟨fun hmay hrestarting => ?_, fun hmay => ?_⟩
  · have h := parkBegun_idle dt hmay
    have hparks : expireRunOn (s.elapse dt) = parkBlocks (s.elapse dt) := by
      rw [expireRunOn, if_pos hexpired, State.elapse_mayPark, if_pos hmay, park, parkBlocks_restarting, State.elapse_link, hrestarting]
      exact if_neg Bool.false_ne_true
    obtain ⟨link, direct, htell, hegress, hingress, htimer, hreport, hdirect⟩ := parkBlocks_tell h
    obtain ⟨hlink, hd, hrunOn, hports, hpulses, hservice, hcapture, hfaults, hdoors, hrecord⟩ := htell.unlinked
    have hpower : (parkBlocks (s.elapse dt)).power = .parked := parkBlocks_project h (·.power) fun _ => rfl
    obtain ⟨-, ⟨hpermit, -, -⟩, hbrake⟩ := parkBlocks_keeps_interlocks (s.elapse dt)
    obtain ⟨hno, hwant⟩ := derived_of_parked hpower
    obtain ⟨hspeed, hstand⟩ := parkBlocks_speed h
    obtain ⟨hlive, hmemory⟩ := parkSettled_faults h
    have hkeeps (k : Fin 240) : (parkBlocks (s.elapse dt)).record k = s.record k :=
      (hrecord k).trans (((parkSettled_aside _).record k).trans (record_of_slots (parkReady_slots h) k))
    have hqueue (p : Fin 3) : (parkBlocks (s.elapse dt)).ports[p].queue = [] := by
      rw [hports, parkSettled_ports, parkReady_queue h]
    have hmeas (i : Fin 4) : (parkBlocks (s.elapse dt)).pulses[i].meas = none := by
      rw [hpulses, parkSettled_pulses, parkReady, parkReceivers_pulses]
    have hdoor (d : Fin 4) : (parkBlocks (s.elapse dt)).doors[d].state = s.doors[d].state ∧
        (parkBlocks (s.elapse dt)).doors[d].released = false := by
      rw [hdoors]
      exact parkSettled_doors h d
    have hattn : (parkBlocks (s.elapse dt)).attn = false := by
      rw [parkBlocks_settled h] at hpower ⊢
      exact decideAttn_parked hpower
    refine ⟨parkBlocks (s.elapse dt), hexec.trans (congrArg _ hparks), hpower, parkBlocks_project h (·.mode) fun _ => rfl,
      parkBlocks_tables _, ?_, hqueue, hmeas, hspeed, hstand, parkBlocks_conds h, parkBlocks_telltales h,
      parkBlocks_chimes h, parkBlocks_off _, hdoor, hpermit.trans hno, hbrake.trans hwant, ?_, ?_, ?_, ?_, ?_, ?_, hattn, ?_,
      hcapture.trans (parkSettled_capture h), hservice.trans (parkSettled_service h),
      parkBlocks_project h (·.label) fun _ => rfl, parkBlocks_project h (·.ignition) fun _ => rfl,
      parkBlocks_project h (·.cycles) fun _ => rfl, parkBlocks_project h (·.inputs) fun _ => rfl,
      parkBlocks_project h (·.speed.total) fun _ => rfl, parkBlocks_project h (·.speed.delta) fun _ => rfl, hkeeps⟩
    · rw [hrunOn, parkSettled_runOn h]
    · rw [hfaults, hlive]
    · rw [hfaults, hmemory]
      rfl
    · rw [hlink, hegress]
    · rw [hlink, hingress]
    · rw [hlink, htimer]
    · rw [hlink, hreport]
    · rw [hd]
      exact hdirect
  · rw [hexec, expireRunOn, if_pos hexpired, if_neg (by rw [State.elapse_mayPark, hmay]; decide)]
    rfl

end Sys2Proof.Machine
end

section
/-! PROOFS. The ignition (R200, R201, R202): the input, its first accepted level, and the two events. -/

namespace Sys2Proof.Machine

/-! ### The ignition-on event (R201) -/

/-- The cycles may be set before or after what is told. -/
theorem Tell.withCycles {s a : State} (h : Tell s a) (n : Nat) :
    Tell { s with cycles := n } { a with cycles := n } := by
  obtain ⟨_, _, _, _, _, _, _, _, _, rfl, htables, hrecord⟩ := h
  exact ⟨_, _, _, _, _, _, _, _, _, rfl, htables, hrecord⟩

/-- The ignition published, and the cycle counted and published. -/
def counted (s : State) : State :=
  publish slotIgnitionCycles (bump16 (writeIgnition true s).cycles)
    { writeIgnition true s with cycles := bump16 (writeIgnition true s).cycles }

theorem writeIgnition_tell (on : Bool) (s : State) : Tell s (writeIgnition on s) := publish_tell (by decide) _ s

theorem writeIgnition_cycles (on : Bool) (s : State) : (writeIgnition on s).cycles = s.cycles :=
  (writeIgnition_tell on s).project (·.cycles) rfl

theorem counted_tell (s : State) : Tell { s with cycles := bump16 s.cycles } (counted s) := by
  unfold counted
  rw [writeIgnition_cycles]
  exact ((writeIgnition_tell true s).withCycles _).trans (publish_tell (by decide) _ _)

theorem counted_slots (s : State) : (counted s).slots[slotIgnition].value = 1 ∧
    (counted s).slots[slotIgnitionCycles].value = bump16 s.cycles := by
  unfold counted
  refine ⟨?_, ?_⟩
  · rw [publish_other (by decide)]
    exact publish_value _ _ s
  · rw [publish_value, writeIgnition_cycles]

/-- The memory healed and the run-on timer stopped. -/
def healed (s : State) : State := { healingPass s with runOn := none }

/-- The gauges told of the ignition. -/
def gaugesOn (s : State) : State := { s with gauges := vmap s.ignitionOnGauge s.gauges }

/-- The ignition-on event but for the bulb check. -/
def ignited (s : State) : State := gaugesOn (liftLockouts (healed (counted s)))

theorem ignitionOn_eq (s : State) : ignitionOn s = if (ignited s).isRun then beginBulb (ignited s) else ignited s := rfl

theorem gaugesOn_tell (s : State) : Tell s (gaugesOn s) := tell_gauges (vmap_map _ _ _ (ignitionOnGauge_entry s))

theorem liftLockouts_tell (s : State) : Tell s (liftLockouts s) :=
  Tell.trans (b := { s with lamps := vmap (fun u => { u with protection := .normal, shorts := 0 }) s.lamps })
    ⟨_, _, _, _, _, _, _, _, _, rfl, rfl, fun _ => rfl⟩ (redrive_tell _)

theorem ignited_tell (s : State) : Tell (healed (counted s)) (ignited s) :=
  (liftLockouts_tell _).trans (gaugesOn_tell _)

theorem healed_moved (s : State) : Moved s (healed s) :=
  (healingPass_told s).moved.trans (moved_interlock (l := s.stopLatch) (dp := s.drivePermit) (sb := s.stopBrake))

theorem ignited_moved (s : State) : Moved { s with cycles := bump16 s.cycles } (ignited s) :=
  ((counted_tell s).moved.trans (healed_moved _)).trans (ignited_tell s).moved

theorem ignited_slots (s : State) : (ignited s).slots = (counted s).slots := by
  rw [ignited, gaugesOn, liftLockouts, redrive_slots]
  rfl

/-- Every lamp line is NORMAL with no short counted. -/
def State.lampsLifted (s : State) : Prop := ∀ k : Fin 8, s.lamps[k].protection = .normal ∧ s.lamps[k].shorts = 0

theorem Held.lampsLifted {s t : State} (h : Held s t) (hs : s.lampsLifted) : t.lampsLifted := fun k => by
  rw [h.lamp k]
  exact hs k

theorem liftLockouts_lifted (s : State) : (liftLockouts s).lampsLifted := by
  refine (redrive_held _).lampsLifted fun k => ?_
  rw [vmap_get]
  exact ⟨rfl, rfl⟩

theorem ignited_lifted (s : State) : (ignited s).lampsLifted := liftLockouts_lifted (healed (counted s))

theorem counted_faults (s : State) : (counted s).faults = s.faults := (counted_tell s).project (·.faults) rfl

theorem healed_memory (s : State) : (healed s).faults.memory = vmap (healRecord s.faults.healLimit) s.faults.memory :=
  rfl

theorem ignited_memory (s : State) :
    (ignited s).faults.memory = vmap (healRecord s.faults.healLimit) s.faults.memory := by
  rw [(ignited_tell s).project (·.faults) rfl, healed_memory, counted_faults]

theorem healed_runOn (s : State) : (healed s).runOn = none := rfl

theorem ignited_runOn (s : State) : (ignited s).runOn = none := by
  rw [(ignited_tell s).project (·.runOn) rfl, healed_runOn]

/-! What the bulb check leaves of the event -/

theorem beginBulb_tell (s : State) : Tell { s with bulb := some (s.after s.system.bulbTime) } (beginBulb s) :=
  (publish_tell (by decide) 1 _).trans (redrive_tell _)

theorem beginBulb_held (s : State) : Held s (beginBulb s) := by
  refine Held.trans ?_ ((publish_held _ _ _).trans (redrive_held _))
  exact Held.apart rfl rfl rfl

theorem beginBulb_slot {k : Fin 256} (hk : k ≠ slotBulbCheck) (s : State) : (beginBulb s).slots[k] = s.slots[k] := by
  rw [beginBulb, redrive_slots, publish_other hk]

/-- The bulb check may be counted with the base of what moved. -/
theorem Moved.withBulb {s a : State} (h : Moved s a) (b : Option Nat) :
    Moved { s with bulb := b } { a with bulb := b } := by
  obtain ⟨_, _, _, _, _, _, _, _, _, _, _, _, _, _, _, _, _, _, rfl, htables, hrecord⟩ := h
  exact ⟨_, _, _, _, _, _, _, _, _, _, _, _, _, _, _, _, _, _, rfl, htables, hrecord⟩

/-- What an ignition-on event leaves. -/
structure Ignites (s t : State) : Prop where
  ignition : t.slots[slotIgnition].value = 1
  cycles : t.slots[slotIgnitionCycles].value = bump16 s.cycles
  lamps : t.lampsLifted
  memory : t.faults.memory = vmap (healRecord s.faults.healLimit) s.faults.memory
  runOn : t.runOn = none
  moved : Moved { s with cycles := bump16 s.cycles, bulb := t.bulb } t

theorem ignited_ignites (s : State) : Ignites s (ignited s) := by
  obtain ⟨hign, hcycles⟩ := counted_slots s
  refine ⟨?_, ?_, ignited_lifted s, ignited_memory s, ignited_runOn s, (ignited_moved s).withBulb _⟩
  · rw [ignited_slots, hign]
  · rw [ignited_slots, hcycles]

theorem beginBulb_ignites {s a : State} (h : Ignites s a) : Ignites s (beginBulb a) := by
  have htell := beginBulb_tell a
  have hbulb : Moved { s with cycles := bump16 s.cycles, bulb := (beginBulb a).bulb } (beginBulb a) := by
    rw [beginBulb_bulb]
    exact (h.moved.withBulb _).trans htell.moved
  refine ⟨?_, ?_, (beginBulb_held a).lampsLifted h.lamps, ?_, ?_, hbulb⟩
  · rw [beginBulb_slot (by decide), h.ignition]
  · rw [beginBulb_slot (by decide), h.cycles]
  · rw [htell.project (·.faults) rfl, h.memory]
  · rw [htell.project (·.runOn) rfl, h.runOn]

theorem ignited_isRun (s : State) : (ignited s).isRun = s.isRun := (ignited_moved s).stored.project (·.isRun) rfl

theorem ignited_after (s : State) (n : Nat) : (ignited s).after n = s.after n :=
  (ignited_moved s).stored.project (·.after n) rfl

theorem ignited_system (s : State) : (ignited s).system = s.system := (ignited_moved s).stored.project (·.system) rfl

theorem ignitionOn_ignites (s : State) : Ignites s (ignitionOn s) := by
  rw [ignitionOn_eq]
  split
  · exact beginBulb_ignites (ignited_ignites s)
  · exact ignited_ignites s

theorem ignitionOn_bulb {s : State} (h : s.isRun = true) : (ignitionOn s).bulb = some (s.after s.system.bulbTime) := by
  rw [ignitionOn_eq, if_pos ((ignited_isRun s).trans h), beginBulb_bulb, ignited_after, ignited_system]

/-! ### The ignition-off event (R202) -/

theorem Tell.bulbless {s a : State} (h : Tell s a) : Tell (bulbless s) (bulbless a) := by
  obtain ⟨_, _, _, _, _, _, _, _, _, rfl, htables, hrecord⟩ := h
  exact ⟨_, _, _, _, _, _, _, _, _, rfl, htables, hrecord⟩

/-- The ignition published off and the bulb check ended. -/
def unlit (s : State) : State := endBulb (writeIgnition false s)

theorem unlit_tell (s : State) : Tell (bulbless s) (unlit s) :=
  (writeIgnition_tell false s).bulbless.trans (endBulb_tell _)

theorem unlit_slot (s : State) : (unlit s).slots[slotIgnition].value = 0 := by
  rw [unlit, endBulb_slot (by decide)]
  exact publish_value _ _ s

theorem endBulb_held (s : State) : Held s (endBulb s) := by
  unfold endBulb
  split
  · refine Held.trans ?_ ((publish_held _ _ _).trans (redrive_held _))
    exact Held.apart rfl rfl rfl
  · exact Held.refl s

theorem unlit_held (s : State) : Held s (unlit s) := (publish_held _ _ s).trans (endBulb_held _)

/-- The gauges told of the ignition off. -/
def gaugesOff (s : State) : State := { s with gauges := vmap GaugeUnit.ignitionOff s.gauges }

theorem gaugesOff_tell (s : State) : Tell s (gaugesOff s) := tell_gauges (vmap_map _ _ _ ignitionOff_entry)

theorem startConditions_off {s : State} (h : s.ignition.accepted = false) : s.startConditions = false := by
  simp [State.startConditions, h]

theorem ignitionOff_tellTest (s : State) : ignitionOff s = startRunOn (tellTest (gaugesOff (unlit s))) := rfl

/-- The ignition-off event ends every test: its conditions fail with the ignition off. -/
theorem ignitionOff_eq {s : State} (h : s.ignition.accepted = false) :
    ignitionOff s = startRunOn (endTest (gaugesOff (unlit s))) := by
  have hoff : (gaugesOff (unlit s)).ignition.accepted = false :=
    ((unlit_tell s).trans (gaugesOff_tell _)).project (·.ignition.accepted) rfl |>.trans h
  rw [ignitionOff_tellTest, tellTest, if_neg (by rw [startConditions_off hoff]; decide)]

theorem endTest_test (s : State) : (endTest s).service.test = none := by
  unfold endTest
  split
  · assumption
  · exact congrArg ServiceUnit.test (putTest_service _ none none s)

/-- The end of a test ends the sweep, and moves no target. -/
theorem endTest_target (g : Fin 6) (s : State) : (endTest s).gauges[g].target = s.gauges[g].target := by
  have hsweep (u : TestUnit) (a : State) : (setSweep u none a).gauges[g].target = a.gauges[g].target := by
    cases u with
    | gauge i =>
      by_cases hi : g = i
      · subst hi
        simp only [setSweep, vput_same]
      · simp only [setSweep, vput_other _ _ hi]
    | _ => rfl
  unfold endTest
  split
  · rfl
  · rw [redrive_gauges, setFlag_gauges, hsweep]

theorem ignitionOff_target {u : GaugeUnit} (h : u.entry.enabled = true) (hs : u.state ≠ .off) :
    u.ignitionOff.target = 0 := by
  unfold GaugeUnit.ignitionOff
  rw [if_neg (by rw [h]; decide)]
  split
  · next hoff => exact absurd hoff hs
  · rfl
  · rfl

theorem gaugesOff_target {s : State} {g : Fin 6} (h : s.gauges[g].entry.enabled = true) (hs : s.gauges[g].state ≠ .off) :
    (gaugesOff s).gauges[g].target = 0 := by
  rw [gaugesOff, vmap_get, ignitionOff_target h hs]

/-- What an ignition-off event leaves. -/
structure Darkens (s t : State) : Prop where
  ignition : t.slots[slotIgnition].value = 0
  test : t.service.test = none
  gauges : ∀ g : Fin 6, s.gauges[g].entry.enabled = true → s.gauges[g].state ≠ .off → t.gauges[g].target = 0
  runOn : t.runOn = some (s.after (1000 * s.system.runOnTime))
  moved : Moved (bulbless s) t

theorem ignitionOff_darkens {s : State} (h : s.ignition.accepted = false) : Darkens s (ignitionOff s) := by
  have hmoved : Moved (bulbless s) (endTest (gaugesOff (unlit s))) :=
    ((unlit_tell s).trans (gaugesOff_tell _)).moved.trans (endTest_moved _)
  rw [ignitionOff_eq h]
  refine ⟨?_, ?_, fun g hen hoff => ?_, ?_, ?_⟩
  · rw [startRunOn_slots, (endTest_keeps (ks := []) (cs := []) _).slots _ (by decide)]
    exact unlit_slot s
  · rw [startRunOn_service, endTest_test]
  · have hcourse := (unlit_held s).gauge g
    unfold GaugeUnit.sameCourse at hcourse
    have hen' : (unlit s).gauges[g].entry.enabled = true := by rw [hcourse, hen]
    have hoff' : (unlit s).gauges[g].state ≠ .off := by rw [hcourse]; exact hoff
    rw [startRunOn_gauges, endTest_target, gaugesOff_target hen' hoff']
  · rw [startRunOn_runOn, hmoved.stored.project (·.after (1000 * _)) rfl, hmoved.stored.project (·.system.runOnTime) rfl]
    rfl
  · exact hmoved.trans (startRunOn_moved _)

/-! ### The input (R200) -/

theorem held50_iff (s : State) (start : Nat) : s.held50 (some start) = true ↔ start + 50000 ≤ s.now :=
  decide_eq_true_iff

/-- A level that has been held is accepted. -/
theorem acceptIgnition_pending {s : State} {start : Nat} (h : s.ignition.pending = some start) (hdue : start + 50000 ≤ s.now)
    (hact : s.isActive = true) : acceptIgnition s =
      (let on := !s.ignition.accepted
       let a := putIgnition { s.ignition with accepted := on, pending := none, first := true, offHold := none } s
       if !s.ignition.first then firstIgnition on a else if on then ignitionOn a else ignitionOff a) := by
  have hheld : s.held50 s.ignition.pending = true := by
    rw [h]
    exact (held50_iff s start).mpr hdue
  have hawake (i : Ignition) (on : Bool) : (if on then wakeIfParked (putIgnition i s) else putIgnition i s) = putIgnition i s := by
    have hact' : (putIgnition i s).isActive = true := hact
    rw [wakeIfParked, if_pos hact', ite_self]
  unfold acceptIgnition
  rw [if_pos hheld]
  simp only [hawake]

/-- The first level accepted after a reset, where it is off. -/
theorem acceptIgnition_offHold {s : State} {start : Nat} (h : s.ignition.pending = none) (hf : s.ignition.first = false)
    (ho : s.ignition.offHold = some start) (hdue : start + 50000 ≤ s.now) : acceptIgnition s =
      firstIgnition false (putIgnition { s.ignition with first := true, offHold := none } s) := by
  have hheld : s.held50 s.ignition.pending = false := by rw [h]; rfl
  have hfirst : (!s.ignition.first && s.held50 s.ignition.offHold) = true := by
    rw [hf, ho, Bool.and_eq_true]
    exact ⟨rfl, (held50_iff s start).mpr hdue⟩
  unfold acceptIgnition
  rw [if_neg (by rw [hheld]; decide), if_pos hfirst]

theorem firstIgnition_tell (on : Bool) (s : State) :
    (firstIgnition on s).slots[slotIgnition].value = (bit on : Nat) ∧
      (on = true → Tell s (firstIgnition on s)) ∧
      (on = false → Tell { s with runOn := some (s.after (1000 * s.system.runOnTime)) } (firstIgnition on s)) := by
  have htell := writeIgnition_tell on s
  have hvalue : (writeIgnition on s).slots[slotIgnition].value = (bit on : Nat) := publish_value _ _ s
  unfold firstIgnition
  cases on with
  | true => exact ⟨hvalue, fun _ => htell, nofun⟩
  | false =>
    refine ⟨hvalue, nofun, fun _ => ?_⟩
    obtain ⟨_, _, _, _, _, _, _, _, _, heq, htables, hrecord⟩ := htell
    exact ⟨_, _, _, _, _, _, _, _, _, by rw [heq]; rfl, htables, hrecord⟩

/-- The state in which an accepted ignition level takes effect. -/
def State.ignitionAt (s : State) (dt : Nat) (on : Bool) : State :=
  putIgnition { s.ignition with accepted := on, pending := none, first := true, offHold := none } (s.elapse dt)

section
variable {s : State} {dt start : Nat} (hawake : s.awake = true) (hp : s.ignition.pending = some start)
  (hdue : start + 50000 ≤ s.now + dt)
include hawake hp hdue

theorem exec_ignitionDebounceEnd : exec (.ignitionDebounceEnd dt) s = .next
    (let a := s.ignitionAt dt (!s.ignition.accepted)
     if !s.ignition.first then firstIgnition (!s.ignition.accepted) a
     else if !s.ignition.accepted then ignitionOn a else ignitionOff a) := by
  obtain ⟨hreset, hact⟩ := s.awake_iff.mp hawake
  exact (event_of_awake hreset).trans (congrArg _ (acceptIgnition_pending (s := s.elapse dt) hp hdue hact))

/-- The first level accepted after a reset is published, and is no ignition-on event. -/
theorem exec_firstIgnition (hf : s.ignition.first = false) (ha : s.ignition.accepted = false) :
    exec (.ignitionDebounceEnd dt) s = .next (firstIgnition true (s.ignitionAt dt true)) := by
  rw [exec_ignitionDebounceEnd hawake hp hdue, hf, ha]
  rfl

theorem exec_ignitionOn (hf : s.ignition.first = true) (ha : s.ignition.accepted = false) :
    exec (.ignitionDebounceEnd dt) s = .next (ignitionOn (s.ignitionAt dt true)) := by
  rw [exec_ignitionDebounceEnd hawake hp hdue, hf, ha]
  rfl

theorem exec_ignitionOff (hf : s.ignition.first = true) (ha : s.ignition.accepted = true) :
    exec (.ignitionDebounceEnd dt) s = .next (ignitionOff (s.ignitionAt dt false)) := by
  rw [exec_ignitionDebounceEnd hawake hp hdue, hf, ha]
  rfl

end

/-- What moved keeps ignition and cycles. -/
theorem Moved.ignition {s t : State} (h : Moved s t) : t.ignition = s.ignition := h.stored.project (·.ignition) rfl

theorem Moved.cycles {s t : State} (h : Moved s t) : t.cycles = s.cycles := h.stored.project (·.cycles) rfl

/-- Settles O51. -/
theorem ignitionEventsTakeEffect : Obligations.IgnitionEventsTakeEffect := by
  refine ⟨fun s dt start hawake hf ha => ⟨fun hp hdue => ?_, fun hp ho hdue => ?_⟩, fun s dt start hawake hf => ?_⟩
  · obtain ⟨hvalue, htell, -⟩ := firstIgnition_tell true (s.ignitionAt dt true)
    exact ⟨_, exec_firstIgnition hawake hp hdue hf ha, hvalue, htell rfl⟩
  · obtain ⟨hreset, hact⟩ := s.awake_iff.mp hawake
    have hexec : exec (.ignitionDebounceEnd dt) s = .next (acceptIgnition (s.elapse dt)) := event_of_awake hreset
    rw [acceptIgnition_offHold (s := s.elapse dt) hp hf ho hdue] at hexec
    obtain ⟨hvalue, -, htell⟩ := firstIgnition_tell false
      (putIgnition { s.ignition with first := true, offHold := none } (s.elapse dt))
    exact ⟨_, hexec, hvalue, htell rfl⟩
  · obtain ⟨hreset, hact⟩ := s.awake_iff.mp hawake
    have hpin (level : Bool) : exec (.ignPinChange dt level) s =
        .next (putIgnition ((s.elapse dt).ignition.change level (s.elapse dt).now) (s.elapse dt)) := pinEvent_of_awake hreset
    refine ⟨?_, fun level hl hp => ?_, fun ha hp hdue => ?_, fun ha hp hdue => ?_⟩
    · rw [hpin]
      simp [Ignition.change, hf]
      rfl
    · rw [hpin]
      simp [Ignition.change, hl, hp]
      rfl
    · have hon := ignitionOn_ignites (s.ignitionAt dt true)
      have hign := hon.moved.ignition
      have hcycles := hon.moved.cycles
      refine ⟨_, exec_ignitionOn hawake hp hdue hf ha, congrArg Ignition.accepted hign, congrArg Ignition.pending hign,
        hon.ignition, hcycles, hon.cycles, hon.runOn, hon.lamps, hon.memory,
        fun hm => ignitionOn_bulb (decide_eq_true hm), ?_⟩
      rw [hign, hcycles]
      exact hon.moved
    · have hoff := ignitionOff_darkens (s := s.ignitionAt dt false) rfl
      have hign := hoff.moved.ignition
      refine ⟨_, exec_ignitionOff hawake hp hdue hf ha, congrArg Ignition.accepted hign, congrArg Ignition.pending hign,
        hoff.ignition, hoff.test, hoff.gauges, hoff.runOn, ?_⟩
      rw [hign]
      exact hoff.moved

end Sys2Proof.Machine
end

section
/-! PROOFS. Wake (R204, R205): what it leaves, and the sources that wake a PARKED part. -/

namespace Sys2Proof.Machine

/-! ### What wake keeps -/

theorem wakeGauges_outer (s : State) : Outer s (wakeGauges s) := (wakeGauges_aside s).outer

theorem clearResidues_taken (s : State) : Taken s (clearResidues s) := rfl

/-- Wake in RUN up to the supervision. -/
def wakeStores (s : State) : State := wakeSlots (setStage 1 s)

/-- Wake in RUN from the pulse inputs up to the doors. -/
def wakeMeasures (s : State) : State :=
  takeUpConditions (wakeGauges (takeUpSpeed (clearResidues (startPulses s))))

theorem wakeFront_parts (s : State) : wakeFront s = wakeMeasures (startSupervision (wakeStores (wakeLink s))) := rfl

theorem wakeStores_taken (s : State) : Taken s (wakeStores s) := wakeSlots_taken (setStage 1 s)

theorem wakeMeasures_outer (s : State) : Outer s (wakeMeasures s) := by
  have hspeed : Outer s (takeUpSpeed (clearResidues (startPulses s))) :=
    ((startPulses_outer s).trans (clearResidues_taken _).outer).trans (takeUpSpeed_aside _).outer
  exact (hspeed.trans (wakeGauges_outer _)).trans (takeUpConditions_aside _).outer

theorem wakeRunOn_aside (s : State) : Aside s (wakeRunOn s) := Aside.ite (Aside.refl s) (startRunOn_aside s)

/-- Wake in RUN from the doors on. -/
def wakeLines (s : State) : State := wakeRunOn (raiseOpenLoads (takeUpRest s))

theorem wakeLines_aside (s : State) : Aside s (wakeLines s) :=
  ((takeUpRest_aside s).trans (raiseOpenLoads_aside _)).trans (wakeRunOn_aside _)

theorem wake_of_run {s : State} (h : s.isRun = true) : wake s = wakeLines (wakeFront s) := wake_eq_of_run h

/-- Wake in SETUP after its first step. -/
def wakeIdle (s : State) : State := wakeRunOn (raiseOpenLoads (wakeGauges (clearResidues (wakeSlots s))))

theorem wake_of_setup {s : State} (h : s.isRun = false) : wake s = wakeIdle (wakeLink s) := wake_eq_of_setup h

theorem wakeIdle_taken (s : State) : Taken s (wakeIdle s) :=
  (((wakeSlots_taken s).trans (clearResidues_taken _)).trans (wakeGauges_aside _).taken).trans
    ((raiseOpenLoads_aside _).trans (wakeRunOn_aside _)).taken

/-- After its first step wake keeps all but what the blocks, the classifier and the pulse inputs hold. -/
theorem wake_outer (s : State) : Outer (wakeLink s) (wake s) := by
  cases hrun : s.isRun with
  | true =>
    rw [wake_of_run hrun, wakeFront_parts]
    exact (((wakeStores_taken _).outer.trans (startSupervision_outer _)).trans (wakeMeasures_outer _)).trans
      (wakeLines_aside _).outer
  | false =>
    rw [wake_of_setup hrun]
    exact (wakeIdle_taken _).outer

/-- The entries' hits are as they were. -/
def HitsKept (s t : State) : Prop := ∀ e : Fin 128, t.matchTable[e].hits = s.matchTable[e].hits

theorem HitsKept.trans {a b c : State} (h : HitsKept a b) (h' : HitsKept b c) : HitsKept a c :=
  fun e => (h' e).trans (h e)

theorem Taken.hits {s t : State} (h : Taken s t) : HitsKept s t :=
  fun e => h.project (·.matchTable[e].hits) fun _ => rfl

theorem startSupervision_hits (s : State) : HitsKept s (startSupervision s) := fun e => by
  rw [startSupervision, vmap_get]

theorem wakeMeasures_hits (s : State) : HitsKept s (wakeMeasures s) := by
  have hpulses : HitsKept s (clearResidues (startPulses s)) := fun _ => rfl
  exact hpulses.trans (((takeUpSpeed_aside _).trans (wakeGauges_aside _)).trans (takeUpConditions_aside _)).taken.hits

theorem wake_hits (s : State) : HitsKept (wakeLink s) (wake s) := by
  cases hrun : s.isRun with
  | true =>
    rw [wake_of_run hrun, wakeFront_parts]
    exact (((wakeStores_taken _).hits.trans (startSupervision_hits _)).trans (wakeMeasures_hits _)).trans
      (wakeLines_aside _).taken.hits
  | false =>
    rw [wake_of_setup hrun]
    exact (wakeIdle_taken _).hits

theorem wake_tables (s : State) : (wake s).tables = s.tables :=
  (wake_runs (k := { Scope.powering with permit := False }) trivial trivial trivial s).tables id

/-- With the ignition off the run-on timer runs after wake. -/
theorem wakeRunOn_runOn {s : State} (h : s.ignition.accepted = false) : (wakeRunOn s).runOn ≠ none := by
  rw [wakeRunOn, if_neg (by rw [h]; decide), startRunOn_runOn]
  exact nofun

theorem wake_runOn {s : State} (h : s.ignition.accepted = false) : (wake s).runOn ≠ none := by
  have hign : (wake s).ignition.accepted = false := ((wake_outer s).project (·.ignition.accepted) fun _ => rfl).trans h
  obtain ⟨a, ha⟩ : ∃ a, wake s = wakeRunOn a := by
    cases hrun : s.isRun with
    | true => exact ⟨_, wake_eq_of_run hrun⟩
    | false => exact ⟨_, wake_eq_of_setup hrun⟩
  rw [ha] at hign ⊢
  exact wakeRunOn_runOn (((wakeRunOn_aside a).taken.project (·.ignition.accepted) fun _ => rfl).symm.trans hign)

/-! ### The gauges (R80) -/

/-- The gauge has begun homing. -/
def State.homes (s : State) (g : Fin 6) : Prop := s.gauges[g].state = .homing ∧ s.gauges[g].attempt = 1

theorem Held.homes {s t : State} (h : Held s t) {g : Fin 6} (hs : s.homes g) : t.homes g := by
  have hcourse := h.gauge g
  unfold GaugeUnit.sameCourse at hcourse
  unfold State.homes at hs ⊢
  rw [hcourse]
  exact hs

theorem wakeGauges_homes {s : State} {g : Fin 6} (h : s.gauges[g].entry.enabled = true) : (wakeGauges s).homes g := by
  unfold wakeGauges
  refine Held.homes
    (s := { s with
      flashOrigin := s.now
      gauges := vmap ({ s with flashOrigin := s.now } : State).wokenGauge s.gauges })
    (clearCodes_busy (place := True) _ _).held ?_
  obtain ⟨x, hx⟩ := homed_eq ({ s with flashOrigin := s.now } : State) s.gauges[g]
  unfold State.homes
  dsimp only
  rw [vmap_get, State.wokenGauge, if_pos h, hx]
  exact ⟨rfl, rfl⟩

theorem takeUpConditions_held (s : State) : Held s (takeUpConditions s) := by
  refine Held.trans ?_ (evaluateAll_quiet _).held
  exact Held.apart rfl rfl rfl

theorem setStage_held (n : Nat) (s : State) : Held s (setStage n s) := Held.apart rfl rfl rfl

theorem takeUpRest_held (s : State) : Held s (takeUpRest s) := by
  have hdoors : Held s (takeUpDoors s) := (setStage_held 4 s).trans (setUpDoors_busy _).held
  have htelltales (a : State) : Held a (takeUpTelltales a) :=
    (setStage_held 5 a).trans (lightTelltales_quiet (.inr le_rfl)).held
  have hlines (a : State) : Held a (takeUpLines a) := (setStage_held 6 a).trans (redrive_held _)
  exact (hdoors.trans (htelltales _)).trans (hlines _)

theorem raiseOpenLoads_held (s : State) : Held s (raiseOpenLoads s) :=
  each_rel Held Held.refl Held.trans _ (fun k a => by
    split
    · exact raiseFault_held _ _ a
    · exact Held.refl a) s

theorem wakeRunOn_held (s : State) : Held s (wakeRunOn s) := by
  unfold wakeRunOn
  split
  · exact Held.refl s
  · exact Held.apart rfl rfl rfl

theorem wakeLines_held (s : State) : Held s (wakeLines s) :=
  ((takeUpRest_held s).trans (raiseOpenLoads_held _)).trans (wakeRunOn_held _)

theorem gauge_entry_of_tables {s t : State} (h : t.tables = s.tables) (g : Fin 6) :
    t.gauges[g].entry = s.gauges[g].entry := of_map_eq GaugeUnit.entry (congrArg Tables.gauge h) g

theorem door_entry_of_tables {s t : State} (h : t.tables = s.tables) (d : Fin 4) :
    t.doors[d].entry = s.doors[d].entry := of_map_eq DoorUnit.entry (congrArg Tables.door h) d

/-- What wake adds to the closed scope: the stage, the power and the link. -/
def Scope.waking : Scope := { Scope.powering with permit := False }

/-- Wake in RUN up to the gauges. -/
def wakeBegin (s : State) : State :=
  takeUpSpeed (clearResidues (startPulses (startSupervision (wakeStores (wakeLink s)))))

theorem wakeFront_begin (s : State) : wakeFront s = takeUpConditions (wakeGauges (wakeBegin s)) := rfl

theorem wakeBegin_tables (s : State) : (wakeBegin s).tables = s.tables := by
  have hstores : Runs Scope.waking s (wakeStores (wakeLink s)) :=
    ((wakeLink_runs trivial trivial s).trans (setStage_runs trivial 1 _)).trans (wakeSlots_runs _)
  have hruns := ((hstores.trans (startSupervision_runs _)).trans (startPulses_runs _)).trans
    ((Runs.busy (clearResidues_busy _)).trans (takeUpSpeed_runs trivial _))
  exact hruns.tables id

theorem wakeSetup_tables (s : State) : (clearResidues (wakeSlots (wakeLink s))).tables = s.tables :=
  (((wakeLink_runs (k := Scope.waking) trivial trivial s).trans (wakeSlots_runs _)).trans
    (.busy (clearResidues_busy _))).tables id

theorem wakeFront_tables (s : State) : (wakeFront s).tables = s.tables :=
  ((wakeLink_runs (k := Scope.waking) trivial trivial s).trans (wakeFront_runs trivial s)).tables id

/-- Every enabled gauge begins homing at wake. -/
theorem wake_homes {s : State} {g : Fin 6} (h : s.gauges[g].entry.enabled = true) : (wake s).homes g := by
  cases hrun : s.isRun with
  | true =>
    have hen : (wakeBegin s).gauges[g].entry.enabled = true := by
      rw [gauge_entry_of_tables (wakeBegin_tables s)]
      exact h
    rw [wake_of_run hrun, wakeFront_begin]
    exact ((takeUpConditions_held _).trans (wakeLines_held _)).homes (wakeGauges_homes hen)
  | false =>
    have hen : (clearResidues (wakeSlots (wakeLink s))).gauges[g].entry.enabled = true := by
      rw [gauge_entry_of_tables (wakeSetup_tables s)]
      exact h
    rw [wake_of_setup hrun]
    exact ((raiseOpenLoads_held _).trans (wakeRunOn_held _)).homes (wakeGauges_homes hen)

/-! ### The doors (R145) -/

/-- The door stands as its accepted levels derive it. -/
def State.doorStands (s : State) (d : Fin 4) : Prop :=
  s.doors[d].state = (s.readLevels d).derived ∧ s.doors[d].released = false ∧ s.doors[d].openCommand = false

theorem enter_fields (u : DoorUnit) (st : DoorState) (s : State) (hr : u.released = false) (hc : u.openCommand = false) :
    (u.enter st s).state = st ∧ (u.enter st s).released = false ∧ (u.enter st s).openCommand = false := by
  cases st with
  | fault | emergency => exact ⟨rfl, rfl, rfl⟩
  | _ => exact ⟨rfl, hr, hc⟩

theorem setUpDoor_fields {s : State} {d : Fin 4} (h : s.doors[d].entry.enabled = true) :
    (s.setUpDoor d).state = (s.readLevels d).derived ∧ (s.setUpDoor d).released = false ∧
      (s.setUpDoor d).openCommand = false := by
  unfold State.setUpDoor
  dsimp only
  rw [if_pos h]
  exact enter_fields _ _ s rfl rfl

/-- Doors alone were changed, and not this one. -/
def DoorsBut (d : Fin 4) (a b : State) : Prop := ∃ v, b = { a with doors := v } ∧ v[d] = a.doors[d]

theorem putDoor_doorsBut {d i : Fin 4} (h : i ≠ d) (u : DoorUnit) (s : State) : DoorsBut d s (putDoor i u s) :=
  ⟨_, rfl, vput_other _ _ (Ne.symm h)⟩

theorem setUpEach_doors (d : Fin 4) (s : State) :
    ∃ a, DoorsBut d s a ∧ (each 4 (fun d s => putDoor d (s.setUpDoor d) s) s).doors[d] = a.setUpDoor d := by
  obtain ⟨a, ha, hrest⟩ := each_at (DoorsBut d) (fun a => ⟨a.doors, rfl, rfl⟩)
    (fun h h' => by
      obtain ⟨v, rfl, hv⟩ := h
      obtain ⟨w, rfl, hw⟩ := h'
      exact ⟨w, rfl, hw.trans hv⟩) (fun d s => putDoor d (s.setUpDoor d) s) d
    (fun i a hi => putDoor_doorsBut hi _ a) s
  refine ⟨a, ha, ?_⟩
  obtain ⟨w, hw, hsame⟩ := hrest
  rw [hw, hsame]
  exact vput_same _ _ _

theorem setUpEffects_doors (d : Fin 4) (s : State) : (setUpEffects d s).doors = s.doors := by
  unfold setUpEffects
  split
  · exact ((placeIf_tell _ _ _).project (·.doors) rfl).trans ((raiseFault_told _ _ s).project (·.doors) rfl)
  · exact (raiseFault_told _ _ s).project (·.doors) rfl
  · exact (clearForced_told d s).project (·.doors) rfl
  · rfl

theorem setUpDoors_doors (s : State) :
    (setUpDoors s).doors = (each 4 (fun d s => putDoor d (s.setUpDoor d) s) s).doors := by
  unfold setUpDoors
  dsimp only
  rw [publishAllDoors_doors]
  exact each_rel (fun a b : State => b.doors = a.doors) (fun _ => rfl) (fun h h' => h'.trans h) _ setUpEffects_doors _

/-- An enabled door is derived from its levels as they stand. -/
theorem setUpDoors_fields {s : State} {d : Fin 4} (h : s.doors[d].entry.enabled = true) :
    (setUpDoors s).doors[d].state = (s.readLevels d).derived ∧ (setUpDoors s).doors[d].released = false ∧
      (setUpDoors s).doors[d].openCommand = false := by
  obtain ⟨a, ⟨v, rfl, hv⟩, hdoor⟩ := setUpEach_doors d s
  rw [setUpDoors_doors, hdoor]
  refine setUpDoor_fields (s := { s with doors := v }) ?_
  show v[d].entry.enabled = true
  rw [hv, h]

theorem takeUpDoors_fields {s : State} {d : Fin 4} (h : s.doors[d].entry.enabled = true) :
    (takeUpDoors s).doors[d].state = (s.readLevels d).derived ∧ (takeUpDoors s).doors[d].released = false ∧
      (takeUpDoors s).doors[d].openCommand = false := setUpDoors_fields (s := setStage 4 s) h

theorem wakeLines_doors (s : State) : (wakeLines s).doors = (takeUpDoors s).doors := by
  have htelltales (a : State) : (takeUpTelltales a).doors = a.doors := (lightTelltales_tell (setStage 5 a)).doors
  have hlines (a : State) : (takeUpLines a).doors = a.doors := (redrive_tell (setStage 6 a)).doors
  have hrest : (takeUpRest s).doors = (takeUpDoors s).doors := by rw [takeUpRest, hlines, htelltales]
  have hloads (a : State) : (raiseOpenLoads a).doors = a.doors :=
    each_rel (fun a b : State => b.doors = a.doors) (fun _ => rfl) (fun h h' => h'.trans h) _ (fun k a => by
      split
      · exact (raiseFault_told _ _ a).project (·.doors) rfl
      · rfl) a
  have hrun (a : State) : (wakeRunOn a).doors = a.doors := by
    unfold wakeRunOn
    split
    · rfl
    · rfl
  rw [wakeLines, hrun, hloads, hrest]

theorem readLevels_of_inputs {s t : State} (h : t.inputs = s.inputs) (d : Fin 4) : t.readLevels d = s.readLevels d := by
  simp only [State.readLevels, State.doorLevel, h]

/-- At wake in RUN every enabled door is derived from the levels as they then stand. -/
theorem wake_doors {s : State} (hrun : s.isRun = true) {d : Fin 4} (h : s.doors[d].entry.enabled = true) :
    (wake s).doorStands d := by
  have hinputs : (wake s).inputs = (wakeFront s).inputs := by
    rw [wake_of_run hrun]
    exact (wakeLines_aside _).taken.project (·.inputs) fun _ => rfl
  have hen : (wakeFront s).doors[d].entry.enabled = true := by
    rw [door_entry_of_tables (wakeFront_tables s)]
    exact h
  have hdoors : (wake s).doors = (takeUpDoors (wakeFront s)).doors := by rw [wake_of_run hrun, wakeLines_doors]
  unfold State.doorStands
  rw [readLevels_of_inputs hinputs, hdoors]
  exact takeUpDoors_fields hen

/-! ### The sources (R204) -/

theorem wake_project {α : Type} (s : State) (f : State → α) (hf : ∀ a : State, f a.outer = f a) :
    f (wake s) = f (wakeLink s) := (wake_outer s).project f hf

/-- What a wake source leaves, told from the state it found. -/
structure Wakes (s t : State) : Prop where
  power : t.power = .active
  mode : t.mode = s.mode
  tables : t.tables = s.tables
  base : t.base = s.now
  egress : t.link.egress = []
  ingress : t.link.ingress = []
  label : t.label = s.label
  ignition : t.ignition = s.ignition
  cycles : t.cycles = s.cycles
  ports : t.ports = s.ports
  inputs : t.inputs = s.inputs
  tallies : Tallied s t

theorem wake_wakes (s : State) : Wakes s (wake s) := by
  have h := wake_outer s
  exact ⟨h.project (·.power) fun _ => rfl, h.project (·.mode) fun _ => rfl, wake_tables s,
    h.project (·.base) fun _ => rfl, h.project (·.link.egress) fun _ => rfl, h.project (·.link.ingress) fun _ => rfl,
    h.project (·.label) fun _ => rfl, h.project (·.ignition) fun _ => rfl, h.project (·.cycles) fun _ => rfl,
    h.project (·.ports) fun _ => rfl, h.project (·.inputs) fun _ => rfl, h.project (·.speed.total) fun _ => rfl,
    h.project (·.speed.delta) fun _ => rfl, h.project (·.service.served) fun _ => rfl⟩

theorem inactive_of_parked {s : State} (h : s.power = .parked) : s.isActive = false := by
  rw [State.isActive, h]
  decide

/-- A PARKED part takes no request but WAKE. -/
theorem requestArrives_parked {s : State} (h : s.power = .parked) (tag : Byte) {r : Request} (hr : r ≠ .wake) :
    requestArrives tag r s = s := by
  have hact := inactive_of_parked h
  cases r with
  | wake => exact absurd rfl hr
  | _ => exact if_neg (by rw [hact]; decide)

theorem requestArrives_wake {s : State} (h : s.power = .parked) (tag : Byte) :
    requestArrives tag .wake s = joinResponse tag 0x0A .ok .none (wake s) :=
  if_neg (by rw [inactive_of_parked h]; decide)

/-- A response that joins is the egress queue's alone. -/
theorem joinResponse_after_wake (tag : Byte) (s : State) :
    joinResponse tag 0x0A .ok .none (wake s) = putEgress [.response tag 0x0A .ok .none] (wake s) := by
  have hempty : (wake s).link.egress = [] := wake_project s (·.link.egress) fun _ => rfl
  rw [joinResponse, hempty]
  rfl

theorem receiveFrame_parked {s : State} (h : s.power = .parked) (p : Fin 3) (f : RxFrame) :
    receiveFrame p f s =
      if s.ports[p].entry.enabled && s.ports[p].entry.wakeEnabled then wake (countReception p s) else s :=
  if_neg (by rw [inactive_of_parked h]; decide)

/-- A door's function wakes a PARKED part if it is the emergency or the closed one. -/
theorem wakesPart_iff (f : DoorFunction) : wakesPart f = true ↔ f = .emergency ∨ f = .closed := by
  cases f with
  | emergency => exact ⟨fun _ => .inl rfl, fun _ => rfl⟩
  | closed => exact ⟨fun _ => .inr rfl, fun _ => rfl⟩
  | _ => exact ⟨nofun, fun h => by rcases h with h | h <;> cases h⟩

/-- What an accepted change does in PARKED: it wakes the part, or is no more than accepted. -/
theorem deliverLine_parked {s : State} (h : s.power = .parked) (l : Fin 24) :
    (∀ f d, s.inputs[l].entry.function = .door f d → deliverLine l s = if wakesPart f then wake s else s) ∧
      ((∀ f d, s.inputs[l].entry.function ≠ .door f d) → deliverLine l s = s) := by
  have hact := inactive_of_parked h
  have hrun : s.running = false := by rw [State.running, hact, Bool.and_false]
  refine ⟨fun f d hf => ?_, fun hf => ?_⟩
  · unfold deliverLine
    simp only [hf, hact, Bool.not_false, if_true]
  · cases hfun : s.inputs[l].entry.function with
    | door f d => exact absurd hfun (hf f d)
    | _ => simp only [deliverLine, hfun, hact, hrun, Bool.false_and, Bool.false_eq_true, if_false]

/-- An ignition accepted on wakes a PARKED part, and is an ignition-on event after it. -/
theorem acceptIgnition_parked {s : State} {start : Nat} (hparked : s.power = .parked)
    (h : s.ignition.pending = some start) (hdue : start + 50000 ≤ s.now) (hf : s.ignition.first = true)
    (ha : s.ignition.accepted = false) : acceptIgnition s = ignitionOn
      (wake (putIgnition { s.ignition with accepted := true, pending := none, first := true, offHold := none } s)) := by
  have hheld : s.held50 s.ignition.pending = true := by
    rw [h]
    exact (held50_iff s start).mpr hdue
  have hwake (i : Ignition) : wakeIfParked (putIgnition i s) = wake (putIgnition i s) :=
    if_neg (by rw [inactive_of_parked (s := putIgnition i s) hparked]; decide)
  unfold acceptIgnition
  rw [if_pos hheld]
  simp only [ha, hf, hwake, Bool.not_false, Bool.not_true, Bool.false_eq_true, if_true, if_false]

theorem retargeted_homing (s : State) (u : GaugeUnit) : (s.retargeted u).state = u.state ∧
    (s.retargeted u).attempt = u.attempt := by
  unfold State.retargeted
  split
  · exact ⟨rfl, rfl⟩
  · split
    · exact ⟨rfl, rfl⟩
    · exact ⟨rfl, rfl⟩

/-- A gauge that is homing goes on at ignition on. -/
theorem ignitionOnGauge_homing (s : State) {u : GaugeUnit} (h : u.state = .homing) :
    (s.ignitionOnGauge u).state = .homing ∧ (s.ignitionOnGauge u).attempt = u.attempt := by
  unfold State.ignitionOnGauge
  split
  · exact ⟨h, rfl⟩
  · simp only [h]
    obtain ⟨hstate, hattempt⟩ := retargeted_homing s u
    exact ⟨hstate.trans h, hattempt⟩

theorem gaugesOn_homes {s : State} {g : Fin 6} (h : s.homes g) : (gaugesOn s).homes g := by
  obtain ⟨hstate, hattempt⟩ := h
  obtain ⟨hs, ha⟩ := ignitionOnGauge_homing s hstate
  unfold State.homes
  rw [gaugesOn, vmap_get]
  exact ⟨hs, ha.trans hattempt⟩

theorem counted_held (s : State) : Held s (counted s) := by
  have hcycles (a : State) (n : Nat) : Held a { a with cycles := n } := Held.apart rfl rfl rfl
  exact (publish_held slotIgnition _ s).trans ((hcycles _ _).trans (publish_held slotIgnitionCycles _ _))

theorem liftLockouts_homes {s : State} {g : Fin 6} (h : s.homes g) : (liftLockouts s).homes g := by
  unfold State.homes
  rw [liftLockouts, redrive_gauges]
  exact h

theorem healed_homes {s : State} {g : Fin 6} (h : s.homes g) : (healed s).homes g := h

theorem ignitionOn_homes {s : State} {g : Fin 6} (h : s.homes g) : (ignitionOn s).homes g := by
  have hignited : (ignited s).homes g := gaugesOn_homes (liftLockouts_homes (healed_homes ((counted_held s).homes h)))
  rw [ignitionOn_eq]
  split
  · exact (beginBulb_held _).homes hignited
  · exact hignited

/-- What moved keeps where the part is, and what lies around the blocks. -/
theorem Moved.place {s t : State} (h : Moved s t) : t.power = s.power ∧ t.mode = s.mode ∧ t.base = s.base :=
  ⟨h.stored.project (·.power) rfl, h.stored.project (·.mode) rfl, h.stored.project (·.base) rfl⟩

theorem Moved.surroundings {s t : State} (h : Moved s t) :
    t.link = s.link ∧ t.label = s.label ∧ t.ports = s.ports ∧ t.inputs = s.inputs :=
  ⟨h.stored.project (·.link) rfl, h.stored.project (·.label) rfl, h.stored.project (·.ports) rfl,
    h.stored.project (·.inputs) rfl⟩

theorem countReception_tables (p : Fin 3) (s : State) : (countReception p s).tables = s.tables :=
  (countReception_runs (k := Scope.closed) p s).tables id

theorem counted_tallies (s : State) : Tallied s (counted s) :=
  Tallied.trans (b := { s with cycles := bump16 s.cycles }) ⟨rfl, rfl, rfl⟩ (counted_tell s).tallies

theorem healed_tallies (s : State) : Tallied s (healed s) := ⟨rfl, rfl, rfl⟩

theorem beginBulb_tallies (s : State) : Tallied s (beginBulb s) :=
  Tallied.trans (b := { s with bulb := some (s.after s.system.bulbTime) }) ⟨rfl, rfl, rfl⟩ (beginBulb_tell s).tallies

theorem ignitionOn_tallies (s : State) : Tallied s (ignitionOn s) := by
  have hignited : Tallied s (ignited s) :=
    ((counted_tallies s).trans (healed_tallies _)).trans (ignited_tell s).tallies
  rw [ignitionOn_eq]
  split
  · exact hignited.trans (beginBulb_tallies _)
  · exact hignited

theorem lineAccepted_tables (l : Fin 24) (s : State) : (s.lineAccepted l).tables = s.tables :=
  (putInput_runs (k := Scope.closed) (l := l) (s := s)
    (u := { s.inputs[l] with accepted := !s.inputs[l].accepted, pending := none }) rfl).tables id

/-- In RUN an ignition-on event begins the bulb check after the wake. -/
theorem wake_bulb {s : State} (h : s.isRun = true) :
    (ignitionOn (wake s)).bulb = some (s.after s.system.bulbTime) := by
  have hrun : (wake s).isRun = true := (wake_project s (·.isRun) fun _ => rfl).trans h
  rw [ignitionOn_bulb hrun, wake_project s (·.system) fun _ => rfl]
  exact congrArg some (wake_project s (·.after s.system.bulbTime) fun _ => rfl)

/-- Settles O19. -/
theorem wakeSourcesWakeAParkedPart : Obligations.WakeSourcesWakeAParkedPart := by
  refine ⟨fun s dt tag hreset hparked => ⟨?_, fun i r hi hr => ?_⟩, fun s dt p f hreset hparked => ⟨fun hen hwake => ?_,
    fun hno => ?_⟩, fun s dt start hreset hparked hf ha hp hdue => ?_, fun s dt start l hreset hparked hp hdue => ?_⟩
  · have hexec : exec (.wake dt tag) s = .next (requestArrives tag .wake (s.elapse dt)) := event_of_awake hreset
    have hparked' : (s.elapse dt).power = .parked := hparked
    rw [requestArrives_wake hparked', joinResponse_after_wake] at hexec
    have h := wake_wakes (s.elapse dt)
    exact ⟨_, hexec, h.power, h.mode, h.tables, h.base, rfl, h.ingress,
      (wake_outer (s.elapse dt)).project (·.link.timer) fun _ => rfl, fun g hg => wake_homes (s := s.elapse dt) hg,
      fun hoff => wake_runOn (s := s.elapse dt) hoff, h.label, h.ignition, h.cycles, h.ports, h.inputs, h.tallies.total,
      h.tallies.delta⟩
  · have hparked' : (s.elapse i.dt).power = .parked := hparked
    rw [exec_request hi, event_of_awake hreset, requestArrives_parked hparked' tag hr]
  · have hexec : exec (.frameReceivedParked dt p f) s = .next (receiveFrame p f (s.elapse dt)) := event_of_awake hreset
    have hparked' : (s.elapse dt).power = .parked := hparked
    have hboth : ((s.elapse dt).ports[p].entry.enabled && (s.elapse dt).ports[p].entry.wakeEnabled) = true :=
      Bool.and_eq_true_iff.mpr ⟨hen, hwake⟩
    rw [receiveFrame_parked hparked', if_pos hboth] at hexec
    have h := wake_wakes (countReception p (s.elapse dt))
    exact ⟨_, hexec, h.power, h.mode, h.base, h.ports, wake_hits _, h.tallies.served,
      h.tables.trans (countReception_tables p _), h.label, h.ignition, h.cycles, h.inputs, h.tallies.total, h.tallies.delta⟩
  · have hexec : exec (.frameReceivedParked dt p f) s = .next (receiveFrame p f (s.elapse dt)) := event_of_awake hreset
    have hparked' : (s.elapse dt).power = .parked := hparked
    rw [hexec, receiveFrame_parked hparked', State.elapse_ports, if_neg (by rw [hno]; decide)]
  · have hexec : exec (.ignitionDebounceEnd dt) s = .next (ignitionOn (wake (s.ignitionAt dt true))) :=
      (event_of_awake hreset).trans (congrArg _ (acceptIgnition_parked (s := s.elapse dt) hparked hp hdue hf ha))
    have h := wake_wakes (s.ignitionAt dt true)
    have hon := ignitionOn_ignites (wake (s.ignitionAt dt true))
    obtain ⟨hpower, hmode, hbase⟩ := hon.moved.place
    obtain ⟨hlink, hlabel, hports, hinputs⟩ := hon.moved.surroundings
    have htallies := h.tallies.trans (ignitionOn_tallies _)
    refine ⟨_, hexec, hpower.trans h.power, hmode.trans h.mode, hbase.trans h.base, hon.moved.ignition.trans h.ignition,
      hon.ignition, ?_, hon.runOn, fun hm => ?_, fun g hg => ignitionOn_homes (wake_homes hg), ?_, ?_,
      hon.moved.tables.trans h.tables, hlabel.trans h.label, hports.trans h.ports, hinputs.trans h.inputs,
      htallies.total, htallies.delta⟩
    · rw [hon.moved.cycles]
      exact congrArg bump16 h.cycles
    · exact wake_bulb (decide_eq_true hm)
    · rw [hlink, h.egress]
    · rw [hlink, h.ingress]
  · have hexec : exec (.debounceEnd dt l) s = .next (deliverLine l ((s.elapse dt).lineAccepted l)) :=
      (event_of_awake hreset).trans (congrArg _ (debounceEnd_due (s := s.elapse dt) hp hdue))
    obtain ⟨hdoor, hother⟩ := deliverLine_parked (s := (s.elapse dt).lineAccepted l) hparked l
    have hfun : ((s.elapse dt).lineAccepted l).inputs[l].entry.function = s.inputs[l].entry.function := by
      rw [show ((s.elapse dt).lineAccepted l).inputs[l] = _ from vput_same _ _ _, State.elapse_inputs]
    refine ⟨fun d hd => ?_, fun hno => ?_⟩
    · have hwakes : deliverLine l ((s.elapse dt).lineAccepted l) = wake ((s.elapse dt).lineAccepted l) := by
        rcases hd with hd | hd
        · exact (hdoor _ _ (hfun.trans hd)).trans (if_pos rfl)
        · exact (hdoor _ _ (hfun.trans hd)).trans (if_pos rfl)
      have h := wake_wakes ((s.elapse dt).lineAccepted l)
      exact ⟨_, hexec.trans (congrArg _ hwakes), h.power, h.mode, h.base, h.inputs,
        fun hm j hj => wake_doors (s := (s.elapse dt).lineAccepted l) (decide_eq_true hm) hj, h.egress, h.ingress,
        h.tables.trans (lineAccepted_tables l _), h.label, h.ports, h.ignition, h.cycles, h.tallies.total, h.tallies.delta⟩
    · have hstays : deliverLine l ((s.elapse dt).lineAccepted l) = (s.elapse dt).lineAccepted l := by
        by_cases hd : ∃ f d, s.inputs[l].entry.function = .door f d
        · obtain ⟨f, d, hd⟩ := hd
          have hf : ¬ wakesPart f = true := fun hw => by
            obtain ⟨hemergency, hclosed⟩ := hno d
            rcases (wakesPart_iff f).mp hw with rfl | rfl
            · exact hemergency hd
            · exact hclosed hd
          exact (hdoor f d (hfun.trans hd)).trans (if_neg hf)
        · exact hother fun f d hfd => hd ⟨f, d, hfun.symm.trans hfd⟩
      exact hexec.trans (congrArg _ hstays)

end Sys2Proof.Machine
end

section
/-! PROOFS. Input lines (R114, R115, R39, R100, R142): their debounce, and what an accepted change does by its function. -/

namespace Sys2Proof.Machine

/-! ### The debounce (R114) -/

section
variable {l : Fin 24} {s : State}

/-- A line back at its accepted level has no pending change. -/
theorem inputLine_return : inputLine l s.inputs[l].accepted s =
    putInput l { s.inputs[l] with line := s.inputs[l].accepted, pending := none } s := by
  simp only [inputLine, if_true, putInput, vput_vput]

/-- A line that leaves its accepted level begins a pending change. -/
theorem inputLine_leave {level : Bool} (hlevel : level ≠ s.inputs[l].accepted) (hp : s.inputs[l].pending = none)
    (hd : s.inputs[l].entry.debounce ≠ 0) : inputLine l level s =
      putInput l { s.inputs[l] with line := level, pending := some s.now } s := by
  simp only [inputLine, if_neg hlevel, hp, Option.isSome_none, Bool.false_eq_true, if_false, beginPending, putInput,
    vput_same, if_neg hd, vput_vput]

/-! ### Delivery by function (R115) -/

theorem deliverLine_unused (h : s.inputs[l].entry.function = .unused) : deliverLine l s = s := by
  simp only [deliverLine, h]

theorem deliverLine_ack (h : s.inputs[l].entry.function = .ackButton) : deliverLine l s =
    if s.isActive && s.inputs[l].active then (acknowledge s).2.2 else s := by
  simp only [deliverLine, h]

theorem deliverLine_stop (h : s.inputs[l].entry.function = .stopRequest) : deliverLine l s =
    if s.running && s.inputs[l].active then pressStop s else s := by
  simp only [deliverLine, h]

theorem deliverLine_generic (h : s.inputs[l].entry.function = .generic) : deliverLine l s =
    if s.running then deliverInput l s else s := by
  simp only [deliverLine, h]

/-- In SETUP every change but a button's acknowledge is no more than accepted. -/
theorem deliverLine_setup (hm : s.isRun = false) (hact : s.isActive = true)
    (h : s.inputs[l].entry.function ≠ .ackButton) : deliverLine l s = s := by
  have hrun : s.running = false := by rw [State.running, hm, Bool.false_and]
  cases hf : s.inputs[l].entry.function with
  | unused => exact deliverLine_unused hf
  | ackButton => exact absurd hf h
  | stopRequest => rw [deliverLine_stop hf, hrun, Bool.false_and, if_neg Bool.false_ne_true]
  | generic => rw [deliverLine_generic hf, hrun, if_neg Bool.false_ne_true]
  | door f d => simp only [deliverLine, hf, hact, hm, Bool.not_true, Bool.false_eq_true, if_false]

end

/-! ### The stop-request latch (R142) -/

/-- What a press sets before its chime. -/
def latched (s : State) : State := publish slotStopRequested 1 { s with stopLatch := true }

theorem pressStop_new {s : State} (h : s.stopLatch = false) :
    pressStop s = placeIf stopRequester s.system.stopChime (latched s) := if_neg (by rw [h]; decide)

/-- A press sets the latch and publishes it. -/
theorem pressStop_effect (s : State) : (pressStop s).stopLatch = true ∧
    (s.stopLatch = false → (pressStop s).slots[slotStopRequested].value = 1) ∧ (pressStop s).doors = s.doors ∧
      Moved s (pressStop s) := by
  cases h : s.stopLatch with
  | true =>
    have hno : pressStop s = s := if_pos h
    rw [hno]
    exact ⟨h, nofun, rfl, Moved.refl s⟩
  | false =>
    rw [pressStop_new h]
    have htell : Tell { s with stopLatch := true } (placeIf stopRequester s.system.stopChime (latched s)) :=
      (publish_tell (by decide) 1 _).trans (placeIf_tell _ _ _)
    have hmoved : Moved s { s with stopLatch := true } :=
      moved_interlock (dp := s.drivePermit) (sb := s.stopBrake) (ro := s.runOn)
    refine ⟨htell.project (·.stopLatch) rfl, fun _ => ?_, htell.doors, hmoved.trans htell.moved⟩
    rw [placeIf_slots]
    exact publish_value _ _ _

/-! ### The INPUT slots of a line (R39) -/

/-- The slot takes the level of the line. -/
def State.followsLine (s : State) (k : Fin 240) (l : Fin 24) : Bool := s.descs[k].kind = .input && s.descs[k].line = l.val

def inputVisit (l : Fin 24) (k : Fin 240) (s : State) : State := if s.followsLine k l then writeInputSlot k s else s

theorem deliverInput_eq (l : Fin 24) (s : State) : deliverInput l s = each 240 (inputVisit l) s := rfl

section
variable {k : Fin 240} {l : Fin 24} {s : State}

theorem followsLine_iff : s.followsLine k l = true ↔ s.descs[k].kind = .input ∧ s.descs[k].line = l.val := by
  simp [State.followsLine]

theorem followsLine_of_descs {s a : State} (h : a.descs = s.descs) (k : Fin 240) (l : Fin 24) :
    a.followsLine k l = s.followsLine k l := by
  rw [State.followsLine, State.followsLine, h]

theorem writeInputSlot_eq (h : s.followsLine k l = true) : writeInputSlot k s =
    storeValue k (bit s.inputs[l].active) (scaled s.descs[k] (bit s.inputs[l].active)) s := by
  obtain ⟨hkind, hline⟩ := followsLine_iff.mp h
  simp only [writeInputSlot, hkind, hline, unit?_val]

theorem inputVisit_other {j : Fin 240} (h : j ≠ k) (l : Fin 24) (s : State) :
    Stored s (inputVisit l j s) ∧ (inputVisit l j s).record k = s.record k := by
  unfold inputVisit
  split
  · next hj =>
    rw [writeInputSlot_eq hj]
    exact ⟨storeValue_stored _ _ _ s, storeValue_other s h.symm _ _⟩
  · exact ⟨Stored.refl s, rfl⟩

/-- Each slot is visited once. -/
theorem deliverInput_visit (k : Fin 240) (l : Fin 24) (s : State) :
    ∃ a, Stored s a ∧ a.record k = s.record k ∧ (deliverInput l s).record k = (inputVisit l k a).record k := by
  obtain ⟨a, ⟨ha, hrec⟩, -, hrest⟩ := each_at (fun a b => Stored a b ∧ b.record k = a.record k)
    (fun a => ⟨Stored.refl a, rfl⟩) (fun hab hbc => ⟨hab.1.trans hbc.1, hbc.2.trans hab.2⟩)
    (inputVisit l) k (fun j a hj => inputVisit_other hj l a) s
  exact ⟨a, ha, hrec, by rw [deliverInput_eq, hrest]⟩

/-- A slot that follows the line takes its level. -/
theorem deliverInput_value (h : s.followsLine k l = true) :
    ((deliverInput l s).record k).state = .valid ∧ ((deliverInput l s).record k).raw = bit s.inputs[l].active ∧
      ((deliverInput l s).record k).value = limited s.descs[k] (scaled s.descs[k] (bit s.inputs[l].active)) := by
  obtain ⟨a, ha, -, hend⟩ := deliverInput_visit k l s
  have hdescs : a.descs = s.descs := ha.project (·.descs) rfl
  have hinputs : a.inputs = s.inputs := ha.project (·.inputs) rfl
  have hfollows : a.followsLine k l = true := (followsLine_of_descs hdescs k l).trans h
  obtain ⟨n, hsame⟩ := storeValue_same (k := k) a (bit a.inputs[l].active) (scaled a.descs[k] (bit a.inputs[l].active))
  rw [hend, inputVisit, if_pos hfollows, writeInputSlot_eq hfollows, hsame, hdescs, hinputs]
  exact ⟨rfl, rfl, rfl⟩

theorem deliverInput_other (h : s.followsLine k l = false) : (deliverInput l s).record k = s.record k := by
  obtain ⟨a, ha, hrec, hend⟩ := deliverInput_visit k l s
  have hdescs : a.descs = s.descs := ha.project (·.descs) rfl
  have hfollows : ¬ a.followsLine k l = true := by
    rw [followsLine_of_descs hdescs, h]
    decide
  rw [hend, inputVisit, if_neg hfollows, hrec]

end

/-! ### A debounced change -/

section
variable {l : Fin 24} {s : State} {dt start : Nat}

theorem lineAccepted_function (dt : Nat) (l : Fin 24) (s : State) :
    ((s.elapse dt).lineAccepted l).inputs[l].entry.function = s.inputs[l].entry.function := by
  rw [show ((s.elapse dt).lineAccepted l).inputs[l] = _ from vput_same _ _ _, State.elapse_inputs]

variable (hawake : s.awake = true) (hp : s.inputs[l].pending = some start)
  (hdue : start + 1000 * s.inputs[l].entry.debounce ≤ s.now + dt)
include hawake hp hdue

/-- A line's change that is no more than accepted. -/
theorem exec_debounced_alone (h : deliverLine l ((s.elapse dt).lineAccepted l) = (s.elapse dt).lineAccepted l) :
    exec (.debounceEnd dt l) s = .next ((s.elapse dt).lineAccepted l) := by
  rw [exec_debounceEnd hawake hp hdue, h]

theorem exec_debounced_ack (hf : s.inputs[l].entry.function = .ackButton) : exec (.debounceEnd dt l) s = .next
    (if s.inputs[l].nextActive then (acknowledge ((s.elapse dt).lineAccepted l)).2.2
     else (s.elapse dt).lineAccepted l) := by
  have hact : ((s.elapse dt).lineAccepted l).isActive = true := (s.awake_iff.mp hawake).2
  rw [exec_debounceEnd hawake hp hdue, deliverLine_ack ((lineAccepted_function dt l s).trans hf), hact, Bool.true_and,
    lineAccepted_active, State.elapse_inputs]

theorem exec_debounced_stop (hf : s.inputs[l].entry.function = .stopRequest) (hm : s.mode = .run) :
    exec (.debounceEnd dt l) s = .next (if s.inputs[l].nextActive then pressStop ((s.elapse dt).lineAccepted l)
      else (s.elapse dt).lineAccepted l) := by
  have hrun : ((s.elapse dt).lineAccepted l).running = true :=
    Bool.and_eq_true_iff.mpr ⟨decide_eq_true hm, (s.awake_iff.mp hawake).2⟩
  rw [exec_debounceEnd hawake hp hdue, deliverLine_stop ((lineAccepted_function dt l s).trans hf), hrun, Bool.true_and,
    lineAccepted_active, State.elapse_inputs]

theorem exec_debounced_generic (hf : s.inputs[l].entry.function = .generic) (hm : s.mode = .run) :
    exec (.debounceEnd dt l) s = .next (deliverInput l ((s.elapse dt).lineAccepted l)) := by
  have hrun : ((s.elapse dt).lineAccepted l).running = true :=
    Bool.and_eq_true_iff.mpr ⟨decide_eq_true hm, (s.awake_iff.mp hawake).2⟩
  rw [exec_debounceEnd hawake hp hdue, deliverLine_generic ((lineAccepted_function dt l s).trans hf), if_pos hrun]

end

/-! ### What the lines that are no door's do -/

section
variable {l : Fin 24} {s : State} {dt start : Nat} (hawake : s.awake = true) (hp : s.inputs[l].pending = some start)
  (hdue : start + 1000 * s.inputs[l].entry.debounce ≤ s.now + dt)
include hawake hp hdue

theorem exec_debounced_ack_idle (hf : s.inputs[l].entry.function = .ackButton)
    (h : s.inputs[l].nextActive = false ∨ s.ackClass = none) :
    exec (.debounceEnd dt l) s = .next ((s.elapse dt).lineAccepted l) := by
  rw [exec_debounced_ack hawake hp hdue hf]
  split
  · next hactive =>
    have hnone : ((s.elapse dt).lineAccepted l).ackClass = none :=
      h.resolve_left fun hno => Bool.false_ne_true (hno.symm.trans hactive)
    rw [acknowledge_none hnone]
  · rfl

theorem exec_debounced_ack_press {c : TelltaleClass} (hf : s.inputs[l].entry.function = .ackButton)
    (hactive : s.inputs[l].nextActive = true) (hc : s.ackClass = some c) :
    ∃ t, exec (.debounceEnd dt l) s = .next t ∧ Sounds (((s.elapse dt).lineAccepted l).acknowledged c) t ∧
      Tell ((s.elapse dt).lineAccepted l) t := by
  obtain ⟨t, hsounds, hack⟩ := acknowledge_some (s := (s.elapse dt).lineAccepted l) hc
  have htell := acknowledge_tell ((s.elapse dt).lineAccepted l)
  rw [hack] at htell
  refine ⟨t, ?_, hsounds, htell⟩
  rw [exec_debounced_ack hawake hp hdue hf, if_pos hactive, hack]

theorem exec_debounced_setup (hm : s.mode = .setup) (hf : s.inputs[l].entry.function ≠ .ackButton) :
    exec (.debounceEnd dt l) s = .next ((s.elapse dt).lineAccepted l) := by
  refine exec_debounced_alone hawake hp hdue (deliverLine_setup ?_ (s.awake_iff.mp hawake).2 ?_)
  · show s.isRun = false
    rw [State.isRun, hm]
    decide
  · rw [lineAccepted_function dt l s]
    exact hf

end

end Sys2Proof.Machine
end

section
/-! PROOFS. The movement of a door by its inputs (R128 to R136), and the input lines (O39). -/

namespace Sys2Proof.Machine

/-! ### The state a door enters (Table 7.3) -/

theorem enter_of_after {a b : State} (h : ∀ n, a.after n = b.after n) (u : DoorUnit) (st : DoorState) :
    u.enter st a = u.enter st b := by
  cases st with
  | unlocked | opening | closing => simp only [DoorUnit.enter, h]
  | _ => rfl

theorem enter_state (u : DoorUnit) (st : DoorState) (s : State) : (u.enter st s).state = st := by
  cases st with
  | _ => rfl

/-! ### A door's change, told from the state before its input -/

/-- The door's record, its slot and its flag, from `v` on. -/
structure DoorStands (d : Fin 4) (y : DoorUnit) (v t : State) : Prop where
  door : t.doors[d] = y
  other : ∀ j, j ≠ d → t.doors[j] = v.doors[j]
  slot : t.slots[slotDoorState d].value = y.state.code
  flag : t.flag .door = true
  moved : Moved v t

/-- `a` is `v` but for the door's record, which is `u`. -/
structure DoorHolds (d : Fin 4) (u : DoorUnit) (v a : State) : Prop where
  door : a.doors[d] = u
  other : ∀ j, j ≠ d → a.doors[j] = v.doors[j]
  moved : Moved v a

namespace DoorHolds

variable {d : Fin 4} {u y : DoorUnit} {v a t : State}

theorem becomes (h : DoorHolds d u v a) (ht : DoorBecomes d y a t) : DoorStands d y v t :=
  ⟨ht.door, fun j hj => (ht.other hj).trans (h.other j hj), ht.slot, ht.flag, h.moved.trans ht.moved⟩

theorem enter (h : DoorHolds d u v a) (st : DoorState) : a.doors[d].enter st a = u.enter st v := by
  rw [h.door]
  exact enter_of_after (fun n => h.moved.project (·.after n) rfl) u st

theorem told (h : DoorHolds d u v a) (ht : Told a t) : DoorHolds d u v t := by
  have hdoors : t.doors = a.doors := ht.project (·.doors) rfl
  exact ⟨(congrArg (fun ds : Vector DoorUnit 4 => ds[d]) hdoors).trans h.door,
    fun j hj => (congrArg (fun ds : Vector DoorUnit 4 => ds[j]) hdoors).trans (h.other j hj), h.moved.trans ht.moved⟩

end DoorHolds

theorem levelNoted_holds (d : Fin 4) (f : DoorFunction) (active : Bool) (v : State) :
    DoorHolds d { v.doors[d] with levels := v.doors[d].levels.set f active } v (v.levelNoted d f active) :=
  ⟨levelNoted_door d f active v, fun _ hj => levelNoted_other hj f active v, levelNoted_moved d f active v⟩

/-! ### Faults and the latch at a passage -/

/-- A passage up to what its new state does. -/
def passed (d : Fin 4) (u : DoorUnit) (s : State) : State :=
  if s.doors[d].state = .closing then
    withdrawRequest (doorRequester d) (handOnDoor d s.doors[d].state (putDoor d u s))
  else handOnDoor d s.doors[d].state (putDoor d u s)

theorem passed_faults (d : Fin 4) (u : DoorUnit) (s : State) : (passed d u s).faults = s.faults := by
  unfold passed
  split
  · rw [(withdrawRequest_tell _ _).faults, handOnDoor_faults]
    rfl
  · rw [handOnDoor_faults]
    rfl

theorem moveDoor_closedLocked {d : Fin 4} {u : DoorUnit} (s : State) (h : u.state = .closedLocked) :
    moveDoor d u s = clearForced d (passed d u s) := by
  simp only [moveDoor, h, passed]

theorem moveDoor_opened {d : Fin 4} {u : DoorUnit} (s : State) (h : u.state = .opened) :
    moveDoor d u s = clearStopLatch (passed d u s) := by
  simp only [moveDoor, h, passed]

/-- A passage leaves the live set but for the two faults that CLOSED_LOCKED clears. -/
theorem moveDoor_isLive {c : FaultCode} (hforced : c ≠ .doorForced) (hobstructed : c ≠ .doorObstructed)
    (src : Option Nat) (d : Fin 4) (u : DoorUnit) (s : State) :
    (moveDoor d u s).isLive c src = s.isLive c src := by
  by_cases hstate : u.state = .closedLocked
  · have hkeeps := clearForced_keeps (ks := [slotActiveFaults]) (cs := [.doorForced, .doorObstructed]) d (passed d u s)
      (by simp) (by simp) (by simp)
    rw [moveDoor_closedLocked s hstate, hkeeps.live c src (by simp [hforced, hobstructed]), State.isLive, passed_faults]
    rfl
  · rw [State.isLive, moveDoor_faults s hstate]
    rfl

/-- An entry into OPEN clears the stop-request latch. -/
theorem moveDoor_stopLatch {d : Fin 4} {u : DoorUnit} (s : State) (h : u.state = .opened) :
    (moveDoor d u s).stopLatch = false := by
  rw [moveDoor_opened s h, clearStopLatch_stopLatch]

theorem clearDoorFaults_keeps (d : Fin 4) (s : State) :
    Keeps [slotActiveFaults] [.doorOpenTimeout, .doorCloseTimeout, .doorSwitchConflict] s (clearDoorFaults d s) :=
  ((clearFault_keeps _ s (by simp) (by simp)).trans (clearFault_keeps _ _ (by simp) (by simp))).trans
    (clearFault_keeps _ _ (by simp) (by simp))

theorem clearDoorFaults_length (d : Fin 4) (s : State) :
    (clearDoorFaults d s).faults.live.length ≤ s.faults.live.length :=
  ((clearFault_length _ _ _).trans (clearFault_length _ _ _)).trans (clearFault_length _ _ _)

theorem clearFault_active (c : FaultCode) (src : Option Nat) (s : State) : (clearFault c src s).isActive = s.isActive :=
  (clearFault_told c src s).project (·.isActive) rfl

/-- A clear leaves the pairs of other codes. -/
theorem clearFault_otherLive {c c' : FaultCode} (h : c' ≠ c) (src src' : Option Nat) (s : State) :
    (clearFault c src s).isLive c' src' = s.isLive c' src' :=
  (clearFault_keeps_self c src s).live c' src' (by simpa using h)

theorem clearDoorFaults_isLive (d : Fin 4) {s : State} (hact : s.isActive = true) :
    (clearDoorFaults d s).isLive .doorOpenTimeout (doorSource d) = false ∧
      (clearDoorFaults d s).isLive .doorCloseTimeout (doorSource d) = false ∧
        (clearDoorFaults d s).isLive .doorSwitchConflict (doorSource d) = false := by
  have hact1 : (clearFault .doorOpenTimeout (doorSource d) s).isActive = true := (clearFault_active _ _ s).trans hact
  have hact2 := (clearFault_active .doorCloseTimeout (doorSource d) _).trans hact1
  refine ⟨?_, ?_, clearFault_isLive _ _ hact2⟩
  · rw [clearDoorFaults, clearFault_otherLive (by decide), clearFault_otherLive (by decide)]
    exact clearFault_isLive _ _ hact
  · rw [clearDoorFaults, clearFault_otherLive (by decide)]
    exact clearFault_isLive _ _ hact1

/-! ### EMERGENCY, conflict and derivation (R128, R133, R136) -/

/-- The faults of FAULT are cleared where the door leaves it. -/
def leaveFaults (d : Fin 4) (old : DoorState) (s : State) : State := if old = .fault then clearDoorFaults d s else s

theorem leaveFaults_told (d : Fin 4) (old : DoorState) (s : State) : Told s (leaveFaults d old s) :=
  Told.ite (clearDoorFaults_told d s) (Told.refl s)

theorem leaveFaults_keeps (d : Fin 4) (old : DoorState) (s : State) :
    Keeps [slotActiveFaults] [.doorOpenTimeout, .doorCloseTimeout, .doorSwitchConflict] s (leaveFaults d old s) :=
  Keeps.ite (clearDoorFaults_keeps d s) (Keeps.refl s)

theorem leaveFaults_length (d : Fin 4) (old : DoorState) (s : State) :
    (leaveFaults d old s).faults.live.length ≤ s.faults.live.length := by
  unfold leaveFaults
  split
  · exact clearDoorFaults_length d s
  · exact le_rfl

/-- The chime of EMERGENCY. -/
def emergencyChime (d : Fin 4) (p : Option Nat) (s : State) : State :=
  match p with
  | some p => placeRequest (doorRequester d) p s
  | none => withdrawRequest (doorRequester d) s

theorem emergencyChime_tell (d : Fin 4) (p : Option Nat) (s : State) : Tell s (emergencyChime d p s) := by
  cases p with
  | some p => exact placeRequest_tell _ _ s
  | none => exact withdrawRequest_tell _ s

theorem emergencyChime_keeps {ks : List (Fin 256)} {cs : List FaultCode} (d : Fin 4) (p : Option Nat) (s : State) :
    Keeps ks cs s (emergencyChime d p s) := by
  cases p with
  | some p => exact placeRequest_keeps _ _ s
  | none => exact withdrawRequest_keeps _ s

/-- EMERGENCY handed on. -/
def emergencyEntered (d : Fin 4) (s : State) : State :=
  handOnDoor d s.doors[d].state (putDoor d (s.doors[d].enter .emergency s) s)

theorem enterEmergency_eq (d : Fin 4) (s : State) : enterEmergency d s =
    emergencyChime d s.doors[d].entry.emergencyChime
      (raiseFault .doorEmergency (doorSource d) (leaveFaults d s.doors[d].state (emergencyEntered d s))) := rfl

theorem enterEmergency_becomes (d : Fin 4) (s : State) :
    DoorBecomes d (s.doors[d].enter .emergency s) s (enterEmergency d s) := by
  have hentered : DoorBecomes d (s.doors[d].enter .emergency s) s (emergencyEntered d s) :=
    handOnDoor_becomes _ (enter_entry _ _ _)
  rw [enterEmergency_eq]
  exact ((hentered.told (leaveFaults_keeps d _ _) (leaveFaults_told d _ _)).told (raiseFault_keeps_self _ _ _)
    (raiseFault_told _ _ _)).tell (emergencyChime_keeps (cs := []) d _ _) (emergencyChime_tell d _ _)

theorem emergencyEntered_faults (d : Fin 4) (s : State) : (emergencyEntered d s).faults = s.faults :=
  handOnDoor_faults d _ _

theorem enterEmergency_isLive (d : Fin 4) {s : State} (hact : s.isActive = true) (hroom : s.faults.live.length < 48) :
    (enterEmergency d s).isLive .doorEmergency (doorSource d) = true := by
  have hentered : DoorBecomes d (s.doors[d].enter .emergency s) s (emergencyEntered d s) :=
    handOnDoor_becomes _ (enter_entry _ _ _)
  have hactive : (leaveFaults d s.doors[d].state (emergencyEntered d s)).isActive = true :=
    ((hentered.moved.trans (leaveFaults_told d _ _).moved).project (·.isActive) rfl).trans hact
  have hlength : (leaveFaults d s.doors[d].state (emergencyEntered d s)).faults.live.length < 48 := by
    refine (leaveFaults_length d _ _).trans_lt ?_
    rw [emergencyEntered_faults]
    exact hroom
  rw [enterEmergency_eq, (emergencyChime_keeps (ks := []) (cs := []) d _ _).live _ _ (by simp)]
  exact raiseFault_isLive _ _ hactive hlength

theorem conflict_becomes (d : Fin 4) (s : State) : DoorBecomes d (s.doors[d].enter .fault s) s (conflict d s) :=
  (goDoor_becomes d .fault s).told (raiseFault_keeps_self _ _ _) (raiseFault_told _ _ _)

theorem goDoor_faults {d : Fin 4} {st : DoorState} (s : State) (h : st ≠ .closedLocked) :
    (goDoor d st s).faults = s.faults := moveDoor_faults s (by rwa [enter_state])

theorem goDoor_active (d : Fin 4) (st : DoorState) (s : State) : (goDoor d st s).isActive = s.isActive :=
  (goDoor_becomes d st s).moved.project (·.isActive) rfl

/-- A fault raised as a door passes to another state than CLOSED_LOCKED joins the live set where it has room. -/
theorem raised_goDoor_isLive {d : Fin 4} {st : DoorState} (c : FaultCode) {s : State} (hst : st ≠ .closedLocked)
    (hact : s.isActive = true) (hroom : s.faults.live.length < 48) :
    (raiseFault c (doorSource d) (goDoor d st s)).isLive c (doorSource d) = true :=
  raiseFault_isLive _ _ ((goDoor_active d st s).trans hact) (by rw [goDoor_faults s hst]; exact hroom)

theorem deriveDoor_becomes (d : Fin 4) (s : State) :
    DoorBecomes d (s.doors[d].enter s.doors[d].levels.derived s) s (deriveDoor d s) := by
  unfold deriveDoor
  split
  · next h =>
    rw [h]
    exact enterEmergency_becomes d s
  · next h =>
    rw [h]
    exact conflict_becomes d s
  · exact goDoor_becomes d _ s

/-- A derivation to another state than EMERGENCY leaves DOOR_EMERGENCY as it is. -/
theorem deriveDoor_isLive {d : Fin 4} {s : State} (h : s.doors[d].levels.derived ≠ .emergency) :
    (deriveDoor d s).isLive .doorEmergency (doorSource d) = s.isLive .doorEmergency (doorSource d) := by
  unfold deriveDoor
  split
  · next he => exact absurd he h
  · rw [conflict, (raiseFault_keeps_self _ _ _).live _ _ (by decide)]
    exact moveDoor_isLive (by decide) (by decide) _ _ _ _
  · exact moveDoor_isLive (by decide) (by decide) _ _ _ _

end Sys2Proof.Machine
end

section
/-! PROOFS. A door's inputs (R115, R129 to R136): what each accepted change makes of the door, and the input lines (O39). -/

namespace Sys2Proof.Machine

/-! ### The movement by the switches -/

/-- The moves of a door in no conflict (R129 to R131), but for the completion of a cycle. -/
def SwitchMoves (x : DoorState) (l : DoorLevels) (f : DoorFunction) (active : Bool) (st : DoorState) : Prop :=
  (x = .closedLocked ∧ f = .locked ∧ active = false ∧ st = .unlocked) ∨
    (x = .unlocked ∧ f = .locked ∧ active = true ∧ l.closed = true ∧ st = .closedLocked) ∨
    ((x = .closedLocked ∨ x = .unlocked) ∧ f = .closed ∧ active = false ∧ st = .opening) ∨
    (x = .opening ∧ f = .openEnd ∧ active = true ∧ st = .opened) ∨
    (x = .opening ∧ f = .closed ∧ active = true ∧ l.locked = true ∧ st = .closedLocked) ∨
    (x = .opening ∧ f = .closed ∧ active = true ∧ l.locked = false ∧ st = .unlocked) ∨
    (x = .opened ∧ f = .openEnd ∧ active = false ∧ st = .closing) ∨
    (x = .closing ∧ f = .openEnd ∧ active = true ∧ st = .opened) ∨
    (x = .closing ∧ f = .closed ∧ active = true ∧ l.locked = false ∧ st = .unlocked)

/-- A door that its switches may move. -/
def Movable (x : DoorState) : Prop := x ≠ .disabled ∧ x ≠ .emergency ∧ x ≠ .fault

/-- A switch of the door: neither the emergency input nor a button. -/
def IsSwitch (f : DoorFunction) : Prop :=
  f ≠ .emergency ∧ f ≠ .releaseRequest ∧ f ≠ .openRequest ∧ f ≠ .closeRequest

section
variable {d : Fin 4} {f : DoorFunction} {active : Bool} {st : DoorState} {s : State}

theorem SwitchMoves.start {x : DoorState} {l : DoorLevels} (h : SwitchMoves x l f active st) :
    Movable x ∧ IsSwitch f := by
  unfold SwitchMoves at h
  unfold Movable IsSwitch
  rcases h with ⟨rfl, rfl, -⟩ | ⟨rfl, rfl, -⟩ | ⟨rfl | rfl, rfl, -⟩ | ⟨rfl, rfl, -⟩ | ⟨rfl, rfl, -⟩ | ⟨rfl, rfl, -⟩ |
    ⟨rfl, rfl, -⟩ | ⟨rfl, rfl, -⟩ | ⟨rfl, rfl, -⟩
  all_goals decide

theorem moveBySwitch_moves (h : SwitchMoves s.doors[d].state s.doors[d].levels f active st) :
    moveBySwitch d f active s = if st = .opening then openByHand d s else goDoor d st s := by
  unfold SwitchMoves at h
  rcases h with ⟨hx, rfl, rfl, rfl⟩ | ⟨hx, rfl, rfl, hl, rfl⟩ | ⟨hx | hx, rfl, rfl, rfl⟩ | ⟨hx, rfl, rfl, rfl⟩ |
    ⟨hx, rfl, rfl, hl, rfl⟩ | ⟨hx, rfl, rfl, hl, rfl⟩ | ⟨hx, rfl, rfl, rfl⟩ | ⟨hx, rfl, rfl, rfl⟩ | ⟨hx, rfl, rfl, hl, rfl⟩
  all_goals simp only [moveBySwitch, *, if_true, if_false, reduceCtorEq, Bool.false_eq_true]

theorem moveBySwitch_completes (hx : s.doors[d].state = .closing) (hl : s.doors[d].levels.locked = true) :
    moveBySwitch d .closed true s = completeClosing d s := by
  simp only [moveBySwitch, hx, hl, if_true]

theorem moveBySwitch_reverses (hx : s.doors[d].state = .closing) :
    moveBySwitch d .obstruction true s = reverseDoor d s := by
  simp only [moveBySwitch, hx]

theorem doorInput_switch (hf : IsSwitch f) :
    doorInput d f active s = switchChange d f active (s.levelNoted d f active) := by
  obtain ⟨he, hr, ho, hc⟩ := hf
  cases f with
  | emergency => exact absurd rfl he
  | releaseRequest => exact absurd rfl hr
  | openRequest => exact absurd rfl ho
  | closeRequest => exact absurd rfl hc
  | _ => rfl

theorem switchChange_moves (hx : Movable s.doors[d].state)
    (hclash : ¬(s.doors[d].levels.closed = true ∧ s.doors[d].levels.openEnd = true)) :
    switchChange d f active s = moveBySwitch d f active s := by
  obtain ⟨hd, he, hf⟩ := hx
  have hno : ¬ (s.doors[d].levels.closed && s.doors[d].levels.openEnd) = true := fun h => hclash (Bool.and_eq_true_iff.mp h)
  unfold switchChange
  split
  · next h => exact absurd h hd
  · next h => exact absurd h he
  · next h => exact absurd h hf
  · exact if_neg hno

theorem switchChange_conflict (hx : Movable s.doors[d].state)
    (hclash : s.doors[d].levels.closed = true ∧ s.doors[d].levels.openEnd = true) :
    switchChange d f active s = conflict d s := by
  obtain ⟨hd, he, hf⟩ := hx
  unfold switchChange
  split
  · next h => exact absurd h hd
  · next h => exact absurd h he
  · next h => exact absurd h hf
  · exact if_pos (Bool.and_eq_true_iff.mpr hclash)

theorem switchChange_recovers (hx : s.doors[d].state = .fault)
    (hl : s.doors[d].levels.closed ≠ s.doors[d].levels.openEnd) (hf : f = .closed ∨ f = .locked ∨ f = .openEnd) :
    switchChange d f active s = clearDoorFaults d (deriveDoor d s) := by
  have hno : ¬ (s.doors[d].levels.closed && s.doors[d].levels.openEnd) = true := fun h => by
    obtain ⟨h1, h2⟩ := Bool.and_eq_true_iff.mp h
    exact hl (h1.trans h2.symm)
  have hleave : leaveFault d f s = clearDoorFaults d (deriveDoor d s) := if_pos ⟨hf, hl⟩
  simp only [switchChange, hx, if_neg hno, hleave]

theorem switchChange_disabled (hx : s.doors[d].state = .disabled) : switchChange d f active s = s := by
  simp only [switchChange, hx]

end

theorem openByHand_eq (d : Fin 4) (s : State) : openByHand d s =
    if !s.doors[d].released && !s.doors[d].openCommand then
      raiseFault .doorForced (doorSource d) (goDoor d .opening s)
    else goDoor d .opening s := rfl

/-! ### What an accepted change makes of the door -/

/-- The door with a level noted. -/
def DoorUnit.noted (u : DoorUnit) (f : DoorFunction) (active : Bool) : DoorUnit :=
  { u with levels := u.levels.set f active }

theorem setFields_becomes {d : Fin 4} {y : DoorUnit} {s t : State} (h : DoorBecomes d y s t) (hy : y.state ≠ .unlocked)
    (r o : Bool) : DoorBecomes d { y with released := r, openCommand := o } s (setFields d r o t) := by
  have hdoor := h.door
  have hmoved := setFields_moved d r o t
  have hkeeps := setFields_keeps (ks := [slotAnyDoorOpen, slotDrivePermit, slotActiveFaults, slotStopRequested])
    (cs := []) d r o t (by simp) (by simp)
  refine ⟨?_, (congrArg SlotRec.value (hkeeps.slots _ (slotDoorState_apart d))).trans h.slot, hkeeps.flags _ h.flag,
    h.moved.trans hmoved⟩
  have hdeadline : (if y.state = .unlocked then
      (if r then none else if y.released then some (t.after y.entry.closeMax) else y.deadline)
      else y.deadline) = y.deadline := if_neg hy
  have hset : (setFields d r o t).doors = vput t.doors d { y with released := r, openCommand := o } := by
    unfold setFields
    dsimp only
    rw [hdoor, hdeadline]
    split
    · next hsame =>
      obtain ⟨rfl, rfl⟩ := hsame
      rw [← hdoor]
      exact (vput_getElem_id t.doors d).symm
    · rw [publishDoors_doors]
      rfl
  rw [hset, h.doors, vput_vput]

section
variable {d : Fin 4} {f : DoorFunction} {active : Bool} {v : State}

theorem DoorHolds.stands {u y y' : DoorUnit} {a t : State} (h : DoorHolds d u v a) (ht : DoorBecomes d y' a t)
    (hy : y' = y) : DoorStands d y v t := hy ▸ h.becomes ht

theorem noted_holds (d : Fin 4) (f : DoorFunction) (active : Bool) (v : State) :
    DoorHolds d (v.doors[d].noted f active) v (v.levelNoted d f active) := levelNoted_holds d f active v

theorem room_iff (s : State) : s.hasRoom = true ↔ s.faults.live.length < 48 := decide_eq_true_iff

/-- R129 to R131. -/
theorem doorInput_moves {st : DoorState} (hact : v.isActive = true)
    (hclash : ¬((v.doors[d].noted f active).levels.closed = true ∧ (v.doors[d].noted f active).levels.openEnd = true))
    (h : SwitchMoves v.doors[d].state (v.doors[d].noted f active).levels f active st) :
    DoorStands d ((v.doors[d].noted f active).enter st v) v (doorInput d f active v) ∧
      (st = .opened → (doorInput d f active v).stopLatch = false) ∧
      (st = .opening → v.doors[d].released = false → v.doors[d].openCommand = false → v.hasRoom = true →
        (doorInput d f active v).isLive .doorForced (some d.val) = true) := by
  obtain ⟨hmoves, hswitch⟩ := h.start
  have hholds := noted_holds d f active v
  have hdoor := hholds.door
  have hgo := goDoor_becomes d st (v.levelNoted d f active)
  have henter := hholds.enter st
  have hstep : doorInput d f active v = if st = .opening then openByHand d (v.levelNoted d f active)
      else goDoor d st (v.levelNoted d f active) := by
    rw [doorInput_switch hswitch, switchChange_moves (by rw [hdoor]; exact hmoves) (by rw [hdoor]; exact hclash)]
    exact moveBySwitch_moves (by rw [hdoor]; exact h)
  rw [hstep]
  by_cases hst : st = .opening
  · subst hst
    rw [if_pos rfl, openByHand_eq, hdoor]
    split
    · exact ⟨hholds.stands (hgo.told (raiseFault_keeps_self _ _ _) (raiseFault_told _ _ _)) henter, nofun,
        fun _ _ _ hroom => raised_goDoor_isLive .doorForced (by decide) hact ((room_iff v).mp hroom)⟩
    · next hno =>
      refine ⟨hholds.stands hgo henter, nofun, fun _ hr hc _ => absurd ?_ hno⟩
      rw [DoorUnit.noted, hr, hc]
      rfl
  · rw [if_neg hst]
    refine ⟨hholds.stands hgo henter, fun ho => ?_, fun ho => absurd ho hst⟩
    exact moveDoor_stopLatch _ (by rw [enter_state, ho])

/-- A moving door in no conflict is moved by its switches. -/
theorem doorInput_bySwitch (hf : IsSwitch f) (hx : Movable v.doors[d].state)
    (hclash : ¬((v.doors[d].noted f active).levels.closed = true ∧ (v.doors[d].noted f active).levels.openEnd = true)) :
    doorInput d f active v = moveBySwitch d f active (v.levelNoted d f active) := by
  have hdoor := (noted_holds d f active v).door
  rw [doorInput_switch hf, switchChange_moves]
  · rw [hdoor]
    exact hx
  · rw [hdoor]
    exact hclash

theorem movable_closing {x : DoorState} (h : x = .closing) : Movable x := by
  rw [h]
  unfold Movable
  decide

/-- A door without its emergency input is not derived EMERGENCY (Table 7.4). -/
theorem derived_ne_emergency {l : DoorLevels} (h : l.emergency = false) : l.derived ≠ .emergency := by
  unfold DoorLevels.derived
  rw [if_neg (by rw [h]; decide)]
  split_ifs
  all_goals decide

/-- The record of a door that completes a cycle. -/
def completed (u : DoorUnit) (v : State) : DoorUnit :=
  { u.enter .closedLocked v with
    cycles := bump32 u.cycles
    openCommand := false }

theorem completeClosing_eq (d : Fin 4) (s : State) : completeClosing d s = moveDoor d (completed s.doors[d] s) s := rfl

/-- R131: the cycle is completed. -/
theorem doorInput_completes (hf : f = .closed) (ha : active = true) (hx : v.doors[d].state = .closing)
    (hclash : ¬((v.doors[d].noted f active).levels.closed = true ∧ (v.doors[d].noted f active).levels.openEnd = true))
    (hl : (v.doors[d].noted f active).levels.locked = true) :
    DoorStands d (completed (v.doors[d].noted f active) v) v (doorInput d f active v) := by
  subst hf ha
  have hholds := noted_holds d .closed true v
  have hdoor := hholds.door
  rw [doorInput_bySwitch (by unfold IsSwitch; decide) (movable_closing hx) hclash,
    moveBySwitch_completes (by rw [hdoor]; exact hx) (by rw [hdoor]; exact hl), completeClosing_eq]
  refine hholds.stands (moveDoor_becomes rfl) ?_
  unfold completed
  rw [hholds.enter, hdoor]

/-- The record of a door that an obstruction reverses. -/
def reversed (u : DoorUnit) (v : State) : DoorUnit :=
  { u.enter .opening v with
    reversals := bump8 u.reversals
    obstructions := bump32 u.obstructions }

theorem reverseDoor_eq (d : Fin 4) (s : State) : reverseDoor d s =
    if s.doors[d].entry.reversalLimit < bump8 s.doors[d].reversals then
      setFields d false true (raiseFault .doorObstructed (doorSource d) (moveDoor d (reversed s.doors[d] s) s))
    else moveDoor d (reversed s.doors[d] s) s := rfl

/-- R132: an obstruction reverses a CLOSING door, and holds it open after one reversal too many. -/
theorem doorInput_reverses (hf : f = .obstruction) (ha : active = true) (hact : v.isActive = true) (hx : v.doors[d].state = .closing)
    (hclash : ¬((v.doors[d].noted f active).levels.closed = true ∧
      (v.doors[d].noted f active).levels.openEnd = true)) :
    (¬ v.doors[d].entry.reversalLimit < bump8 v.doors[d].reversals →
      DoorStands d (reversed (v.doors[d].noted f active) v) v (doorInput d f active v)) ∧
    (v.doors[d].entry.reversalLimit < bump8 v.doors[d].reversals →
      DoorStands d { reversed (v.doors[d].noted f active) v with released := false, openCommand := true } v
        (doorInput d f active v) ∧
      (v.hasRoom = true → (doorInput d f active v).isLive .doorObstructed (some d.val) = true)) := by
  subst hf ha
  have hholds := noted_holds d .obstruction true v
  have hdoor := hholds.door
  have hreversed : reversed (v.levelNoted d .obstruction true).doors[d] (v.levelNoted d .obstruction true) =
      reversed (v.doors[d].noted .obstruction true) v := by
    unfold reversed
    rw [hholds.enter, hdoor]
  have hlimit : (v.levelNoted d .obstruction true).doors[d].entry.reversalLimit = v.doors[d].entry.reversalLimit := by
    rw [hdoor]
    rfl
  have hreversals : (v.levelNoted d .obstruction true).doors[d].reversals = v.doors[d].reversals := by
    rw [hdoor]
    rfl
  have hmove : DoorBecomes d (reversed (v.doors[d].noted .obstruction true) v) (v.levelNoted d .obstruction true)
      (moveDoor d (reversed (v.levelNoted d .obstruction true).doors[d] (v.levelNoted d .obstruction true))
        (v.levelNoted d .obstruction true)) := by
    have h := moveDoor_becomes (d := d) (s := v.levelNoted d .obstruction true)
      (y := reversed (v.levelNoted d .obstruction true).doors[d] (v.levelNoted d .obstruction true)) rfl
    rwa [hreversed] at h ⊢
  rw [doorInput_bySwitch (by unfold IsSwitch; decide) (movable_closing hx) hclash,
    moveBySwitch_reverses (by rw [hdoor]; exact hx), reverseDoor_eq, hlimit, hreversals]
  refine ⟨fun h => ?_, fun h => ⟨?_, fun hroom => ?_⟩⟩
  · rw [if_neg h]
    exact hholds.stands hmove rfl
  · rw [if_pos h]
    have hopening : (reversed (v.doors[d].noted .obstruction true) v).state = .opening := rfl
    have hraised := hmove.told (raiseFault_keeps_self .doorObstructed (doorSource d) _) (raiseFault_told _ _ _)
    exact hholds.stands (setFields_becomes hraised (by rw [hopening]; decide) false true) rfl
  · have hfaults := moveDoor_faults (d := d)
      (y := reversed (v.levelNoted d .obstruction true).doors[d] (v.levelNoted d .obstruction true))
      (v.levelNoted d .obstruction true) (show DoorState.opening ≠ .closedLocked by decide)
    rw [if_pos h, State.isLive, setFields_faults]
    refine raiseFault_isLive _ _ ((hmove.moved.project (·.isActive) rfl).trans hact) ?_
    rw [hfaults]
    exact (room_iff v).mp hroom

/-- R133: a conflict of the end switches. -/
theorem doorInput_conflict (hact : v.isActive = true) (hf : IsSwitch f) (hx : Movable v.doors[d].state)
    (hclash : (v.doors[d].noted f active).levels.closed = true ∧ (v.doors[d].noted f active).levels.openEnd = true) :
    DoorStands d ((v.doors[d].noted f active).enter .fault v) v (doorInput d f active v) ∧
      (v.hasRoom = true → (doorInput d f active v).isLive .doorSwitchConflict (some d.val) = true) := by
  have hholds := noted_holds d f active v
  have hdoor := hholds.door
  have hstep : doorInput d f active v = conflict d (v.levelNoted d f active) := by
    rw [doorInput_switch hf, switchChange_conflict]
    · rw [hdoor]
      exact hx
    · rw [hdoor]
      exact hclash
  rw [hstep]
  exact ⟨hholds.stands (conflict_becomes d _) (hholds.enter .fault),
    fun hroom => raised_goDoor_isLive .doorSwitchConflict (by decide) hact ((room_iff v).mp hroom)⟩

theorem derived_stands (d : Fin 4) (f : DoorFunction) (active : Bool) {v a : State}
    (h : DoorHolds d (v.doors[d].noted f active) v a) :
    DoorStands d ((v.doors[d].noted f active).enter (v.doors[d].noted f active).levels.derived v) v (deriveDoor d a) := by
  refine h.stands (deriveDoor_becomes d a) ?_
  rw [h.enter, h.door]

theorem DoorStands.told {y : DoorUnit} {t u : State} {cs : List FaultCode} (h : DoorStands d y v t)
    (hk : Keeps [slotActiveFaults] cs t u) (ht : Told t u) : DoorStands d y v u := by
  have hdoors : u.doors = t.doors := ht.project (·.doors) rfl
  exact ⟨(congrArg (fun ds : Vector DoorUnit 4 => ds[d]) hdoors).trans h.door,
    fun j hj => (congrArg (fun ds : Vector DoorUnit 4 => ds[j]) hdoors).trans (h.other j hj),
    (congrArg SlotRec.value (hk.slots _ fun hm => slotDoorState_apart d (by simp_all))).trans h.slot,
    hk.flags _ h.flag, h.moved.trans ht.moved⟩

/-- R135: the switches take a door out of FAULT. -/
theorem doorInput_recovers (hact : v.isActive = true) (hx : v.doors[d].state = .fault)
    (hl : (v.doors[d].noted f active).levels.closed ≠ (v.doors[d].noted f active).levels.openEnd)
    (hf : f = .closed ∨ f = .locked ∨ f = .openEnd) :
    DoorStands d ((v.doors[d].noted f active).enter (v.doors[d].noted f active).levels.derived v) v
        (doorInput d f active v) ∧
      (doorInput d f active v).isLive .doorOpenTimeout (some d.val) = false ∧
      (doorInput d f active v).isLive .doorCloseTimeout (some d.val) = false ∧
      (doorInput d f active v).isLive .doorSwitchConflict (some d.val) = false := by
  have hholds := noted_holds d f active v
  have hdoor := hholds.door
  have hswitch : IsSwitch f := by
    unfold IsSwitch
    rcases hf with rfl | rfl | rfl
    all_goals decide
  have hstep : doorInput d f active v = clearDoorFaults d (deriveDoor d (v.levelNoted d f active)) := by
    rw [doorInput_switch hswitch, switchChange_recovers (by rw [hdoor]; exact hx) (by rw [hdoor]; exact hl) hf]
  have hderived := derived_stands d f active hholds
  rw [hstep]
  exact ⟨hderived.told (clearDoorFaults_keeps d _) (clearDoorFaults_told d _),
    clearDoorFaults_isLive d ((hderived.moved.project (·.isActive) rfl).trans hact)⟩

/-- R136: the emergency input takes a door to EMERGENCY. -/
theorem doorInput_emergency (hf : f = .emergency) (ha : active = true) (hact : v.isActive = true) (he : v.doors[d].state ≠ .emergency)
    (hd : v.doors[d].state ≠ .disabled) :
    DoorStands d ((v.doors[d].noted f active).enter .emergency v) v (doorInput d f active v) ∧
      (v.hasRoom = true → (doorInput d f active v).isLive .doorEmergency (some d.val) = true) := by
  subst hf ha
  have hholds := noted_holds d .emergency true v
  have hstep : doorInput d .emergency true v = enterEmergency d (v.levelNoted d .emergency true) :=
    if_neg fun h => h.elim he hd
  rw [hstep]
  exact ⟨hholds.stands (enterEmergency_becomes d _) (hholds.enter .emergency),
    fun hroom => enterEmergency_isLive d hact ((room_iff v).mp hroom)⟩

/-- R128, R136: the emergency input released, the door is derived from its switches. -/
theorem doorInput_emergencyEnds (hf : f = .emergency) (ha : active = false) (hact : v.isActive = true) (hx : v.doors[d].state = .emergency) :
    DoorStands d ((v.doors[d].noted f active).enter (v.doors[d].noted f active).levels.derived v) v
        (doorInput d f active v) ∧
      (doorInput d f active v).isLive .doorEmergency (some d.val) = false := by
  subst hf ha
  have hclear := clearFault_told .doorEmergency (doorSource d) (v.levelNoted d .emergency false)
  have hholds := ((noted_holds d .emergency false v).told hclear).told
    (withdrawRequest_tell (doorRequester d) (clearFault .doorEmergency (doorSource d) (v.levelNoted d .emergency false))).told
  have hstep : doorInput d .emergency false v = deriveDoor d (withdrawRequest (doorRequester d)
      (clearFault .doorEmergency (doorSource d) (v.levelNoted d .emergency false))) := if_pos hx
  have hderived : (v.doors[d].noted .emergency false).levels.derived ≠ .emergency := derived_ne_emergency rfl
  rw [hstep]
  refine ⟨derived_stands d .emergency false hholds, ?_⟩
  have hleft := deriveDoor_isLive (d := d) (s := withdrawRequest (doorRequester d)
      (clearFault .doorEmergency (doorSource d) (v.levelNoted d .emergency false))) (by rw [hholds.door]; exact hderived)
  refine hleft.trans ?_
  rw [(withdrawRequest_keeps (ks := []) (cs := []) (doorRequester d) _).live _ _ (by simp)]
  exact clearFault_isLive _ _ hact

/-- A DISABLED door notes its level alone. -/
theorem doorInput_disabled (hx : v.doors[d].state = .disabled) (hr : f ≠ .releaseRequest) (ho : f ≠ .openRequest)
    (hc : f ≠ .closeRequest) : doorInput d f active v = v.levelNoted d f active := by
  by_cases he : f = .emergency
  · subst he
    cases active with
    | true => exact if_pos (.inr hx)
    | false => exact if_neg (by rw [hx]; decide)
  · rw [doorInput_switch ⟨he, hr, ho, hc⟩, switchChange_disabled]
    rw [levelNoted_door]
    exact hx

end

/-! ### The input lines -/

/-- Accepting a line does not move the clock. -/
theorem enter_lineAccepted (u : DoorUnit) (st : DoorState) (dt : Nat) (l : Fin 24) (s : State) :
    u.enter st ((s.elapse dt).lineAccepted l) = u.enter st (s.elapse dt) := enter_of_after (fun _ => rfl) u st

theorem DoorStands.fields {d : Fin 4} {y y' : DoorUnit} {s t : State} {dt : Nat} {l : Fin 24}
    (h : DoorStands d y ((s.elapse dt).lineAccepted l) t) (hy : y = y') :
    t.doors[d] = y' ∧ (∀ j, j ≠ d → t.doors[j] = s.doors[j]) ∧ t.slots[slotDoorState d].value = y'.state.code ∧
      t.flag .door = true ∧ Moved ((s.elapse dt).lineAccepted l) t := by
  subst hy
  exact ⟨h.door, h.other, h.slot, h.flag, h.moved⟩

/-- Table 7.3: what entering a state makes of a door's record. -/
theorem enter_record (s : State) (x : DoorUnit) (st : DoorState) :
    let y := x.enter st s
    y.state = st ∧ y.entry = x.entry ∧
    (st = .opening → y.deadline = some (s.now + 1000 * x.entry.openMax)) ∧
    (st = .closing → y.deadline = some (s.now + 1000 * x.entry.closeMax)) ∧
    (st = .unlocked → y.deadline = if x.released then none else some (s.now + 1000 * x.entry.closeMax)) ∧
    (st ≠ .opening → st ≠ .closing → st ≠ .unlocked → y.deadline = none) ∧
    y.reversals = (if st = .closedLocked then 0 else x.reversals) ∧
    ((st = .fault ∨ st = .emergency) → y.released = false ∧ y.openCommand = false) ∧
    (st ≠ .fault → st ≠ .emergency → y.released = x.released ∧ y.openCommand = x.openCommand) := by
  cases st with
  | _ => simp [DoorUnit.enter, State.after]

section
variable {s : State} {dt start : Nat} {l : Fin 24} (hawake : s.awake = true)
include hawake

/-- R114, R115, R142: the debounce of a line, and the lines that are unused or request a stop. -/
theorem inputLine_debounced (l : Fin 24) :
    let u := s.inputs[l]
    (∀ level, level ≠ u.accepted → u.pending = none → u.entry.debounce ≠ 0 →
      exec (.inputLineChange dt l level) s = .next { s.elapse dt with
        inputs := vput s.inputs l { u with line := level, pending := some (s.now + dt) } }) ∧
    exec (.inputLineChange dt l u.accepted) s = .next { s.elapse dt with
      inputs := vput s.inputs l { u with line := u.accepted, pending := none } } ∧
    (∀ start, u.pending = some start → start + 1000 * u.entry.debounce ≤ s.now + dt →
      u.entry.function = .unused →
      exec (.debounceEnd dt l) s = .next ((s.elapse dt).lineAccepted l)) ∧
    (∀ start, u.pending = some start → start + 1000 * u.entry.debounce ≤ s.now + dt →
      u.entry.function = .stopRequest → u.nextActive = true → s.mode = .run →
      exec (.debounceEnd dt l) s = .next (pressStop ((s.elapse dt).lineAccepted l))) := by
  have hreset := (s.awake_iff.mp hawake).1
  have hchange (level : Bool) : exec (.inputLineChange dt l level) s = .next (inputLine l level (s.elapse dt)) :=
    pinEvent_of_awake hreset
  refine ⟨fun level hl hp hd => ?_, ?_, fun start hp hdue hf => ?_, fun start hp hdue hf hactive hm => ?_⟩
  · rw [hchange]
    exact congrArg _ (inputLine_leave (s := s.elapse dt) hl hp hd)
  · rw [hchange]
    exact congrArg _ (inputLine_return (s := s.elapse dt))
  · exact exec_debounced_alone hawake hp hdue (deliverLine_unused ((lineAccepted_function dt l s).trans hf))
  · rw [exec_debounced_stop hawake hp hdue hf hm, if_pos hactive]

end

theorem bit_cast (b : Bool) : ((bit b : Nat) : Int) = if b then 1 else 0 := by
  cases b with
  | _ => rfl

/-- Settles O39. -/
theorem inputLinesAreDebounced : Obligations.InputLinesAreDebounced := by
  refine ⟨fun s dt l hawake => ?_, fun s dt start l hawake hp hdue => ?_, enter_record,
    fun s dt start l d f hawake hm hf hp hdue => ?_⟩
  · obtain ⟨hleave, hreturn, hunused, hstop⟩ := inputLine_debounced hawake (dt := dt) l
    refine ⟨hleave, hreturn, hunused, fun start hp hdue hf hpol ha hm => ?_⟩
    have hactive : s.inputs[l].nextActive = true := by
      rw [InputUnit.nextActive, if_pos hpol, ha]
      rfl
    obtain ⟨hlatch, hslot, hdoors, hmoved⟩ := pressStop_effect ((s.elapse dt).lineAccepted l)
    have haccepted : (!s.inputs[l].accepted) = true := by
      rw [ha]
      rfl
    refine ⟨_, hstop start hp hdue hf hactive hm, hlatch, hslot, hdoors, ?_⟩
    rw [← haccepted]
    exact hmoved
  · refine ⟨exec_debounced_ack_idle hawake hp hdue, fun c hfun hactive hc => ?_, fun hfun hactive => ?_,
      fun hfun hm => ⟨_, exec_debounced_generic hawake hp hdue hfun hm, fun k hkind hline => ?_, fun k hno => ?_, ?_⟩,
      exec_debounced_setup hawake hp hdue⟩
    · obtain ⟨t, hexec, hsounds, htell⟩ := exec_debounced_ack_press hawake hp hdue hfun hactive hc
      exact ⟨t, hexec, acknowledged_telltale (s := (s.elapse dt).lineAccepted l) hsounds, htell⟩
    · have hrelease : s.inputs[l].nextActive = false := hactive
      have hidle : deliverLine l ((s.elapse dt).lineAccepted l) = (s.elapse dt).lineAccepted l := by
        rw [deliverLine_stop ((lineAccepted_function dt l s).trans hfun), lineAccepted_active, State.elapse_inputs, hrelease,
          Bool.and_false, if_neg Bool.false_ne_true]
      exact exec_debounced_alone hawake hp hdue hidle
    · have hvalue := deliverInput_value (s := (s.elapse dt).lineAccepted l) (followsLine_iff.mpr ⟨hkind, hline⟩)
      rw [lineAccepted_active, State.elapse_inputs, bit_cast] at hvalue
      exact hvalue
    · exact deliverInput_other (s := (s.elapse dt).lineAccepted l)
        (Bool.eq_false_iff.mpr fun hyes => hno (followsLine_iff.mp hyes))
    · exact deliverInput_stored l _
  · have hact : ((s.elapse dt).lineAccepted l).isActive = true := (s.awake_iff.mp hawake).2
    have hexec := exec_doorInput hawake hp hdue hf hm
    have henter := fun (x : DoorUnit) (st : DoorState) => enter_lineAccepted x st dt l s
    intro u active v x L go becomes clash moving
    have hactive : s.inputs[l].nextActive = active := rfl
    rw [hactive] at hexec
    refine ⟨fun st hclash h => ?_, fun hclash hx hfun ha hl => ?_, fun hclash hx hfun ha => ?_,
      fun hclash hmove he hr ho hc => ?_, fun hx hl hfun => ?_, fun hfun ha he hd => ?_, fun hfun ha hx => ?_,
      fun hx hr ho hc => ?_⟩
    · obtain ⟨hstands, hlatch, hforced⟩ := doorInput_moves (v := (s.elapse dt).lineAccepted l) hact hclash h
      exact ⟨_, hexec, hstands.fields (henter _ st), hlatch, hforced⟩
    · have hstands := doorInput_completes (v := (s.elapse dt).lineAccepted l) (active := active) hfun ha hx hclash hl
      refine ⟨_, hexec, hstands.fields ?_⟩
      unfold completed
      rw [henter]
      rfl
    · have hrecord : reversed (s.doors[d].noted f active) ((s.elapse dt).lineAccepted l) =
          { go .opening with reversals := bump8 x.reversals, obstructions := bump32 x.obstructions } := by
        unfold reversed
        rw [henter]
        rfl
      obtain ⟨hfree, hheld⟩ := doorInput_reverses (v := (s.elapse dt).lineAccepted l) (active := active) hfun ha hact hx hclash
      refine ⟨_, hexec, fun hno => (hfree hno).fields hrecord, fun hyes => ?_⟩
      obtain ⟨hstands, hobstructed⟩ := hheld hyes
      refine ⟨hstands.fields ?_, hobstructed⟩
      exact congrArg (fun u : DoorUnit => { u with released := false, openCommand := true }) hrecord
    · obtain ⟨hstands, hconflict⟩ := doorInput_conflict (v := (s.elapse dt).lineAccepted l) (f := f) (active := active) hact
        ⟨he, hr, ho, hc⟩ hmove hclash
      exact ⟨_, hexec, hstands.fields (henter _ .fault), hconflict⟩
    · obtain ⟨hstands, hfaults⟩ := doorInput_recovers (v := (s.elapse dt).lineAccepted l) (f := f) (active := active) hact
        hx hl hfun
      exact ⟨_, hexec, hstands.fields (henter _ L.derived), hfaults⟩
    · obtain ⟨hstands, hemergency⟩ := doorInput_emergency (v := (s.elapse dt).lineAccepted l) (active := active) hfun ha hact
        he hd
      exact ⟨_, hexec, hstands.fields (henter _ .emergency), hemergency⟩
    · obtain ⟨hstands, hemergency⟩ := doorInput_emergencyEnds (v := (s.elapse dt).lineAccepted l) (active := active) hfun ha
        hact hx
      exact ⟨_, hexec, hstands.fields (henter _ L.derived), hemergency⟩
    · rw [hexec, doorInput_disabled (v := (s.elapse dt).lineAccepted l) hx hr ho hc]
      rfl

end Sys2Proof.Machine
end
